-- ==== Sys2Proof/Word.lean ====
section
/-! DEFINITION. The word types of the Nelquel register and packet world (00_scope.md R8, R13). -/
namespace Sys2Proof

/-- One byte of a packet, an image or a memory. -/
abbrev Byte := BitVec 8

/-- A 16-bit packet field. -/
abbrev Half := BitVec 16

/-- A register word: registers are 32 bits wide (R13). -/
abbrev Word := BitVec 32

/-- A 64-bit counter such as frame time (R339). -/
abbrev DWord := BitVec 64

end Sys2Proof
end

