-- ==== Sys2Proof/Syntax.lean ====
section
/-! DEFINITION. The commands: one constructor of Instr per row of the opcode table, with the row's operands.
A host command carries its header and its parameter fields (20_command_reference.md); an event carries the unit it
happens in and whatever the outside world brings to it. -/
namespace Sys2Proof

/-- What a command packet's header gives a command (R518): the TAG and the NOTIFY flag. -/
structure CmdHdr where
  tag : Byte
  notify : Bool
  deriving DecidableEq, Repr

/-- What casement code hands the hinge for a ticket's record (R164, R171): a status and the verdict fields. -/
structure VerdictIn where
  status : Byte
  hyp : Nat
  valid : Bool
  class1 : Nat
  class2 : Nat
  score1 : Int
  score2 : Int
  anomaly : Int
  deriving DecidableEq, Repr

/-- The header of a received stack frame (R400): the port it came in on, its fields, and whether its CRC and, with AUTH,
its tag are right. -/
structure StkHdr where
  port : Nat
  src : Nat
  dst : Nat
  auth : Bool
  good : Bool
  seq : Nat
  ack : Nat
  counter : Nat
  onGiveUpTick : Bool
  deriving DecidableEq, Repr

/-- The header of a received site frame (R416): the port it came in on, its fields, and whether its FCS and, with AUTH,
its tag are right. -/
structure SiteHdr where
  port : Nat
  auth : Bool
  good : Bool
  ackReq : Bool
  alarm : Bool
  dst : Nat
  src : Nat
  hops : Nat
  seq : Nat
  counter : Nat
  deriving DecidableEq, Repr


/-- What a WRITE_REG brings: its address and value pairs in order, and per pair the W1C bits of its register that hardware set
on the tick of its write, by the rows before this one (R11). -/
structure RegWrites where
  pairs : List (Word × Word)
  setNow : List Word
  deriving DecidableEq, Repr

/-- A written word, and the W1C bits of its register that hardware set on this core tick, by the rows before this one (R11). -/
structure RegWord where
  value : Word
  setNow : Word
  deriving DecidableEq, Repr

/-- What falls on the tick of a lease request: the expiry of the lease (R199), and the request of another party, by its router
id (R200). -/
structure LeaseTick where
  onExpiryTick : Bool
  rival : Option Nat
  deriving DecidableEq, Repr

/-- A casement that restarts, and whether the host fences it on the same tick (R11). -/
structure RestartOf where
  casement : Nat
  onFenceTick : Bool
  deriving DecidableEq, Repr

/-- What an array update falls on: the end of 10 ms (R101), and the end of a calibration pair (R117). -/
structure UpdateTick where
  tenMs : Bool
  withPair : Bool
  deriving DecidableEq, Repr

/-- The supply that the lintel runs from now, VDD_IO or VBAT, and whether VBAT is above its threshold (R442). -/
structure LintelSupply where
  toVddio : Bool
  vbatOk : Bool
  deriving DecidableEq, Repr

/-- The records of a RECORD frame, and whether their destinations include the host (R407). -/
structure RecordFrame where
  toHost : Bool
  records : List Byte
  deriving DecidableEq, Repr

/-- The header of a SYNC frame, and whether it asks for the partner's times or brings them (R421). -/
structure SyncHdr where
  frame : StkHdr
  request : Bool
  deriving DecidableEq, Repr

/-- A site port whose PHY is released, and the link status that it reports (R415, R612). -/
structure PhyUp where
  port : Nat
  link : Bool
  deriving DecidableEq, Repr

/-- The commands of the block: one constructor per row of the opcode table. -/
inductive Instr where
  /-- COMMAND_PACKET (R522): A command packet received whole in a WRITE or WRITE_QUAD transaction is parsed, checked for framing and accepted into a command slot or answered with a link reply. -/
  | commandPacket (bytes : List Byte)
  /-- TRUNCATED_PACKET (R522): HCS_N rises before the packet's last CRC byte is sampled; the packet is discarded with no reply and LAST_ERR reads 2. -/
  | truncatedPacket (bytes : List Byte)
  /-- UNKNOWN_INSTRUCTION (R515): A transaction that opens with an unknown SPI instruction is ignored and LAST_ERR is set to 1. -/
  | unknownInstruction (code : Byte)
  /-- READ_TRANSACTION (R526): A READ or READ_QUAD transaction clocks out outbound-stream bytes oldest first; HIRQ_N is released when HCS_N rises with no flagged byte left unread. -/
  | readTransaction (n : Nat)
  /-- STATUS_TRANSACTION (R516): A STATUS transaction returns the link status word and clears its ERR bit. -/
  | statusTransaction (n : Nat)
  /-- COMMAND_TAKEN (R524): The hinge takes the next queued command for execution, checks it under R388 and, for an opening command in WAKING, enters AJAR. -/
  | commandTaken (onDeadlineTick : Bool)
  /-- DEADLINE_EXPIRY (R525): A queued command whose DEADLINE passes before it is taken ends with TIMEOUT and has no side effect. -/
  | deadlineExpiry (tag : Byte)
  /-- REPLY_ENTERS_STREAM (R527): A reply that waited for room enters the outbound stream whole, and its tag stops being outstanding. -/
  | replyEntersStream
  /-- NOTIFICATION_ENTERS_STREAM (R527): A waiting notification enters the outbound stream once the stream has room for all of it. -/
  | notificationEntersStream
  /-- RESOLUTION_ENTERS_STREAM (R532): Up to 64 of the oldest waiting resolutions of one kind enter the stream as one NOTE_CONFIRM or NOTE_RETRACT packet. -/
  | resolutionEntersStream
  /-- LINK_UP (R535): When the host link becomes ready after a reset, the device creates NOTE_STATE LINK_UP with SEQ 0 and pulls HIRQ_N low. -/
  | linkUp
  /-- NOP (R552): NOP returns nothing and has no effect. -/
  | nop (h : CmdHdr)
  /-- IDENTIFY (R552): IDENTIFY returns the ordering code, grade, silicon version, straps, unique ID and ROM and patch versions. -/
  | identify (h : CmdHdr)
  /-- GET_STATE (R552): GET_STATE returns the state word and DEV_SINCE. -/
  | getState (h : CmdHdr)
  /-- RESET (R351): RESET replies OK and then requests a reset at the level it names, beginning 10 µs after the reply has left. -/
  | reset (h : CmdHdr) (level : Byte)
  /-- START_ABORT (R364): START_ABORT in WAKING fails the start with reason HOST_ABORT, which is followed by a START_FAIL SYSRST. -/
  | startAbort (h : CmdHdr)
  /-- DOORSTEP_RELEASE (R367): DOORSTEP_RELEASE clears the start-failure count, the reasons and DOORSTEP_REASON in the lintel. -/
  | doorstepRelease (h : CmdHdr)
  /-- PATCH_LOAD (R555): PATCH_LOAD stages one packet of a hinge patch; the last packet validates and authenticates the patch and starts it at ENTRY. -/
  | patchLoad (h : CmdHdr) (offset : Word) (data : List Byte)
  /-- READ_REG (R556): READ_REG reads COUNT consecutive register words after checking every address. -/
  | readReg (h : CmdHdr) (addr : Word) (count : Half)
  /-- WRITE_REG (R556): WRITE_REG applies its address and value pairs in order on consecutive HCLK ticks after checking every address. -/
  | writeReg (h : CmdHdr) (writes : RegWrites)
  /-- SHUTTER_OPEN (R324): SHUTTER_OPEN opens the named closed domains one at a time in ascending order and replies when the last is open. -/
  | shutterOpen (h : CmdHdr) (mask : Half)
  /-- SHUTTER_CLOSE (R328): SHUTTER_CLOSE starts a drained close of every named open domain on one tick. -/
  | shutterClose (h : CmdHdr) (mask : Half)
  /-- SHUTTER_CLOSE_FORCE (R329): SHUTTER_CLOSE with FORCE set ends the drain at once, discards the work in flight and cuts power within 2 µs. -/
  | shutterCloseForce (h : CmdHdr) (mask : Half)
  /-- DOZE (R331): DOZE makes a retention close of the quadrants and SILL and an ordinary close of STORM and DOOR, and the device enters DOZING. -/
  | doze (h : CmdHdr)
  /-- WAKE (R332): WAKE reopens the dozed domains with retention and returns the device to AJAR. -/
  | wake (h : CmdHdr)
  /-- CLOCK_CONFIG (R340): CLOCK_CONFIG writes the RMII reference enables of CLK_CTRL. -/
  | clockConfig (h : CmdHdr) (value : Byte)
  /-- PANE_PROGRAM (R65): PANE_PROGRAM checks the address, the pane and the image, then queues the pane or starts its program. -/
  | paneProgram (h : CmdHdr) (pane flags : Byte) (addr : Word)
  /-- PANE_AUDIT (R559): PANE_AUDIT with records accepts up to 16 audit records and audits each named pane. -/
  | paneAudit (h : CmdHdr) (records : List Byte)
  /-- PANE_AUDIT_RETAINED (R80): PANE_AUDIT without records audits each named pane against its retained record. -/
  | paneAuditRetained (h : CmdHdr) (panes : List Byte)
  /-- PANE_SELFTEST (R83): PANE_SELFTEST runs vectors 28–31 and a leakage product on a TRUSTED pane and replies with the outcome. -/
  | paneSelftest (h : CmdHdr) (pane : Byte)
  /-- PANE_RETIRE (R560): PANE_RETIRE sets a pane RETIRED, discards its ledger entries and queues a fault-log entry. -/
  | paneRetire (h : CmdHdr) (pane : Byte)
  /-- PANE_GRAFT (R84): PANE_GRAFT checks that the spare is eligible and grafts it in place of a bound target for the tickets that issue from then on. -/
  | paneGraft (h : CmdHdr) (target spare : Byte)
  /-- PANE_STATUS (R561): PANE_STATUS returns a 16-byte status entry for each pane of a range. -/
  | paneStatus (h : CmdHdr) (first count : Byte)
  /-- LEDGER_READ (R115): LEDGER_READ returns a snapshot of a pane's ledger header and column entries. -/
  | ledgerRead (h : CmdHdr) (pane : Byte) (first count : Half)
  /-- MODEL_LOAD (R562): MODEL_LOAD writes one packet of a container to a slot; the last packet validates the container and makes the slot LOADED. -/
  | modelLoad (h : CmdHdr) (slot : Byte) (offset : Nat) (data : List Byte)
  /-- MODEL_START (R162): MODEL_START binds the ticket map, releases the slot's cores, sets the step count to 0 and chooses the mode. -/
  | modelStart (h : CmdHdr) (slot policy reserve dest : Byte) (mask : Half)
  /-- MODEL_STOP (R163): MODEL_STOP stops window acceptance at once; it replies after the last record, and the slot becomes LOADED. -/
  | modelStop (h : CmdHdr) (slot : Byte)
  /-- MODEL_UNLOAD (R564): MODEL_UNLOAD zeroes a slot's code and table descriptors and empties the slot. -/
  | modelUnload (h : CmdHdr) (slot : Byte)
  /-- RUN_WINDOW (R173): RUN_WINDOW takes a host-supplied window from sill, converts and flags its samples, and gives it a ticket and a step. -/
  | runWindow (h : CmdHdr) (slot channel wshift wflags : Byte) (addr : Word)
  /-- RESULT_READ (R566): RESULT_READ removes up to MAX records from the result queue, oldest first. -/
  | resultRead (h : CmdHdr) (max : Byte)
  /-- CHECK_CONFIG (R236): CHECK_CONFIG validates a check-configuration section and replaces that of a LOADED slot. -/
  | checkConfig (h : CmdHdr) (slot : Byte) (sect : List Byte)
  /-- SILL_WRITE (R567): SILL_WRITE writes host data to sill, holding the lease and obeying the clear and zero-front holds. -/
  | sillWrite (h : CmdHdr) (addr : Word) (data : List Byte)
  /-- SILL_READ (R567): SILL_READ returns sill bytes, with a status that reports uncorrectable or unwritten data. -/
  | sillRead (h : CmdHdr) (addr : Word) (len : Half)
  /-- SILL_TABLE_DEFINE (R186): SILL_TABLE_DEFINE checks a table descriptor and defines, changes or deletes the table. -/
  | sillTableDefine (h : CmdHdr) (desc : List Byte)
  /-- SILL_ZERO (R194): SILL_ZERO writes zero to a 128-byte-aligned range and clears the range's written bits. -/
  | sillZero (h : CmdHdr) (addr len : Word)
  /-- PROBE_CONFIG (R569): PROBE_CONFIG writes SENS, clears TEDS_EXCL or writes SUP_CFG, as its OPS field selects. -/
  | probeConfig (h : CmdHdr) (channel ops : Byte) (sens sup : Word)
  /-- EXC_SET (R263): EXC_SET writes the excitation codes of the masked channels on one tick. -/
  | excSet (h : CmdHdr) (mask : Half) (codes : List Half)
  /-- TEDS_READ (R570): TEDS_READ queues a TEDS read access and replies with the probe's memory when the access ends. -/
  | tedsRead (h : CmdHdr) (channel : Byte)
  /-- TEDS_WRITE (R570): TEDS_WRITE queues a TEDS access that writes 8-byte rows of the probe's memory. -/
  | tedsWrite (h : CmdHdr) (channel row count : Byte) (data : List Byte)
  /-- PROBE_LIFE_GET (R571): PROBE_LIFE GET returns the channel's life accumulators and block fields. -/
  | probeLifeGet (h : CmdHdr) (channel : Byte)
  /-- PROBE_LIFE_SET (R571): PROBE_LIFE SET loads RATED and the accumulators and sets LIFE_VALID. -/
  | probeLifeSet (h : CmdHdr) (channel : Byte) (rated consumed : Word) (seconds shocks : Half)
  /-- PROBE_LIFE_WRITE (R571): PROBE_LIFE WRITE writes the life block to the probe through a TEDS access. -/
  | probeLifeWrite (h : CmdHdr) (channel : Byte)
  /-- SURVEY_SEQ (R303): SURVEY_SEQ writes sequence entries and LENGTH, restarting the sequencer when RESTART is set. -/
  | surveySeq (h : CmdHdr) (flags first length : Byte) (entries : List Word)
  /-- SURVEY_URGENT (R308): SURVEY_URGENT places an urgent survey request and replies when its result is written. -/
  | surveyUrgent (h : CmdHdr) (channel : Byte)
  /-- SURVEY_CAL (R310): SURVEY_CAL abandons the running conversion and runs eight calibration conversions. -/
  | surveyCal (h : CmdHdr)
  /-- ACQ_CAL (R281): ACQ_CAL takes the masked channels out of windowing and calibrates their offset and gain. -/
  | acqCal (h : CmdHdr) (mask : Half)
  /-- ACQ_CONFIG (R569): ACQ_CONFIG writes CFG, HOP and ATTEN to every masked channel on one tick and discards their windows in progress. -/
  | acqConfig (h : CmdHdr) (mask : Half) (cfg hop atten : Word)
  /-- STACK_CONFIG_FORM (R573): STACK_CONFIG FORM forms the stack and starts its epochs. -/
  | stackConfigForm (h : CmdHdr)
  /-- STACK_CONFIG_FORWARD (R406): STACK_CONFIG FORWARD sends a command packet to a partner in a CMD frame and returns the partner's reply. -/
  | stackConfigForward (h : CmdHdr) (target : Byte) (packet : List Byte)
  /-- STACK_CONFIG_RESET (R406): STACK_CONFIG RESET sends a RESET frame to a partner. -/
  | stackConfigReset (h : CmdHdr) (target level : Byte)
  /-- STACK_CONFIG_PORTS (R573): STACK_CONFIG PORTS writes the port enables and AUTH of STACK_CFG. -/
  | stackConfigPorts (h : CmdHdr) (value : Byte)
  /-- STACK_CONFIG_STATUS (R573): STACK_CONFIG STATUS returns the stack status, epoch and port registers. -/
  | stackConfigStatus (h : CmdHdr)
  /-- FABRIC_JOIN (R418): FABRIC_JOIN enables the named site ports and starts HELLO. -/
  | fabricJoin (h : CmdHdr) (ports : Byte)
  /-- FABRIC_LEAVE (R418): FABRIC_LEAVE floods a record with no neighbours and stops HELLO. -/
  | fabricLeave (h : CmdHdr) (ports : Byte)
  /-- FABRIC_TABLE (R575): FABRIC_TABLE splits table entries into TABLE frames and sends them to a node or as a broadcast. -/
  | fabricTable (h : CmdHdr) (table : Byte) (dest : Half) (offset : Word) (data : List Byte)
  /-- FABRIC_SEND (R576): FABRIC_SEND sends a USER payload with its references to a fabric node. -/
  | fabricSend (h : CmdHdr) (flags : Byte) (dest : Half) (payload : List Byte)
  /-- FABRIC_FETCH (R576): FABRIC_SEND FETCH returns the oldest received USER frame. -/
  | fabricFetch (h : CmdHdr)
  /-- TIME_ALIGN (R577): TIME_ALIGN converts a partner's frame time to the device's own, with its error bound and rate. -/
  | timeAlign (h : CmdHdr) (kind : Byte) (partner : Half) (time : DWord)
  /-- JAMB_READ (R433): JAMB_READ returns jamb bytes or whole pages, with ECC correction and masks of uncorrectable groups. -/
  | jambRead (h : CmdHdr) (page offset : Byte) (count : Half)
  /-- JAMB_WRITE (R434): JAMB_WRITE loads or overlays the page buffer and leaves it OPEN on the page. -/
  | jambWrite (h : CmdHdr) (page offset : Byte) (data : List Byte)
  /-- JAMB_COMMIT (R435): JAMB_COMMIT starts the journalled commit of the OPEN page buffer. -/
  | jambCommit (h : CmdHdr) (page : Byte)
  /-- JAMB_COMMIT_DISCARD (R434): JAMB_COMMIT with DISCARD set returns an OPEN buffer to FREE without programming anything. -/
  | jambCommitDiscard (h : CmdHdr) (page : Byte)
  /-- JAMB_LOCK (R439): JAMB_LOCK permanently locks page 255 through a commit of the journal control row. -/
  | jambLock (h : CmdHdr) (page : Byte)
  /-- BOLT (R489): BOLT puts the device into the BOLTED overlay. -/
  | bolt (h : CmdHdr)
  /-- UNBOLT (R493): UNBOLT clears the device's own bolt cause and returns DBG_BOLT. -/
  | unbolt (h : CmdHdr)
  /-- LATCH_SET (R579): LATCH_SET sets or clears a latch point of a core and restarts its count. -/
  | latchSet (h : CmdHdr) (hart index mtch actions : Byte) (count : Half) (value mask step : Word)
  /-- DUMP_TENSOR_ARM (R498): DUMP_TENSOR ARM arms a capture of a symbol at a future step of a slot. -/
  | dumpTensorArm (h : CmdHdr) (slot : Byte) (symbol : Half) (step : Word)
  /-- DUMP_TENSOR_CANCEL (R580): DUMP_TENSOR CANCEL ends a named armed dump with OK and no data. -/
  | dumpTensorCancel (h : CmdHdr) (slot : Byte) (symbol : Half) (step : Word)
  /-- COUNTERS_READ (R499): COUNTERS_READ returns a one-tick snapshot of the named counters and clears them if CLEAR is set. -/
  | countersRead (h : CmdHdr) (flags : Byte) (ids : List Half)
  /-- TRACE_CONFIG (R580): TRACE_CONFIG writes TRACE_CTRL and, with RESTART set, zeroes the trace position and status. -/
  | traceConfig (h : CmdHdr) (ctrl : Word) (flags : Byte)
  /-- KEY_PROVISION_GENERATE (R459): KEY_PROVISION GENERATE creates a new device key pair from the entropy source. -/
  | keyProvisionGenerate (h : CmdHdr) (slot : Byte)
  /-- KEY_PROVISION_WRITE_IMAGE (R459): KEY_PROVISION WRITE IMAGE stores the image-verification public key, subject to the fused hash. -/
  | keyProvisionWriteImage (h : CmdHdr) (slot : Byte) (key : List Byte)
  /-- KEY_PROVISION_WRITE_FABRIC (R459): KEY_PROVISION WRITE FABRIC stores the fabric group key. -/
  | keyProvisionWriteFabric (h : CmdHdr) (slot : Byte) (key : List Byte)
  /-- KEY_PROVISION_WRITE_STACK (R459): KEY_PROVISION WRITE STACK stores the stack key. -/
  | keyProvisionWriteStack (h : CmdHdr) (slot : Byte) (key : List Byte)
  /-- KEY_PROVISION_READ_PUBLIC (R581): KEY_PROVISION READ_PUBLIC returns DEV_PUB or IMG_PUB. -/
  | keyProvisionReadPublic (h : CmdHdr) (slot : Byte)
  /-- KEY_PROVISION_CLEAR (R459): KEY_PROVISION CLEAR zeroes one key slot. -/
  | keyProvisionClear (h : CmdHdr) (slot : Byte)
  /-- SEAL (R457): SEAL burns the key hash and the three seal fuse bits. -/
  | seal (h : CmdHdr) (hash : List Byte)
  /-- TAMPER_POLICY (R471): TAMPER_POLICY writes all eight tamper policies at once, raise-only on a sealed device. -/
  | tamperPolicy (h : CmdHdr) (policy : Half)
  /-- ALARM_CLEAR (R477): ALARM_CLEAR clears the alarm latch, with the owner's challenge answer on a sealed device. -/
  | alarmClear (h : CmdHdr) (answer : List Byte)
  /-- AUTH_CHALLENGE_REQUEST (R464): AUTH_CHALLENGE REQUEST issues a challenge block for a purpose and replaces any outstanding one. -/
  | authChallengeRequest (h : CmdHdr) (purpose : Byte)
  /-- AUTH_CHALLENGE_ATTEST (R466): AUTH_CHALLENGE REQUEST with purpose ATTEST signs the challenge block with DEV_PRIV. -/
  | authChallengeAttest (h : CmdHdr) (nonce : List Byte)
  /-- AUTH_CHALLENGE_ANSWER (R467): AUTH_CHALLENGE ANSWER verifies a PRIVILEGE challenge answer and opens a privileged session. -/
  | authChallengeAnswer (h : CmdHdr) (sig : List Byte)
  /-- REGISTER_WRITE (R9): A write to a register field with no behaviour of its own acts under its access code. -/
  | registerWrite (addr : Word) (word : RegWord)
  /-- PANE_CLR_COUNTS (R53): A write of 1 to PANE_EVENTS.CLR_COUNTS clears PANE_OVR_COUNT and PANE_PRODUCTS. -/
  | paneClrCounts (pane : Nat)
  /-- CSM_CTRL_HALT (R123): A write to CSM_CTRL.HALT halts or releases the casement core at the next instruction boundary. -/
  | csmCtrlHalt (c : Nat) (halt : Bool)
  /-- CSM_CTRL_RESTART (R146): A write of 1 to CSM_CTRL.RESTART runs the casement-local reset and restart of a FAILED or halted core. -/
  | csmCtrlRestart (c : Nat)
  /-- CSM_WDT_KICK (R145): A write of 0xA5 to CSM_WDT.KICK restarts the casement watchdog count. -/
  | csmWdtKick (c : Nat) (onExpiryTick : Bool)
  /-- HOST_FENCE (R146): A host write of 1 to a MUL_FENCE0 bit is a casement fault of that casement. -/
  | hostFence (c : Nat)
  /-- HWDT_KICK (R352): A write of 0x5A to HWDT.KICK restarts the hinge watchdog count. -/
  | hwdtKick (onExpiryTick : Bool)
  /-- RESQ_CLR_HIGH (R172): A write of 1 to RESQ_STATUS.CLR_HIGH sets the result queue's high-water mark to its current count. -/
  | resqClrHigh
  /-- EXC_CODE_WRITE (R263): A write to EXC_CODEn sets the excitation output, clears EXC_FAULT and, with code 0, disables the channel. -/
  | excCodeWrite (ch : Nat) (code : Word)
  /-- ACQ_GAIN_WRITE (R281): A host write to ACQ_GAIN sets GCORR and clears UNCAL. -/
  | acqGainWrite (ch : Nat) (value : Word)
  /-- SINGLE_GO (R304): A write of 1 to SVY_CTRL.SINGLE_GO in single mode starts one survey conversion. -/
  | singleGo
  /-- SVY_MODE_WRITE (R305): A write that changes SVY_CTRL.MODE abandons the running conversion and stops, sequences or single-steps the converter. -/
  | svyModeWrite (mode : Nat)
  /-- SVY_MAINS_WRITE (R296): A change of SVY_CTRL.MAINS selects the mains frequency from the next conversion and sets UNCAL. -/
  | svyMainsWrite (mains : Nat)
  /-- SVY_LOWPWR_WRITE (R309): A change of SVY_CTRL.LOWPWR switches low-power mode from the next conversion and sets UNCAL. -/
  | svyLowpwrWrite (on : Bool)
  /-- SVY_CALREF_WRITE (R311): A host write to SVY_CALREF sets nr and clears UNCAL. -/
  | svyCalrefWrite (value : Word)
  /-- SVY_RESULT_READ (R300): A read of SVY_SLOTk or SVY_LASTc latches the paired time register until that register is read. -/
  | svyResultRead (last : Bool) (k : Nat)
  /-- FT_LO_READ (R339): A read of FT_LO latches the upper half of frame time for the next FT_HI read. -/
  | ftLoRead
  /-- FRAME_TIME_CSR_READ (R125): A core's read of CSR 0xFC0 latches the upper half of frame time for the next read of 0xFC1. -/
  | frameTimeCsrRead (c : Nat) (rd : BitVec 5)
  /-- RTC_LO_READ (R444): A read of RTC_LO latches RTC_HI for the next read. -/
  | rtcLoRead
  /-- STK_OFF_LO_READ (R421): A read of STK_OFFs_LO latches STK_OFFs_HI. -/
  | stkOffLoRead (id : Nat)
  /-- DBG_BOLT_FT_LO_READ (R489): A read of DBG_BOLT_FT_LO latches DBG_BOLT_FT_HI. -/
  | dbgBoltFtLoRead
  /-- ALARM_HI_WRITE (R445): A write to ALARM_HI arms the lintel wake alarm with the 48-bit value. -/
  | alarmHiWrite (value : Word)
  /-- WAKE_ALARM_CLEAR (R445): A write of 1 to WAKE.ALARM clears the bit and stops the lintel driving LWAKE_N low. -/
  | wakeAlarmClear
  /-- WAKE_DISARM (R445): A write of 1 to WAKE.DISARM disarms the wake alarm. -/
  | wakeDisarm
  /-- DB_CTRL_DROP (R467): A write of 1 to DB_CTRL.DROP ends the privileged session. -/
  | dbCtrlDrop
  /-- TRACE_MARK (R502): A write to TRACE_MARK produces a MARK trace record with the value written. -/
  | traceMark (value : Word)
  /-- LIN_SET (R245): A write to LIN_SET sets one lineage reference of a RUNNING ticket, or is ignored with LIN_ERR. -/
  | linSet (ticket pos ref : Nat)
  /-- CORE_INSTRUCTION (R122): A casement core executes an RV32IMC or Zicsr instruction, including loads and stores that become remote accesses. -/
  | coreInstruction (c : Nat)
  /-- MACHINE_EXTERNAL_INTERRUPT (R126): A casement core takes a machine external interrupt when irq_pend AND irq_en is nonzero. -/
  | machineExternalInterrupt (c : Nat)
  /-- PN_FIRE (R130): PN.FIRE copies and stages an input vector and queues a product to the local pane, a grafted spare or the storm. -/
  | pnFire (c : Nat) (rd rs1 rs2 : BitVec 5)
  /-- PN_COLLECT (R131): PN.COLLECT waits for the slot's oldest product and writes its corrected codes, residuals and product word. -/
  | pnCollect (c : Nat) (rd rs1 rs2 : BitVec 5)
  /-- AU_COPY (R134): AU.op COPY copies INT16 lanes. -/
  | auCopy (c : Nat) (rd rs1 rs2 : BitVec 5)
  /-- AU_ABS (R134): AU.op ABS writes the absolute value of each lane. -/
  | auAbs (c : Nat) (rd rs1 rs2 : BitVec 5)
  /-- AU_RELU (R134): AU.op RELU writes max(0, x) for each lane. -/
  | auRelu (c : Nat) (rd rs1 rs2 : BitVec 5)
  /-- AU_MAG2 (R134): AU.op MAG2 writes the rounded magnitude of each lane pair. -/
  | auMag2 (c : Nat) (rd rs1 rs2 : BitVec 5)
  /-- AU_SCALE (R134): AU.op SCALE multiplies each lane by SCALE and shifts it right. -/
  | auScale (c : Nat) (rd rs1 rs2 : BitVec 5)
  /-- AU_ADD (R134): AU.op ADD adds a second source lane by lane and shifts the sum right. -/
  | auAdd (c : Nat) (rd rs1 rs2 : BitVec 5)
  /-- AU_POOLSUM (R134): AU.op POOLSUM writes the shifted sum of each pool group. -/
  | auPoolsum (c : Nat) (rd rs1 rs2 : BitVec 5)
  /-- AU_POOLMAX (R134): AU.op POOLMAX writes the maximum of each pool group. -/
  | auPoolmax (c : Nat) (rd rs1 rs2 : BitVec 5)
  /-- MQ_SEND (R132): MQ.SEND injects a DATA or REQ_USER message, stalling for an inbox credit or RSP slot. -/
  | mqSend (c : Nat) (rd rs1 rs2 : BitVec 5)
  /-- MQ_RECV (R133): MQ.RECV returns the receive header of the oldest message in a ring, blocking if asked. -/
  | mqRecv (c : Nat) (rd rs1 : BitVec 5)
  /-- MQ_WAIT (R133): MQ.WAIT waits for the reply to a tag, for at most CSM_TIMEOUT.LIMIT. -/
  | mqWait (c : Nat) (rd rs1 : BitVec 5)
  /-- MQ_REPLY (R133): MQ.REPLY sends an RSP to a REQ_USER source, frees the slot and returns its credit. -/
  | mqReply (c : Nat) (rd rs1 rs2 : BitVec 5)
  /-- MQ_FREE (R133): MQ.FREE frees an inbox or RSP slot and returns its credit. -/
  | mqFree (c : Nat) (rd rs1 : BitVec 5)
  /-- SL_LOOKUP (R189): SL.LOOKUP sends a pooled lookup request for up to eight keys of one table. -/
  | slLookup (c : Nat) (rd rs1 rs2 : BitVec 5)
  /-- SL_LEASE (R193): SL.LEASE with release clear requests or renews a table's write lease. -/
  | slLease (c : Nat) (rd : BitVec 5) (table : Nat)
  /-- SL_LEASE_RELEASE (R193): SL.LEASE with release set frees the table's write lease. -/
  | slLeaseRelease (c : Nat) (rd : BitVec 5) (table : Nat)
  /-- DATA (R141): A DATA message arriving at a casement is placed in the REQ ring under inbox credits, or is discarded. -/
  | data (src dst : Nat)
  /-- REQ_USER (R141): A REQ_USER message arriving at a casement is placed in the REQ ring, or is answered QUEUE_FULL. -/
  | reqUser (src dst : Nat)
  /-- RSP (R143): A reply arrives in its RSP slot and is discarded if its tag generation no longer matches. -/
  | rsp (src dst : Nat) (onExpiryTick : Bool)
  /-- REG_RD (R128): A remote register read request is served by hardware at the block's router. -/
  | regRd (src dst : Nat)
  /-- REG_WR (R128): A remote register write request is served by hardware at the block's router. -/
  | regWr (src dst : Nat)
  /-- SILL_RD (R183): A casement's sill read request is served at a sill edge router. -/
  | sillRd (src dst : Nat)
  /-- SILL_WR (R192): A casement's sill store is applied at a sill edge router, subject to leases and the HOST_ONLY flag. -/
  | sillWr (src dst : Nat)
  /-- SILL_LOOKUP (R190): A lookup request is accepted at its table's edge router and queued for the pool unit. -/
  | sillLookup (src dst : Nat)
  /-- SILL_LEASE (R193): A lease request is judged by the table's lease unit and answered. -/
  | sillLease (src dst : Nat) (at_ : LeaseTick)
  /-- PANE_FWD (R142): A forwarded product arrives at a spare's casement or at the storm, or is answered BUSY when the forwarding queue is full. -/
  | paneFwd (src dst : Nat)
  /-- CREDIT (R141): A CREDIT message grants or returns inbox credits to a source. -/
  | credit (src dst : Nat)
  /-- CONTROL (R139): A CONTROL message from the hinge or debug edge router acts on a casement. -/
  | control (src dst : Nat)
  /-- REQUEST_TIMEOUT (R144): A request times out CSM_TIMEOUT.LIMIT after its last flit; the instruction returns TIMEOUT and the slot's generation advances. -/
  | requestTimeout (c slot : Nat)
  /-- CASEMENT_WATCHDOG_EXPIRY (R145): A casement watchdog expires and causes a casement fault. -/
  | casementWatchdogExpiry (c : Nat)
  /-- CASEMENT_FAULT (R146): A casement fault fences the casement, halts its core and stops its NI injecting. -/
  | casementFault (c cause : Nat)
  /-- FENCE_DRAIN_END (R146): The 20 µs drain after a fence ends; reclaim returns credits and clears rings, and the local reset begins or the casement becomes FAILED. -/
  | fenceDrainEnd (c : Nat)
  /-- CASEMENT_RESTART (R146): The casement-local reset completes, the core restarts at CSM_ENTRY, the fence clears and quotas are granted. -/
  | casementRestart (c : RestartOf)
  /-- PRODUCT_START (R46): At its first row pulse a product latches PANE_CFG and runs or is refused according to the pane's state. -/
  | productStart (pane : Nat)
  /-- PRODUCT_COMPLETE (R42): A product's codes, OVR bits, residuals and location reach the casement result buffer. -/
  | productComplete (pane : Nat)
  /-- CALIBRATION_PAIR (R97): A CAL and a ZERO product run in an idle pane cycle and update the columns' offset and converter factor. -/
  | calibrationPair (pane : Nat)
  /-- CAL_PERIOD_EXPIRY (R98): CAL_PERIOD elapses and a calibration pair is scheduled for the pane. -/
  | calPeriodExpiry (pane : Nat)
  /-- CAL_INSERT (R98): With no idle cycle for 10 × CAL_PERIOD, the ledger inserts the calibration pair at the next ticket boundary. -/
  | calInsert (pane : Nat)
  /-- ARRAY_UPDATE (R101): After 1,024 contributing products, or 10 ms with at least 64, the ledger updates the array factor and spread. -/
  | arrayUpdate (pane : Nat) (at_ : UpdateTick)
  /-- LEDGER_ENTRY_STALE (R107): An entry not updated for 10 × CAL_PERIOD becomes stale and a calibration pair is scheduled. -/
  | ledgerEntryStale (pane col : Nat)
  /-- PROGRAM_START (R67): A queued or accepted program starts: the count is committed, the pane enters PROGRAMMING and PGM_EN rises. -/
  | programStart (pane : Nat)
  /-- VDD_PGM_GOOD (R67): The quadrant's VDD_PGM good comparator rises and program pulses begin or resume. -/
  | vddPgmGood (quadrant : Nat)
  /-- VDD_PGM_LOST (R91): VDD_PGM falls out of range mid-program and pulses pause. -/
  | vddPgmLost (quadrant : Nat)
  /-- PROGRAM_SUPPLY_TIMEOUT (R67): VDD_PGM not good for 10 ms ends the program with SUPPLY_FAIL. -/
  | programSupplyTimeout (pane : Nat)
  /-- PROGRAM_ITERATION (R68): One 24 µs program-and-verify iteration of a row completes. -/
  | programIteration (pane : Nat)
  /-- PROGRAM_END (R69): A program ends with outcome OK, CELLS_FAILED, SUPPLY_FAIL or ABORTED, and the pane takes its new state. -/
  | programEnd (pane : Nat)
  /-- AUDIT_START (R77): A casement starts the next requested audit of one of its panes and the pane enters AUDITING. -/
  | auditStart (c : Nat)
  /-- AUDIT_COMPLETE (R78): An audit ends PASS, CORRECTED or FAIL; the pane becomes TRUSTED with seeded ledger, or UNVERIFIED. -/
  | auditComplete (c : Nat)
  /-- SELFTEST_SUBSTEP (R83): One 2 µs self-test sub-step completes; the last one decides pass or fail. -/
  | selftestSubstep (pane : Nat)
  /-- GRAFT_RELEASE (R85): Once the last target-bound ticket completes, the target is released from the model and PENDING clears. -/
  | graftRelease (pane : Nat)
  /-- WINDOW_COMPLETE (R282): A window's last sample enters the assembler and the window is offered to every started instance that listens to the channel. -/
  | windowComplete (ch : Nat)
  /-- TICKET_DONE (R164): A ticket's record is assembled, its check state is set, and the ticket waits for lower steps. -/
  | ticketDone (ticket : Nat) (v : VerdictIn) (onExpiryTick : Bool)
  /-- RECORD_EMIT (R167): A DONE record whose lower steps are all emitted leaves for its destinations and enters the result queue. -/
  | recordEmit (slot : Nat)
  /-- TICKET_LIMIT_EXPIRY (R166): A ticket not DONE within TICKET_LIMIT is ended with status TIMEOUT. -/
  | ticketLimitExpiry (ticket : Nat)
  /-- LOOKUP_REPLY (R191): The pool unit finishes a queued lookup and sends the pooled reply with its masks and status. -/
  | lookupReply (edge : Nat)
  /-- LEASE_EXPIRY (R193): A table lease not renewed expires 50 µs after its last grant. -/
  | leaseExpiry (table : Nat)
  /-- SILL_CLEAR_COMPLETE (R195): The on-chip clear after a SILL opening completes and the held requests are served. -/
  | sillClearComplete
  /-- ZERO_FRONT_ADVANCE (R197): A companion die's zero front advances one row every 128 ns. -/
  | zeroFrontAdvance (die : Nat)
  /-- SCRUB_READ (R184): The scrubber reads the next row and corrects it. -/
  | scrubRead (u : Nat)
  /-- STREAMED_RUN_START (R214): The free storm begins a run of a streamed instance's oldest ISSUED tickets. -/
  | streamedRunStart
  /-- STORM_OPERATION_COMPLETE (R215): A storm program operation completes for the whole batch and the next operation begins. -/
  | stormOperationComplete
  /-- SHADOW_PASS_START (R219): When a dwell's last sample is staged and the storm is free, a shadow pass over the dwell begins. -/
  | shadowPassStart (slot lane : Nat)
  /-- STORM_PASS_END (R209): A substitution or shadow pass of the storm array completes. -/
  | stormPassEnd (onAbandonTick : Bool)
  /-- SAMPLE_ABANDON (R222): A shadow sample unresolved 1.9 ms after its ticket issued is abandoned and its verdict FLAGGED CHECKER_LOST. -/
  | sampleAbandon (slot step path n : Nat)
  /-- STORM_FAULT (R224): An uncorrectable buffer error or an overlong pass is a storm fault that ends forwarded and streamed work. -/
  | stormFault
  /-- STORM_RESTART (R224): The storm finishes clearing its buffers, restarts and sends NOTE_STATE STORM_RESTART. -/
  | stormRestart
  /-- SOURCE_LOSS (R249): A source unresolved 1.98 ms after its receipt is declared lost. -/
  | sourceLoss (node stackId slot seq : Nat)
  /-- SOURCE_HOLD_EXPIRY (R246): A source-table entry is removed 4 ms after its receipt or local emission. -/
  | sourceHoldExpiry (node stackId slot seq : Nat)
  /-- BIAS_DEPARTURE (R266): A bias departure that persists 16 µs is detected; the channel enters OPEN or SHORT and samples become gap samples. -/
  | biasDeparture (ch : Nat) (high : Bool)
  /-- BIAS_RETURN (R269): A bias return into the window that persists 16 µs puts an OPEN or SHORT channel into DEBOUNCE. -/
  | biasReturn (ch : Nat)
  /-- DEBOUNCE_COMPLETE (R270): After 100 ms of bias inside the window, the channel starts its TEDS access or SETTLING. -/
  | debounceComplete (ch : Nat)
  /-- TEDS_ACCESS_START (R272): The next queued TEDS access starts on the shared bus with excitation held at 0. -/
  | tedsAccessStart
  /-- TEDS_ACCESS_COMPLETE (R272): A TEDS access ends; TEDS_MODE falls and the saved excitation code is restored. -/
  | tedsAccessComplete (present : Bool) (ident memory : List Byte)
  /-- TEDS_STUCK (R273): TEDS_IO held low for 10 ms by another party ends the access and excludes the channel. -/
  | tedsStuck
  /-- SETTLE_COMPLETE (R270): After SETTLE the channel becomes ACTIVE, preloads the high-pass and sends NOTE_PROBE ARRIVED. -/
  | settleComplete (ch : Nat)
  /-- LIFE_SECOND (R275): Each second of nonzero excitation adds to SECONDS and rolls into CONSUMED at 3,600. -/
  | lifeSecond (ch : Nat)
  /-- SHOCK_BLOCK (R275): A completed block of window-length samples is judged a shock block and counted. -/
  | shockBlock (ch : Nat)
  /-- LIFE_AUTO_WRITE (R277): After 86,400 excitation seconds the life block is written at the next window completion. -/
  | lifeAutoWrite (ch : Nat)
  /-- ACQ_SAMPLE (R280): An acquisition channel delivers an output sample that is corrected, high-pass filtered and clamped, and enters the window assembler. -/
  | acqSample (ch : Nat) (raw : Int) (overload : Bool)
  /-- ACQ_CAL_PHASE_END (R281): A phase of acquisition calibration ends; the last sets OFF, GCORR and clears UNCAL. `phase`: which of its three phases ends. -/
  | acqCalPhaseEnd (ch phase : Nat)
  /-- SURVEY_CONVERSION_END (R295): A survey integration ends and its result is written and passed to supervision and the drift ledger. -/
  | surveyConversionEnd (packets : Nat) (overload : Bool)
  /-- SURVEY_PREDELAY_END (R301): A sequence entry's pre-delay ends and its first conversion begins. -/
  | surveyPredelayEnd
  /-- SHUTTER_COMMAND_START (R324): A shutter command waiting behind another starts once that command completes. -/
  | shutterCommandStart
  /-- CASEMENT_PAIR_START (R325): While a quadrant opens, the next pair of casements starts every 20 µs and its SRAM is zeroed. -/
  | casementPairStart (d : Nat)
  /-- DOMAIN_OPEN_COMPLETE (R325): A domain's opening completes and the next domain of the command may start. -/
  | domainOpenComplete (d : Nat)
  /-- RAIL_WAIT_TIMEOUT (R327): A required rail not good within 1 ms leaves the domain closed and the command replies INTERNAL_FAULT. -/
  | railWaitTimeout
  /-- RAIL_FAIL (R327): A rail of an open domain fails; the domain is force-closed and NOTE_STATE SUPPLY_CLOSE is sent. -/
  | railFail (d : Nat)
  /-- DRAIN_END (R328): A closing domain becomes quiescent or reaches 20 µs, and the ghost starts answering held heads. -/
  | drainEnd (d us : Nat) (expired : Bool) (nearMiss : Nat)
  /-- POWER_CUT (R328): A closing domain's power is cut and its clocks gated, and the command replies when the last domain is closed. -/
  | powerCut (d : Nat)
  /-- MAIN_SUPPLY_LOSS (R379): A monitored main rail falls below its threshold; the device enters DARK with a SUPPLY POR. -/
  | mainSupplyLoss
  /-- BROWN_OUT (R350): The brown-out detector on VDD_CORE requests POR. -/
  | brownOut
  /-- MONITOR_RELEASE (R617): The main-supply monitors release POR 1.0 to 1.2 ms after the last rail rises past its threshold. -/
  | monitorRelease
  /-- PLL_LOCK (R338): The root PLL locks, which allows internal reset to release. -/
  | pllLock
  /-- PLL_LOCK_LOSS (R338): The PLL loses lock and the root clock is gated. -/
  | pllLockLoss
  /-- RST_N_LOW (R355): A recognised low on RST_N requests SYSRST. -/
  | rstNLow
  /-- RST_N_HIGH (R355): RST_N returns high and its SYSRST request ends. -/
  | rstNHigh
  /-- RESET_STRETCH_END (R356): Internal reset releases 100 µs after the last request ends, and option load or a start begins. -/
  | resetStretchEnd
  /-- OPTION_LOAD_COMPLETE (R360): Option load completes; RSTOUT_N is released and the hinge starts at ROM or enters DOORSTEP. -/
  | optionLoadComplete (straps time : Nat)
  /-- HWDT_EXPIRY (R352): The hinge watchdog expires and requests SYSRST, failing a start before AJAR. -/
  | hwdtExpiry
  /-- AJAR_TIMEOUT (R364): AJAR is not reached 50 ms after reset release and the start fails. -/
  | ajarTimeout (ajarThisTick : Bool)
  /-- LINTEL_POR (R442): A supply returns after both supplies were absent; the lintel is cleared and keys read absent. -/
  | lintelPor (fromVddio : Bool)
  /-- LINTEL_SUPPLY_SWITCH (R442): The lintel switches between VDD_IO and VBAT without losing state. -/
  | lintelSupplySwitch (supply : LintelSupply)
  /-- EXTERNAL_WAKE (R445): An external low on LWAKE_N held for 2 lintel periods sets WAKE.EXT. -/
  | externalWake
  /-- WAKE_ALARM (R445): The real-time counter reaches the armed alarm; WAKE.ALARM is set and the lintel drives LWAKE_N low. -/
  | wakeAlarm
  /-- TAMPER_EVENT (R469): A tamper source becomes active and acts under its policy of LOG, ALARM, ERASE or HALT. -/
  | tamperEvent (active : Byte)
  /-- CHALLENGE_EXPIRY (R465): An outstanding challenge expires 10 s after issue. -/
  | challengeExpiry
  /-- DEVICE_COMMIT_START (R436): A waiting device jamb commit, for a program count or fault-log entry, starts once the controller is free. -/
  | deviceCommitStart
  /-- JAMB_COMMIT_COMPLETE (R435): A jamb commit finishes its journal steps; BUSY clears and the buffer is FREE. -/
  | jambCommitComplete (readBackOk : Bool)
  /-- BOLT_IO_LOW (R489): BOLT_IO low for 8 core ticks with EXT_BOLT_EN set bolts the device. -/
  | boltIoLow
  /-- TRIG_BOLT (R489): A TRIG pin in bolt-input mode going low bolts the device. -/
  | trigBolt (pin : Nat)
  /-- TRIG_MARK (R502): A falling edge on a TRIG pin in MARK mode writes a MARK trace record. -/
  | trigMark (pin value : Nat)
  /-- BOLT_QUIET (R490): All frozen units become quiescent after a bolt and DBG_BOLT.QUIET is set. -/
  | boltQuiet
  /-- BOLT_RELEASE (R493): With no own cause and BOLT_IO high for 8 ticks, the device leaves BOLTED and the frozen units resume. -/
  | boltRelease
  /-- HISTOGRAM_SAMPLE (R500): Every 64 core ticks outside BOLTED, each queue's occupancy is added to its histogram. -/
  | histogramSample
  /-- TRACE_RECORD_WRITE (R503): A trace record from the FIFO is written to the trace region at the lowest priority. -/
  | traceRecordWrite
  /-- TAP_RESET (R484): TRST_N or a TAP reset puts IDCODE into the instruction register. -/
  | tapReset
  /-- EXTEST (R484): EXTEST drives and captures the boundary-scan register. -/
  | extest (shift inputs : Nat)
  /-- IDCODE (R485): IDCODE selects the 32-bit identification register. -/
  | idcode
  /-- SAMPLE_PRELOAD (R484): SAMPLE/PRELOAD samples or preloads the boundary-scan register. -/
  | samplePreload (shift inputs : Nat)
  /-- DTMCS (R484): DTMCS accesses the RISC-V debug transport control and status. -/
  | dtmcs (value : Word)
  /-- DMI (R487): DMI accesses the RISC-V debug module interface. -/
  | dmi (op : BitVec 2) (addr : BitVec 7) (data : Word)
  /-- DM_HALT_REQUEST (R487): A debug-module halt request halts a hart at its next instruction boundary. -/
  | dmHaltRequest (hart : Nat)
  /-- DM_RESUME (R487): A debug-module resume request resumes a halted hart. -/
  | dmResume (hart : Nat)
  /-- ACCESS_REGISTER (R487): The Access Register abstract command reads or writes a halted hart's register. -/
  | accessRegister (hart regno : Nat) (write : Bool) (value : Word)
  /-- ACCESS_MEMORY (R487): The Access Memory abstract command reads or writes memory in the selected core's address map. -/
  | accessMemory (hart : Nat) (addr : Word) (size : Nat) (write : Bool) (value : Word)
  /-- SCAN_STATE (R494): SCAN_STATE shifts out the frozen-state stream. -/
  | scanState
  /-- BOLT_REQ (R489): BOLT_REQ bit 0 at Update-DR bolts the device. -/
  | boltReq
  /-- BOLT_REQ_UNBOLT (R493): BOLT_REQ bit 1 at Update-DR clears the device's own bolt cause. -/
  | boltReqUnbolt
  /-- SYS_RESET_CORERST (R484): SYS_RESET with value 01 requests CORERST with cause DEBUG. -/
  | sysResetCorerst
  /-- SYS_RESET_SYSRST (R484): SYS_RESET with value 10 requests SYSRST with cause DEBUG. -/
  | sysResetSysrst
  /-- BYPASS (R484): BYPASS selects the 1-bit bypass register. -/
  | bypass (tdi : Bool)
  /-- HEARTBEAT (R403): A received HEARTBEAT frame gives the master's latest issued steps. -/
  | heartbeat (f : StkHdr) (steps : List Word)
  /-- STACK_CREDIT (R403): A received stack CREDIT frame returns credits per virtual channel. -/
  | stackCredit (f : StkHdr) (req rsp ctl : Nat)
  /-- STACK_DATA (R408): A received stack DATA frame is delivered to the target casement as DATA from the door. -/
  | stackData (f : StkHdr) (ticket : Nat) (notify : Bool) (payload : List Byte)
  /-- CMD (R406): A received CMD frame is executed as a command from the master. -/
  | cmd (f : StkHdr) (packet : List Byte)
  /-- REPLY (R406): A received REPLY frame completes a forwarded command. -/
  | reply (f : StkHdr) (packet : List Byte)
  /-- NOTE (R534): A received NOTE frame is relayed to the host link with the partner's STACK_ID. -/
  | note (f : StkHdr) (packet : List Byte)
  /-- STACK_RECORD (R407): A received RECORD frame's verdict records enter the master's result queue and the source table. -/
  | stackRecord (f : StkHdr) (frame : RecordFrame)
  /-- STACK_RESOLVE (R247): A received RESOLVE frame resolves held source records and propagates to derived records. -/
  | stackResolve (f : StkHdr) (records : List Byte)
  /-- EPOCH (R411): A received EPOCH frame is written into the standby's inactive buffer. -/
  | epoch (f : StkHdr) (data : List Byte)
  /-- COMMIT (R411): A received COMMIT with matching count and CRC makes the epoch committed. -/
  | commit (f : StkHdr) (epoch count crc : Word)
  /-- SYNC (R421): A received SYNC frame carries offset-measurement timestamps. -/
  | sync (f : SyncHdr) (t1 t2 t3 t4 : DWord)
  /-- STACK_RESET (R406): A received RESET frame resets the device at the named level with cause STACK. -/
  | stackReset (f : StkHdr) (level : Byte)
  /-- TAKEOVER (R414): A received TAKEOVER frame adopts the new generation and acting master. -/
  | takeover (f : StkHdr) (generation epoch : Word)
  /-- TRAIN (R399): A received TRAIN frame exchanges STACK_ID, generation and unique ID during training. -/
  | train (f : StkHdr) (id generation uid : Nat)
  /-- PORT_UP (R399): A stack port completes training and becomes UP. -/
  | portUp (port : Nat)
  /-- NO_TRAIN (R399): A port not UP within 10 ms is reported NO_TRAIN and training restarts. -/
  | noTrain (port : Nat)
  /-- STACK_RESEND (R402): With no ACK progress for 5 µs the sender resends from the oldest unacknowledged frame. -/
  | stackResend (port : Nat)
  /-- STACK_GIVE_UP (R402): A frame unacknowledged for 2 ms is dropped, its originator receives PARTNER_GONE and the port goes DOWN. -/
  | stackGiveUp (port : Nat)
  /-- PORT_DOWN (R404): No valid frame for 50 µs, or loss of block lock, takes the port DOWN; it retrains and routes are recomputed. -/
  | portDown (port : Nat)
  /-- HEARTBEAT_DUE (R403): 10 µs after a port's last HEARTBEAT, the next HEARTBEAT is sent ahead of queued frames. -/
  | heartbeatDue (port : Nat)
  /-- EPOCH_CLOSE (R410): Every 1 ms the master closes an epoch and sends EPOCH and COMMIT frames to the standby. -/
  | epochClose
  /-- STK_ALIVE_TOGGLE (R412): The master toggles STK_ALIVE every 10 µs while DOOR is open. -/
  | stkAliveToggle
  /-- STANDBY_TAKEOVER (R413): 200 µs of master silence together with 40 µs without an STK_ALIVE edge makes the standby take over. -/
  | standbyTakeover (aliveStopped : Bool) (d : Nat)
  /-- HELLO (R418): A received HELLO finds or refreshes a neighbour and may reveal an address conflict. -/
  | hello (f : SiteHdr) (uid addr origin : Nat) (isSealed : Bool) (adjSeq : Nat)
  /-- ADJ (R418): A received adjacency record updates the database and is forwarded once if newer. -/
  | adj (f : SiteHdr) (uid addr nbrA nbrB seq flags : Nat)
  /-- ACK (R417): A received site ACK acknowledges a frame hop by hop. -/
  | ack (f : SiteHdr) (seq : Nat) (onGiveUpTick : Bool)
  /-- OFFSET_REQ (R421): A received OFFSET_REQ is timestamped and answered. -/
  | offsetReq (f : SiteHdr) (t1 : DWord)
  /-- OFFSET_RSP (R421): A received OFFSET_RSP completes an offset round. -/
  | offsetRsp (f : SiteHdr) (t1 t2 t3 : DWord)
  /-- SITE_RECORD (R420): A received site RECORD frame delivers verdict records. -/
  | siteRecord (f : SiteHdr) (records : List Byte)
  /-- SITE_RESOLVE (R430): A received site RESOLVE frame resolves records, or is discarded for an unknown record. -/
  | siteResolve (f : SiteHdr) (records : List Byte)
  /-- SITE_ALARM (R476): A received ALARM frame reports a node's deadbolt alarm. -/
  | siteAlarm (f : SiteHdr) (payload : List Byte)
  /-- TABLE (R420): A received TABLE frame is written to sill as the door when its table is accepted. -/
  | table (f : SiteHdr) (payload : List Byte)
  /-- USER (R576): A received USER frame is queued for FABRIC_SEND FETCH. -/
  | user (f : SiteHdr) (payload : List Byte)
  /-- FAIL (R417): A received FAIL frame answers the source's command with PARTNER_GONE. -/
  | fail (f : SiteHdr) (src seq : Nat)
  /-- FRAME_FORWARD (R420): A transit frame starts on its outgoing port once the port is free. -/
  | frameForward (port : Nat)
  /-- HELLO_DUE (R418): Every 250 ms with jitter each enabled site port sends a HELLO. -/
  | helloDue (port : Nat)
  /-- NEIGHBOUR_LOST (R418): Four HELLO intervals without a HELLO lose the neighbour. -/
  | neighbourLost (port : Nat) (helloThisTick : Bool)
  /-- ADJACENCY_REFRESH (R418): Every 60 s the node floods its adjacency record. -/
  | adjacencyRefresh
  /-- ADJACENCY_EXPIRY (R418): A record not refreshed within 200 s is removed from the database. -/
  | adjacencyExpiry (addr : Nat)
  /-- FABRIC_RESEND (R417): A frame without ACK for 500 µs is resent. -/
  | fabricResend (port seq : Nat)
  /-- FABRIC_GIVE_UP (R417): After 2 ms of retries a transit node sends FAIL or a source answers PARTNER_GONE. -/
  | fabricGiveUp (port seq : Nat)
  /-- OFFSET_REMEASURE (R421): Every 60 s the fabric offset and rate to each neighbour are measured again. -/
  | offsetRemeasure (port : Nat)
  /-- PHY_INTERRUPT (R415): A falling edge on SLx_PHYINT_N makes the device read the PHY's link status. -/
  | phyInterrupt (port : Nat) (link : Bool)
  /-- PHY_RESET_RELEASE (R415): 10 µs after DOOR opens with the port enabled, SLx_PHYRST_N is released. -/
  | phyResetRelease (phy : PhyUp)
  /-- HOST_RESET (R351): Ten microseconds after the last byte of the RESET reply has left HIO, the host-requested reset of the named level begins with cause HOST. -/
  | hostReset
  /-- VERIFICATION_COMPLETE (R461): The ECDSA verification of a container, patch or challenge answer ends up to 3.0 ms after the last byte, and the load, patch or answer is accepted or refused. -/
  | verificationComplete
  /-- SEAL_BURN_COMPLETE (R457): The burn of the key hash and the three seal bits ends 3 to 6 ms after SEAL is accepted, the fuses are read again and the reply is sent. -/
  | sealBurnComplete
  /-- RAIL_GOOD (R327): VDD_AFE, or VDD_CMP1 and VDD_CMP2, become good while the shutter controller waits, and the waiting domain starts opening. -/
  | railGood (afe cmp : Bool)
  /-- QUADRANT_START (R325): A waiting quadrant starts opening once 200 µs have passed since the previous quadrant began opening, or 20 µs since the preceding shutter opened. -/
  | quadrantStart
  /-- HIRQ_N_HOLDOFF_END (R528): One microsecond after a release of HIRQ_N, the line goes low again if a flagged packet entered meanwhile. -/
  | hirqNHoldoffEnd
  /-- PN_COLLECT_TIMEOUT (R131): A PN.COLLECT that waits CSM_TIMEOUT.LIMIT without a product returns TIMEOUT, frees the product's buffer and discards its late result. -/
  | pnCollectTimeout (c : Nat) (rd rs1 rs2 : BitVec 5)
  /-- MQ_SEND_TIMEOUT (R132): An MQ.SEND stalled for lack of an inbox credit or a free RSP slot returns TIMEOUT after CSM_TIMEOUT.LIMIT and sends nothing. -/
  | mqSendTimeout (c : Nat) (rd rs1 rs2 : BitVec 5)
  /-- LINTEL_CRYSTAL_START (R638): The first edge of the 32.768 kHz crystal after a lintel POR starts the real-time counter and unmasks the CLOCK tamper source. -/
  | lintelCrystalStart
  deriving DecidableEq, Repr

end Sys2Proof
end

