-- ==== Sys2Proof/Decode.lean ====
section
/-! DEFINITION. The decoder over the table's rows that give bits. No row of the opcode table gives any ("fields" is empty
in every row), so no word spells a command: commands reach the block as packets, register accesses and events. -/
namespace Sys2Proof

/-- The command that the word `w` of `nbits` bits spells by the table's bits: none, as no row has bits. -/
def decodeTableWord (_nbits _w : Nat) : Option Instr := none

end Sys2Proof
end

