-- ==== Sys2Proof/Machine/Bits.lean ====
section
/-! DEFINITION. Bit fields, byte order (R8), rounding and clamping, and the two CRCs (R521, R62). -/
namespace Sys2Proof.Machine

/-- The `n`-bit field of `v` whose lowest bit is `lo`. -/
def fld (v lo n : Nat) : Nat := v / 2 ^ lo % 2 ^ n

/-- Bit `i` of `v`. -/
def bitOf (v i : Nat) : Bool := v / 2 ^ i % 2 == 1

/-- A Bool as a number. -/
def b2n (b : Bool) : Nat := if b then 1 else 0

/-- The `n`-bit field of a word, lowest bit `lo`. -/
def wfld (w : Word) (lo n : Nat) : Nat := fld w.toNat lo n

/-- Bit `i` of a word. -/
def wbit (w : Word) (i : Nat) : Bool := bitOf w.toNat i

/-- The word `w` with its `n`-bit field at `lo` replaced by `v`. -/
def wset (w : Word) (lo n v : Nat) : Word :=
  let old := wfld w lo n
  BitVec.ofNat 32 (w.toNat - old * 2 ^ lo + (v % 2 ^ n) * 2 ^ lo)

/-- A mask of `n` ones from bit `lo`. -/
def maskOf (lo n : Nat) : Word := BitVec.ofNat 32 ((2 ^ n - 1) * 2 ^ lo)

/-- The `n` low bytes of `v`, least significant first (R8). -/
def leBytes : Nat → Nat → List Byte
  | 0, _ => []
  | n + 1, v => BitVec.ofNat 8 v :: leBytes n (v / 256)

/-- The number a little-endian byte string spells (R8). -/
def leNat : List Byte → Nat
  | [] => 0
  | b :: bs => b.toNat + 256 * leNat bs

/-- The `n` low bytes of `v`, most significant first (keys and signatures, R581). -/
def beBytes (n v : Nat) : List Byte := (leBytes n v).reverse

/-- The number a big-endian byte string spells. -/
def beNat (bs : List Byte) : Nat := leNat bs.reverse

/-- `n` bytes of `bs` from offset `off`, as a little-endian number; missing bytes count as absent. -/
def uAt (bs : List Byte) (off n : Nat) : Nat := leNat ((bs.drop off).take n)

/-- `n` bytes from offset `off`. -/
def bytesAt (bs : List Byte) (off n : Nat) : List Byte := (bs.drop off).take n

/-- Every byte of the list is zero. -/
def allZero (bs : List Byte) : Bool := bs.all (· == 0)

/-- The `n` zero bytes. -/
def zeros (n : Nat) : List Byte := List.replicate n 0

/-- Cut or pad with zeros to exactly `n` bytes. -/
def padTo (n : Nat) (bs : List Byte) : List Byte := (bs ++ zeros n).take n

/-- The bytes of a word in order (R8). -/
def wordBytes (w : Word) : List Byte := leBytes 4 w.toNat

/-- The two's-complement reading of an `n`-bit number. -/
def sxt (n v : Nat) : Int :=
  let u := v % 2 ^ n
  if u < 2 ^ (n - 1) then (u : Int) else (u : Int) - (2 ^ n : Nat)

/-- The `n`-bit two's-complement encoding of an integer. -/
def tc (n : Nat) (i : Int) : Nat := (i % ((2 ^ n : Nat) : Int)).toNat

/-- Clamp an integer into `[lo, hi]`. -/
def clampI (lo hi i : Int) : Int := if i < lo then lo else if i > hi then hi else i

/-- Clamp a number into `[lo, hi]`. -/
def clampN (lo hi n : Nat) : Nat := if n < lo then lo else if n > hi then hi else n

/-- Clamp to the 16-bit signed range. -/
def sat16 (i : Int) : Int := clampI (-32768) 32767 i

/-- Increment a saturating counter of `n` bits. -/
def satInc (n v : Nat) : Nat := if v + 1 < 2 ^ n then v + 1 else 2 ^ n - 1

/-- Add to a saturating counter of `n` bits. -/
def satAdd (n v k : Nat) : Nat := if v + k < 2 ^ n then v + k else 2 ^ n - 1

/-- Arithmetic shift right with rounding half up: floor((i + 2^(n-1)) / 2^n); no change for n = 0. -/
def rshRound (i : Int) (n : Nat) : Int :=
  if n = 0 then i else (i + ((2 ^ (n - 1) : Nat) : Int)) / ((2 ^ n : Nat) : Int)

/-- Arithmetic shift right: floor. -/
def rshFloor (i : Int) (n : Nat) : Int := i / ((2 ^ n : Nat) : Int)

/-- Round a rational to the nearest integer, halves upward. -/
def roundR (q : Rat) : Int := (q + 1 / 2).floor

/-- Round a rational to the nearest integer, halves away from zero. -/
def roundAway (q : Rat) : Int := if q < 0 then -((-q + 1 / 2).floor) else (q + 1 / 2).floor

/-- Round a rational to the nearest integer, halves to the even one. -/
def roundEven (q : Rat) : Int :=
  let f := q.floor
  let r := q - (f : Rat)
  if r < 1 / 2 then f else if r > 1 / 2 then f + 1 else if f % 2 = 0 then f else f + 1

/-- One step of a CRC over a bit-serial register: shift left `k` times with polynomial `p` of width `w`. -/
def crcShift (w p : Nat) : Nat → Nat → Nat
  | 0, r => r
  | k + 1, r =>
    crcShift w p k (if bitOf r (w - 1) then Nat.xor (r * 2 % 2 ^ w) p else r * 2 % 2 ^ w)

/-- CRC-16 of R521: polynomial 0x1021, initial 0xFFFF, no reflection, no final XOR. -/
def crc16From (r : Nat) (bs : List Byte) : Nat :=
  bs.foldl (fun r b => crcShift 16 0x1021 8 (Nat.xor r (b.toNat * 256))) r

/-- CRC-16 of a whole byte string (R521). -/
def crc16 (bs : List Byte) : Nat := crc16From 0xFFFF bs

/-- One reflected CRC-32 shift, `k` times. -/
def crcShiftR (p : Nat) : Nat → Nat → Nat
  | 0, r => r
  | k + 1, r => crcShiftR p k (if r % 2 = 1 then Nat.xor (r / 2) p else r / 2)

/-- Running reflected CRC-32. -/
def crc32From (r : Nat) (bs : List Byte) : Nat :=
  bs.foldl (fun r b => crcShiftR 0xEDB88320 8 (Nat.xor r b.toNat)) r

/-- The CRC-32 of R62. -/
def crc32 (bs : List Byte) : Nat := Nat.xor (crc32From 0xFFFFFFFF bs) 0xFFFFFFFF

/-- The positions (bit numbers below `n`) of the ones of `m`, ascending. -/
def onesOf (n m : Nat) : List Nat := (List.range n).filter (bitOf m)

/-- The number with a one at each listed position. -/
def maskOfList (l : List Nat) : Nat := l.foldl (fun m i => if bitOf m i then m else m + 2 ^ i) 0

/-- Sum of a list of integers. -/
def sumI (l : List Int) : Int := l.foldl (· + ·) 0

/-- The status of the first condition that holds, in order: the first failure decides (R549). -/
def firstFail {α : Type} : List (Bool × α) → Option α
  | [] => none
  | (c, e) :: rest => if c then some e else firstFail rest

/-- Replace the element at index `i`. -/
def setAt {α : Type} (l : List α) (i : Nat) (a : α) : List α := l.set i a

/-- The element at index `i`, or `d`. -/
def nthD {α : Type} (l : List α) (i : Nat) (d : α) : α := (l[i]?).getD d

/-- Drop repeats, keeping first occurrences. -/
def nodupL {α : Type} [BEq α] : List α → List α
  | [] => []
  | a :: l => a :: (nodupL l).filter (fun b => !(b == a))

/-- A value occurs twice. -/
def hasDup {α : Type} [BEq α] : List α → Bool
  | [] => false
  | a :: l => l.contains a || hasDup l

/-- Cut a list into chunks of `n`, at most `fuel` of them. -/
def chunks {α : Type} : Nat → Nat → List α → List (List α)
  | 0, _, _ => []
  | fuel + 1, n, l => if l.isEmpty then [] else l.take n :: chunks fuel n (l.drop n)

end Sys2Proof.Machine
end

