-- ==== Sys2Proof/Machine/AuCalc.lean ====
section
/-! DEFINITION. The activation unit's arithmetic (05_casements_and_mullion.md R134, R135), which casements and the storm
share. -/
namespace Sys2Proof.Machine

/-- The no-data value. -/
def noData : Int := -32768

/-- What an operation leaves: its output lanes, whether an output took no-data, whether one saturated. -/
structure AuOut where
  lanes : List Int
  nodata : Bool
  sat : Bool

/-- An exact result as a lane: saturated to plus or minus 32,767 (R135). -/
def auSat (v : Int) : Int := clampI (-32767) 32767 v

/-- An output lane: no-data when an input is, else the saturated result. -/
def auLane (ins : List Int) (v : Int) : Int := if ins.contains noData then noData else auSat v

/-- Divide by a power of two, halves away from zero (R134). -/
def auRound (v : Int) (shift : Nat) : Int := roundAway ((v : Rat) / ((2 ^ shift : Nat) : Rat))

/-- The rounded square root of a natural number. -/
def sqrtRound (n : Nat) : Nat := if n > Nat.sqrt n * Nat.sqrt n + Nat.sqrt n then Nat.sqrt n + 1 else Nat.sqrt n

/-- Lanes of a pool group (R134). -/
def auGroup (group : Nat) : Nat := 2 ^ (group + 1)

/-- LEN is in range for an operation: 1 to 1,024, even for MAG2, whole groups for the pools (R134). -/
def auLenOk (op len group : Nat) : Bool :=
  1 ≤ len && len ≤ 1024 && op ≤ 7 && (op != 3 || len % 2 == 0) && ((op != 6 && op != 7) || len % auGroup group == 0)

/-- Output lanes of an operation. -/
def auOutLen (op len group : Nat) : Nat :=
  if op = 3 then len / 2 else if op = 6 ∨ op = 7 then len / auGroup group else len

/-- The inputs and the exact result of output lane `k` (R134). -/
def auExact (op shift group : Nat) (scale : Int) (x x2 : List Int) (k : Nat) : List Int × Int :=
  let a := nthD x k 0
  if op = 1 then ([a], if a < 0 then -a else a)
  else if op = 2 then ([a], max 0 a)
  else if op = 3 then
    let p := nthD x (2 * k) 0
    let q := nthD x (2 * k + 1) 0
    ([p, q], ((sqrtRound (p * p + q * q).toNat : Nat) : Int))
  else if op = 4 then ([a], auRound (a * scale) shift)
  else if op = 5 then ([a, nthD x2 k 0], auRound (a + nthD x2 k 0) shift)
  else if op = 6 then
    let g := (x.drop (k * auGroup group)).take (auGroup group)
    (g, auRound (sumI g) shift)
  else if op = 7 then
    let g := (x.drop (k * auGroup group)).take (auGroup group)
    (g, g.foldl max (g.headD 0))
  else ([a], a)

/-- An operation on whole operands (R134, R135). -/
def auRun (op shift group : Nat) (scale : Int) (len : Nat) (x x2 : List Int) : AuOut :=
  let rs := (List.range (auOutLen op len group)).map (auExact op shift group scale (x.take len) (x2.take len))
  { lanes := rs.map (fun r => auLane r.1 r.2)
    nodata := rs.any (fun r => r.1.contains noData)
    sat := rs.any (fun r => !r.1.contains noData && (r.2 > 32767 || r.2 < -32767)) }

end Sys2Proof.Machine
end

