-- ==== Sys2Proof/Machine/Crypto.lean ====
section
/-! DEFINITION. SHA-256, ECDSA on P-256 and AES-128-GCM, which R401, R416, R457, R461, R465 and R466 name (the algorithms are
those of FIPS 180-4, FIPS 186, SEC 1, FIPS 197 and SP 800-38D, which the spec takes as known; PRESUMED, log entry 4). -/
namespace Sys2Proof.Machine

/-! ### SHA-256 -/

/-- The 64 round constants. -/
def shaK : List Word :=
  [0x428a2f98, 0x71374491, 0xb5c0fbcf, 0xe9b5dba5, 0x3956c25b, 0x59f111f1, 0x923f82a4, 0xab1c5ed5,
   0xd807aa98, 0x12835b01, 0x243185be, 0x550c7dc3, 0x72be5d74, 0x80deb1fe, 0x9bdc06a7, 0xc19bf174] ++
  [0xe49b69c1, 0xefbe4786, 0x0fc19dc6, 0x240ca1cc, 0x2de92c6f, 0x4a7484aa, 0x5cb0a9dc, 0x76f988da,
   0x983e5152, 0xa831c66d, 0xb00327c8, 0xbf597fc7, 0xc6e00bf3, 0xd5a79147, 0x06ca6351, 0x14292967] ++
  [0x27b70a85, 0x2e1b2138, 0x4d2c6dfc, 0x53380d13, 0x650a7354, 0x766a0abb, 0x81c2c92e, 0x92722c85,
   0xa2bfe8a1, 0xa81a664b, 0xc24b8b70, 0xc76c51a3, 0xd192e819, 0xd6990624, 0xf40e3585, 0x106aa070] ++
  [0x19a4c116, 0x1e376c08, 0x2748774c, 0x34b0bcb5, 0x391c0cb3, 0x4ed8aa4a, 0x5b9cca4f, 0x682e6ff3,
   0x748f82ee, 0x78a5636f, 0x84c87814, 0x8cc70208, 0x90befffa, 0xa4506ceb, 0xbef9a3f7, 0xc67178f2]

/-- The eight working words. -/
structure Sha where
  a : Word
  b : Word
  c : Word
  d : Word
  e : Word
  f : Word
  g : Word
  h : Word

def shaInit : Sha :=
  ⟨0x6a09e667, 0xbb67ae85, 0x3c6ef372, 0xa54ff53a, 0x510e527f, 0x9b05688c, 0x1f83d9ab, 0x5be0cd19⟩

/-- One round. -/
def shaRound (s : Sha) (k w : Word) : Sha :=
  let t1 := s.h + (s.e.rotateRight 6 ^^^ s.e.rotateRight 11 ^^^ s.e.rotateRight 25)
    + ((s.e &&& s.f) ^^^ (~~~s.e &&& s.g)) + k + w
  let t2 := (s.a.rotateRight 2 ^^^ s.a.rotateRight 13 ^^^ s.a.rotateRight 22)
    + ((s.a &&& s.b) ^^^ (s.a &&& s.c) ^^^ (s.b &&& s.c))
  ⟨t1 + t2, s.a, s.b, s.c, s.d + t1, s.e, s.f, s.g⟩

/-- The message schedule, newest word first, extended by `n` words. -/
def shaExtend : Nat → List Word → List Word
  | 0, ws => ws
  | n + 1, ws =>
    let w2 := nthD ws 1 0
    let w15 := nthD ws 14 0
    let s0 := w15.rotateRight 7 ^^^ w15.rotateRight 18 ^^^ (w15 >>> 3)
    let s1 := w2.rotateRight 17 ^^^ w2.rotateRight 19 ^^^ (w2 >>> 10)
    shaExtend n ((nthD ws 15 0 + s0 + nthD ws 6 0 + s1) :: ws)

/-- Compress one 64-byte block. -/
def shaBlock (s : Sha) (blk : List Byte) : Sha :=
  let ws := (chunks 16 4 blk).map (fun bs => BitVec.ofNat 32 (beNat bs))
  let w := (shaExtend 48 ws.reverse).reverse
  let r := (List.zip shaK w).foldl (fun s kw => shaRound s kw.1 kw.2) s
  ⟨s.a + r.a, s.b + r.b, s.c + r.c, s.d + r.d, s.e + r.e, s.f + r.f, s.g + r.g, s.h + r.h⟩

/-- SHA-256 of a byte string, 32 bytes. -/
def sha256 (m : List Byte) : List Byte :=
  let pad := (0x80 : Byte) :: zeros ((119 - m.length % 64) % 64)
  let full := m ++ pad ++ beBytes 8 (8 * m.length)
  let s := (chunks (full.length / 64 + 1) 64 full).foldl shaBlock shaInit
  ([s.a, s.b, s.c, s.d, s.e, s.f, s.g, s.h].map (fun w => beBytes 4 w.toNat)).flatten

/-! ### P-256 -/

def p256P : Nat := 0xFFFFFFFF00000001000000000000000000000000FFFFFFFFFFFFFFFFFFFFFFFF
def p256N : Nat := 0xFFFFFFFF00000000FFFFFFFFFFFFFFFFBCE6FAADA7179E84F3B9CAC2FC632551
def p256B : Nat := 0x5AC635D8AA3A93E7B3EBBD55769886BC651D06B0CC53B0F63BCE3C3E27D2604B
def p256G : Nat × Nat :=
  (0x6B17D1F2E12C4247F8BCE6E563A440F277037D812DEB33A0F4A13945D898C296,
   0x4FE342E2FE1A7F9B8EE7EB4A7C0F9E162BCE33576B315ECECBB6406837BF51F5)

/-- `b` to the power `e` modulo `m`, over the low `n` bits of `e`. -/
def powMod (m : Nat) : Nat → Nat → Nat → Nat
  | 0, _, _ => 1 % m
  | n + 1, b, e =>
    let r := powMod m n (b * b % m) (e / 2)
    if e % 2 = 1 then r * b % m else r

/-- The inverse modulo a 256-bit prime. -/
def invMod (m a : Nat) : Nat := powMod m 256 (a % m) (m - 2)

/-- Difference modulo `m`. -/
def subMod (m a b : Nat) : Nat := (a % m + m - b % m) % m

/-- A point lies on the curve, with coordinates below p. -/
def p256On (q : Nat × Nat) : Bool :=
  q.1 < p256P && q.2 < p256P
    && q.2 * q.2 % p256P == (subMod p256P (q.1 * q.1 % p256P * q.1 + p256B) (3 * q.1)) % p256P

/-- Point addition; none is the point at infinity. -/
def p256Add : Option (Nat × Nat) → Option (Nat × Nat) → Option (Nat × Nat)
  | none, q => q
  | q, none => q
  | some (x1, y1), some (x2, y2) =>
    if x1 = x2 ∧ (y1 + y2) % p256P = 0 then none
    else
      let l := if x1 = x2 then subMod p256P (3 * x1 * x1) 3 * invMod p256P (2 * y1) % p256P
               else subMod p256P y2 y1 * invMod p256P (subMod p256P x2 x1) % p256P
      let x3 := subMod p256P (l * l) (x1 + x2)
      some (x3, subMod p256P (l * subMod p256P x1 x3) y1)

/-- Scalar multiplication over the low `n` bits of the scalar. -/
def p256Mul : Nat → Nat → Option (Nat × Nat) → Option (Nat × Nat)
  | 0, _, _ => none
  | n + 1, k, q =>
    let r := p256Mul n (k / 2) (p256Add q q)
    if k % 2 = 1 then p256Add r q else r

/-- A 64-byte public key, X then Y, big-endian (R458). -/
def keyPoint (k : List Byte) : Nat × Nat := (beNat (k.take 32), beNat ((k.drop 32).take 32))

/-- The 64 bytes of a point. -/
def pointKey (q : Nat × Nat) : List Byte := beBytes 32 q.1 ++ beBytes 32 q.2

/-- ECDSA verification of a 64-byte signature over a digest (R461, R465). -/
def ecdsaVerify (key digest sig : List Byte) : Bool :=
  let r := beNat (sig.take 32)
  let s := beNat ((sig.drop 32).take 32)
  let q := keyPoint key
  if r = 0 ∨ p256N ≤ r ∨ s = 0 ∨ p256N ≤ s ∨ p256On q = false then false
  else
    let w := invMod p256N s
    let u1 := beNat digest * w % p256N
    let u2 := r * w % p256N
    match p256Add (p256Mul 256 u1 (some p256G)) (p256Mul 256 u2 (some q)) with
    | none => false
    | some (x, _) => x % p256N == r

/-- ECDSA signature with private key `priv` and nonce `k` (R466). -/
def ecdsaSign (priv k : Nat) (digest : List Byte) : List Byte :=
  match p256Mul 256 k (some p256G) with
  | none => zeros 64
  | some (x, _) =>
    let r := x % p256N
    let s := invMod p256N k * (beNat digest + r * priv) % p256N
    beBytes 32 r ++ beBytes 32 s

/-- A scalar between 1 and n - 1 drawn from 32 random bytes. -/
def scalarOf (bs : List Byte) : Nat := 1 + beNat bs % (p256N - 1)

/-! ### AES-128 -/

/-- Product in the field of 256 elements, over the low `n` bits of the second factor. -/
def gfMul : Nat → Nat → Nat → Nat
  | 0, _, _ => 0
  | n + 1, a, b =>
    let twice := if a < 128 then 2 * a else Nat.xor (2 * a) 0x11B
    Nat.xor (if b % 2 = 1 then a else 0) (gfMul n twice (b / 2))

/-- The inverse in that field: the power 254, as a product of squares; 0 for 0. -/
def gfInv (x : Nat) : Nat :=
  ((List.range 7).foldl (fun (e : Nat × Nat) _ =>
    let sq := gfMul 8 e.1 e.1
    (sq, gfMul 8 e.2 sq)) (x, 1)).2

/-- The byte substitution. -/
def aesSub (b : Byte) : Byte :=
  let x : Byte := BitVec.ofNat 8 (gfInv b.toNat)
  x ^^^ x.rotateLeft 1 ^^^ x.rotateLeft 2 ^^^ x.rotateLeft 3 ^^^ x.rotateLeft 4 ^^^ 0x63

/-- Two byte strings added bit by bit. -/
def xorBytes (a b : List Byte) : List Byte := List.zipWith (· ^^^ ·) a b

/-- The next round key of four words, with its round constant. -/
def aesNextKey (k : List Byte) (rcon : Nat) : List Byte :=
  let g := xorBytes ([13, 14, 15, 12].map (fun i => aesSub (nthD k i 0))) [BitVec.ofNat 8 rcon, 0, 0, 0]
  let w0 := xorBytes (k.take 4) g
  let w1 := xorBytes ((k.drop 4).take 4) w0
  let w2 := xorBytes ((k.drop 8).take 4) w1
  w0 ++ w1 ++ w2 ++ xorBytes ((k.drop 12).take 4) w2

/-- Each row of the state, held column by column, is turned left by its number. -/
def aesShift (s : List Byte) : List Byte := (List.range 16).map (fun i => nthD s (5 * i % 16) 0)

/-- One byte of a mixed column: the column's bytes times 2, 3, 1, 1 from row `r` on. -/
def aesMixByte (col : List Byte) (r : Nat) : Byte :=
  let v := fun k => (nthD col ((r + k) % 4) 0).toNat
  BitVec.ofNat 8 (Nat.xor (Nat.xor (gfMul 8 (v 0) 2) (gfMul 8 (v 1) 3)) (Nat.xor (v 2) (v 3)))

/-- The four columns of the state are mixed. -/
def aesMix (s : List Byte) : List Byte := ((chunks 4 4 s).map (fun col => (List.range 4).map (aesMixByte col))).flatten

/-- Rounds 1 to 10 with the round constants of a list; the last round does not mix. -/
def aesRounds : List Nat → List Byte → List Byte → List Byte
  | [], s, _ => s
  | rc :: rest, s, k =>
    let k := aesNextKey k rc
    let t := aesShift (s.map aesSub)
    aesRounds rest (xorBytes (if rest.isEmpty then t else aesMix t) k) k

/-- AES-128 of one block. -/
def aes128 (key block : List Byte) : List Byte :=
  aesRounds [0x01, 0x02, 0x04, 0x08, 0x10, 0x20, 0x40, 0x80, 0x1B, 0x36] (xorBytes block key) key

/-! ### GCM -/

/-- Product in the field of GCM, over the `n` leading bits of the first factor. -/
def ghashMul : Nat → BitVec 128 → BitVec 128 → BitVec 128 → BitVec 128
  | 0, z, _, _ => z
  | n + 1, z, x, v =>
    let z := if x.msb then z ^^^ v else z
    let v' := if v.getLsbD 0 then (v >>> 1) ^^^ (0xE1#128 <<< 120) else v >>> 1
    ghashMul n z (x <<< 1) v'

/-- GHASH of whole blocks. -/
def ghash (h : BitVec 128) (blocks : List (List Byte)) : BitVec 128 :=
  blocks.foldl (fun y b => ghashMul 128 0 (y ^^^ BitVec.ofNat 128 (beNat b)) h) 0

/-- A byte string cut into blocks of 16, the last one filled with zeros. -/
def blocks16 (b : List Byte) : List (List Byte) := (chunks (b.length / 16 + 1) 16 b).map (padTo 16)

/-- AES-128-GCM with a 12-byte nonce: the ciphertext and the 16-byte tag. -/
def gcmSeal (key nonce aad plain : List Byte) : List Byte × List Byte :=
  let h := BitVec.ofNat 128 (beNat (aes128 key (zeros 16)))
  let bs := chunks (plain.length / 16 + 1) 16 plain
  let cipher := ((bs.zip (List.range bs.length)).map (fun e => xorBytes e.1 (aes128 key (nonce ++ beBytes 4 (e.2 + 2))))).flatten
  let s := ghash h (blocks16 aad ++ blocks16 cipher ++ [beBytes 8 (8 * aad.length) ++ beBytes 8 (8 * cipher.length)])
  (cipher, xorBytes (beBytes 16 s.toNat) (aes128 key (nonce ++ beBytes 4 1)))

end Sys2Proof.Machine
end

