-- ==== Sys2Proof/Config.lean ====
section
/-! DEFINITION. What one part or one moment fixes and the spec does not: constants of the silicon and free values.
None has a body, so nothing can be proved of their values. -/
namespace Sys2Proof.Config

/-- The part is an NQ2410-T: it has the companion dies (R1). -/
opaque partT : Bool
/-- GRADE: false Extended, true Industrial (R4, R552). -/
opaque gradeIndustrial : Bool
/-- The silicon version of IDCODE[31:28] (R485). -/
opaque silicon : BitVec 4
/-- The 96-bit unique ID (R4). -/
opaque uid : BitVec 96
/-- ROM_VERSION (R552). -/
opaque romVersion : Word
/-- mtval is written with the address or the instruction of the exception; false: with zero. The privileged specification,
which the manual cites, leaves it to the implementation, by exception code (R122). -/
opaque tvalWritten : Nat → Bool
/-- The identification CSRs mvendorid, marchid, mimpid and mconfigptr, by CSR number (R122). -/
opaque csrId : Nat → Word
/-- VERSION of dmstatus and the idle cycles of DTMCS (R487). -/
opaque dmVersion : Nat
opaque dtmIdle : Nat
/-- Capacity of a lookup queue of R499. -/
opaque lookupCap : Nat
/-- The stack ports of two STACK_IDs are connected in the enclosure (R404): the board fixes it. -/
opaque stkWire : Nat → Nat → Bool
/-- Bytes of the factory pages 1 to 15, by jamb address (R432). -/
opaque factoryByte : Nat → Byte
/-- The multiplier of the high-pass filter's feedback at each RATE: the corner is 0.5 Hz, its coefficients' rounding is
not given (R280). -/
opaque hpfPole : Nat → Rat
/-- The sensitivity, in volts per metre per second squared, that template 25 of a TEDS memory holds; none: the memory holds
no such template. Its bit layout is IEEE 1451.4's, which the spec names and does not give (R271). -/
opaque template25 : List Byte → Option Rat

/-- A free number: the n-th value the model draws where the spec leaves a value open. -/
opaque freeNat : Nat → Nat
/-- A free word. -/
opaque freeWord : Nat → Word
/-- A free byte: draw n, index i. -/
opaque freeByte : Nat → Nat → Byte
/-- A column's gain g in one product: draw n, pane, physical column (R45). -/
opaque colGain : Nat → Nat → Nat → Rat
/-- A column's offset o in one product (R45). -/
opaque colOffset : Nat → Nat → Nat → Rat
/-- A column's noise n in one product (R45). -/
opaque colNoise : Nat → Nat → Nat → Rat
/-- The conductance a program pulse leaves in a cell, in eighths of g_lsb above 1 microsiemens: draw n, cell (R68). -/
opaque pulse : Nat → Nat → Nat
/-- Bytes from the entropy source: draw n, index i (R459, R464). -/
opaque entropy : Nat → Nat → Byte

end Sys2Proof.Config
end

