-- ==== Sys2Proof/Machine/State.lean ====
section
/-! DEFINITION. The state of the block as plain data: every register, queue, buffer, mode and pin the spec gives it,
and the queue of waiting commands. -/
namespace Sys2Proof.Machine

/-- Faults of a step. The block has no instruction whose effect is to stop the machine, so no row raises one; the type
has one named reason for an event that the spec does not let happen at all. Safe: the model stops. -/
inductive Fault where
  /-- The state breaks the bounds the spec gives it, so that no rule says what follows. Raised by no row. Safe. -/
  | outsideSpec
  deriving DecidableEq, Repr

/-- Refusals of a step: a row whose effect the spec does not give. -/
inductive Refusal where
  /-- A row that has no meaning yet, by its mnemonic. Raised by Dispatch only. Safe. -/
  | notModelled (mnemonic : String)
  deriving DecidableEq, Repr

/-- The command a reply answers (R519, R406): who sent it, its opcode, tag and NOTIFY flag. -/
structure Cmd where
  /-- The command came in a CMD frame of a stack partner (the port's number); none: the host link (R406). -/
  fromPort : Option Nat
  /-- OPCODE, echoed in the reply (R519). -/
  op : Byte
  /-- TAG, echoed in the reply (R519). -/
  tag : Byte
  /-- NOTIFY: the reply holds HIRQ_N low (R518, R528). -/
  notify : Bool
  deriving DecidableEq, Repr

/-- A packet of the outbound stream, or what is left of it unread (R526). -/
structure OutPkt where
  /-- The bytes not yet read (R526); 19_host_link.md R526; reset none. -/
  bytes : List Byte
  /-- The packet is flagged: it holds HIRQ_N low until read (R528). -/
  flagged : Bool
  /-- The packet is a NOTE_VERDICT (R532). -/
  verdict : Bool
  deriving DecidableEq, Repr

/-- Where a command in a slot stands (R523, R524, R527). -/
inductive SlotPhase where
  /-- Accepted, not yet taken. -/
  | queued
  /-- Taken for execution; its reply has not been made. -/
  | taken
  /-- Its reply is made and waits for room in the stream (R527). -/
  | waiting (p : OutPkt)
  deriving DecidableEq, Repr

/-- One of the 16 command slots (R523). -/
structure CmdSlot where
  /-- OPCODE of the packet (R518). -/
  op : Byte
  /-- TAG, outstanding while the slot is held (R523). -/
  tag : Byte
  /-- FLAGS as received (R518). -/
  flags : Byte
  /-- The deadline in microseconds, if FLAGS[0] was set (R525). -/
  deadline : Option Nat
  /-- The parameter bytes (R518). -/
  params : List Byte
  /-- Where the command stands. -/
  phase : SlotPhase
  deriving DecidableEq, Repr

/-- A notification that waits for the stream (R529, R530). -/
structure Note where
  /-- TYPE: [4:0] the type, [6:5] the STACK_ID (R520). -/
  typ : Nat
  /-- SEQ, assigned at creation (R529). -/
  seq : Nat
  /-- DATA (R530). -/
  data : List Byte
  deriving DecidableEq, Repr

/-- A resolution record waiting to leave (R244, R532). -/
structure Resol where
  /-- RETRACT when true, CONFIRM when false. -/
  retract : Bool
  /-- The resolution record's bytes (R244). -/
  data : List Byte
  deriving DecidableEq, Repr

/-- The host link (19_host_link.md). -/
structure HostLink where
  /-- The link is ready (R517, R535); R517; reset false. -/
  ready : Bool
  /-- The 16 command slots, in order of acceptance; R523; reset empty. -/
  slots : List CmdSlot
  /-- Link replies waiting for room, at most 16; R522; reset empty. -/
  linkReplies : List OutPkt
  /-- The outbound stream of 16 KiB, oldest packet first; R526; reset empty. -/
  stream : List OutPkt
  /-- Notifications waiting, NOTE_VERDICT among them; R530, R532; reset empty. -/
  notes : List Note
  /-- The resolution queue of 8,192 entries; R532; reset empty. -/
  resols : List Resol
  /-- SEQ of the next notification, modulo 2^16; R529; reset 0. -/
  seq : Nat
  /-- A stream error since the last STATUS transaction; R516; reset false. -/
  err : Bool
  /-- LAST_ERR of the link status word; R516; reset 0. -/
  lastErr : Nat
  /-- HIRQ_N is driven low; R528; reset false. -/
  hirqLow : Bool
  /-- HIRQ_N was released less than 1 microsecond ago; R528; reset false. -/
  holdoff : Bool
  /-- A record has been lost since the previous NOTE_VERDICT; R530; reset false. -/
  lostSinceVerdict : Bool
  /-- Commands that came in CMD frames and wait to be taken, with the STACK_ID of their sender; R405, R406, R389; reset
  empty. -/
  stackCmds : List (Nat × CmdSlot)
  /-- The bytes last driven on HIO by a READ or STATUS transaction; R515; reset empty (the model's own record of an output). -/
  driven : List Byte
  deriving DecidableEq, Repr

/-- The main states of R379. -/
inductive MainState where
  | dark | waking | doorstep | ajar | opened | dozing
  deriving DecidableEq, Repr

/-- A patch load in progress or in force (R554, R555). -/
structure PatchState where
  /-- Bytes of the patch received so far; R555; reset empty. -/
  staged : List Byte
  /-- The command of the last packet while its AUTH block is verified (PATCHING); R555, R461; reset none. -/
  verifying : Option Cmd
  /-- PATCH_VERSION in force, 0 when none; R552; reset 0. -/
  version : Word
  /-- The patch area: the body copied there; R554; reset empty. -/
  area : List Byte
  deriving DecidableEq, Repr

/-- The device's state and the hinge (14_device_states.md, 20_command_reference.md). -/
structure SysState where
  /-- The main state; R379; reset waking. -/
  main : MainState
  /-- Frame time of the last change of main state, bits [47:16] (DEV_SINCE); R378; reset 0. -/
  since : Word
  /-- The patch; R555; reset none. -/
  patch : PatchState
  /-- Frame time in core ticks; R339; reset 0. -/
  ft : DWord
  /-- The upper half latched by a read of FT_LO; R339; reset 0. -/
  ftLatch : Word
  /-- The value last put on the register bus by a read; R9 (the model's own record of an output); reset 0. -/
  busData : Word
  /-- ROM_VERSION is Config's; the DOORSTEP notification waits for the link; R366; reset false. -/
  doorstepNote : Bool
  /-- A change of main state or overlay is to be reported with the next tick; R384; reset false. -/
  stateNote : Bool
  deriving DecidableEq, Repr

/-- Reset levels, lowest to highest (R349). -/
inductive RstLevel where
  | core | sys | por | lintelPor
  deriving DecidableEq, Repr

/-- The reset controller (13_reset_and_failed_starts.md). -/
structure ResetState where
  /-- The level applied while internal reset is asserted; R356; reset none (the power-up reset has released). -/
  asserted : Option RstLevel
  /-- Causes whose requests belong to this reset, each with the level applied for it; R353, R358; reset [(10, 3)]. -/
  causes : List (Nat × RstLevel)
  /-- The latest reset was promoted; R354; reset false. -/
  promoted : Bool
  /-- Option load runs; R360; reset true. -/
  optionLoad : Bool
  /-- A recognised low on RST_N holds its request; R355; reset false. -/
  pinLow : Bool
  /-- The supply request is active: a monitored rail is below its threshold; R350; reset false. -/
  supplyLow : Bool
  /-- RSTOUT_N is driven low; R357; reset true. -/
  rstoutLow : Bool
  /-- The root PLL is locked; R338; reset true. -/
  pllLock : Bool
  /-- A RESET command has replied; its reset has not begun: the level; R351; reset none. -/
  hostPending : Option RstLevel
  /-- A start is in progress: no AJAR yet and not failed; R363; reset true. -/
  starting : Bool
  /-- RST_STRAPS as sampled at option load: [0] HOST_SEL, [2:1] STACK_ID, [3] MAINS_SEL; R360; reset 0. -/
  straps : Nat
  /-- The hinge runs: option load is complete and no reset is in progress; R360; reset false. -/
  hingeUp : Bool
  deriving DecidableEq, Repr

/-- The kinds of shutter command (R324). -/
inductive ShtKind where
  | openMask | closeMask | force | doze | wake
  deriving DecidableEq, Repr

/-- A shutter command in progress or waiting (R324). -/
structure ShtOp where
  /-- The command to answer. -/
  cmd : Cmd
  /-- Which command it is. -/
  kind : ShtKind
  /-- Domains still to open or close, ascending. -/
  todo : List Nat
  /-- It was accepted while SILL was opening, so that it waits for SILL's clear (R342). -/
  fully : Bool := false
  deriving DecidableEq, Repr

/-- Where a domain's shutter stands (R324 to R332). -/
inductive DomPhase where
  /-- Unpowered. -/
  | closed
  /-- Closed with retention (R331). -/
  | retained
  /-- The domain's turn has come and it waits for a rail (R327). -/
  | waitRail
  /-- A quadrant's turn has come and it waits for its spacing (R325). -/
  | waitSpacing
  /-- Opening; for a quadrant, the number of casement pairs started (R325). -/
  | opening (pairs : Nat)
  /-- Open. -/
  | opened
  /-- Closing: draining (R328). -/
  | draining (retain : Bool) (force : Bool)
  /-- Closing: the drain has ended, power is not yet cut (R328). -/
  | cutting (retain : Bool) (force : Bool)
  deriving DecidableEq, Repr

/-- The shutter controller, rails and clocks (12_shutters_supplies_clocks.md). -/
structure PowerState where
  /-- Phase of each domain 0 to 9 that is not at its default (0 and 1 open, others closed); R323, R330; reset empty. -/
  dom : List (Nat × DomPhase)
  /-- Domains whose opening is a retention reopening in progress; R332; reset empty. -/
  reopening : List Nat
  /-- The shutter command in progress; R324; reset none. -/
  cur : Option ShtOp
  /-- Forced closes that run beside the command they overtook, oldest first; R343; reset none. -/
  forced : List ShtOp
  /-- Shutter commands waiting; R324; reset empty. -/
  queue : List ShtOp
  /-- Frame time at which the last quadrant began opening; R325; reset none. -/
  lastQuad : Option Nat
  /-- Frame time at which each domain's close started; R328; reset none. -/
  drainAt : List (Nat × Nat)
  /-- Frame time of the last DOZE power cut; R332; reset none. -/
  dozeCut : Option Nat
  /-- SHT_DOZE.DOZED: a DOZE has completed since reset; R332; reset false. -/
  dozeDone : Bool
  /-- ELAPSED frozen at the first retention reopening, in 10 ms units; R332; reset none. -/
  dozeFrozen : Option Nat
  /-- Domains that a DOZE closed and that have not been reopened; R332, R347; reset empty. -/
  dozed : List Nat
  /-- VDD_AFE good; R327; reset true. -/
  afeGood : Bool
  /-- VDD_CMP1 and VDD_CMP2 good; R327; reset true. -/
  cmpGood : Bool
  /-- VDD_PGM good, one per quadrant 6 to 9 (a mask of quadrants, bit 0 for domain 6); R67; reset 0. -/
  pgmGood : Nat
  /-- RMII references let out since the last falling edge, a mask of ports A and B; R340; reset 0. -/
  refOn : Nat
  deriving DecidableEq, Repr

/-- The lintel (16_jamb_and_lintel.md R442 to R446, 13_reset_and_failed_starts.md R358, R365). -/
structure LintelState where
  /-- The 48-bit real-time counter; R443; reset 0. -/
  rtc : Nat
  /-- Phase of the crystal against core ticks, in 32,768ths of 1/800,000,000 (the model's own; R443); reset 0. -/
  rtcPhase : Nat
  /-- The crystal runs; R443, R638; reset true. -/
  clkOk : Bool
  /-- No crystal edge has come since lintel POR, so CLOCK is masked; R638; reset false. -/
  clkMasked : Bool
  /-- The lintel runs from VDD_IO; R442; reset true. -/
  fromVddio : Bool
  /-- VBAT above its monitor threshold; R442; reset true. -/
  vbatOk : Bool
  /-- The latched RTC_HI; R444; reset 0. -/
  rtcLatch : Nat
  /-- The wake alarm is armed; R445; reset false. -/
  armed : Bool
  /-- WAKE.EXT; R445; reset false. -/
  wakeExt : Bool
  /-- WAKE.ALARM: fired, LWAKE_N driven low until cleared; R445; reset false. -/
  wakeAlarm : Bool
  /-- The reset count; R358; reset 1. -/
  count : Nat
  /-- The cause history, newest first, at most 8 entries of 64 bits; R358, R359; reset one LINTEL_POR entry. -/
  hist : List Nat
  /-- COUNT of the start-failure record; R365; reset 0. -/
  failCount : Nat
  /-- REASON0, REASON1, REASON2; R365; reset 0, 0, 0. -/
  reason0 : Nat
  /-- REASON1: the failed start before the latest; R364; reset 0. -/
  reason1 : Nat
  /-- REASON2: the failed start before that; R364; reset 0. -/
  reason2 : Nat
  /-- DOORSTEP_REASON; R365; reset 0. -/
  doorReason : Nat
  /-- The 2 KiB key store, sparse, default 0; R458; reset all zero. -/
  keys : List (Nat × Byte)
  /-- The alarm latch; R474; reset false. -/
  alarm : Bool
  /-- Sources that triggered ALARM or above since the last clear; DB_STATUS.LATCHED; reset 0. -/
  latched : Nat
  /-- An erasure since the last clear; DB_STATUS.ERASED; reset false. -/
  erased : Bool
  /-- Sources active now; R469; reset 0. -/
  active : Nat
  /-- Tamper events; DB_EVCOUNT; reset 0. -/
  evCount : Nat
  /-- The tamper log, newest first, at most 4 entries of 64 bits; R473; reset empty. -/
  tlog : List Nat
  /-- Events logged while the host link was down and not yet reported; R473; reset 0. -/
  unreported : Nat
  /-- The policy in force, 2 bits a source; R470; reset 0xA005. -/
  policy : Nat
  deriving DecidableEq, Repr

/-- What a device writer of the jamb commits (R436, R71, R441). -/
inductive DevJob where
  /-- The program count of a pane, before its program starts (R71). -/
  | progCount (pane : Nat)
  /-- The image tag of a pane whose program ended OK (R71). -/
  | progTag (pane tag : Nat)
  /-- A fault-log entry: KIND, UNIT, INFO, DETAIL and the real-time counter of the event (R440). -/
  | faultLog (kind unit info detail rtc : Nat)
  deriving DecidableEq, Repr

/-- Whose commit runs (R435, R436, R439). -/
inductive CommitFor where
  /-- A host JAMB_COMMIT, with its command. -/
  | host (cmd : Option Cmd)
  /-- A host JAMB_LOCK of page 255. -/
  | lock (cmd : Option Cmd)
  /-- A device commit. -/
  | dev (job : DevJob)
  deriving DecidableEq, Repr

/-- A commit in progress (R435). -/
structure JCommit where
  /-- The target page. -/
  page : Nat
  /-- The 64 bytes of the buffer. -/
  data : List Byte
  /-- Whose commit it is. -/
  owner : CommitFor
  /-- The saved host buffer: page and bytes (R436). -/
  saved : Option (Nat × List Byte)
  /-- The saved host buffer was lost by a CORERST, so the buffer ends FREE with LAST 4 (R450). -/
  savedLost : Bool
  deriving DecidableEq, Repr

/-- The journal control row's marker (R435, R437). -/
inductive Marker where
  | clear
  /-- Set, but its CRC does not match the journal data: step 4 alone runs (R437). -/
  | invalid
  /-- Valid: page 0 holds the data of `page` (R437). -/
  | valid (page : Nat)
  deriving DecidableEq, Repr

/-- The jamb (16_jamb_and_lintel.md). -/
structure JambState where
  /-- The 16 KiB array, sparse; an unlisted byte reads as `jambDefault`; R432; reset as the factory left it. -/
  mem : List (Nat × Byte)
  /-- Flipped bits per 32-bit group (key 16 page + group): 1 correctable, 2 uncorrectable; R433; reset none. -/
  flips : List (Nat × Nat)
  /-- The journal control row's marker; R435; reset clear. -/
  marker : Marker
  /-- The journal commit count; R435; reset 0 (a DESIGN CHOICE: commits since manufacture). -/
  commits : Nat
  /-- The lock bit of page 255 in the control row; R439; reset false. -/
  lock : Bool
  /-- LOCK255 as loaded at option load or set since; JAMB_STATUS; reset false. -/
  lockSeen : Bool
  /-- COMMITS as loaded at option load and counted since; JAMB_JCOUNT; reset 0. -/
  jcount : Nat
  /-- The page buffer: OPEN on a page with these bytes; R434; reset none. -/
  buf : Option (Nat × List Byte)
  /-- The commit in progress; R435; reset none. -/
  commit : Option JCommit
  /-- LAST of JAMB_STATUS; R435; reset 0. -/
  last : Nat
  /-- Device commits waiting, oldest first; R436; reset empty. -/
  devQueue : List DevJob
  /-- The newest ring slot and its SEQ, once found after reset; R441; reset none. -/
  ring : Option (Nat × Nat)
  /-- Real-time counter values of the ring's recent commits; R441; reset empty. -/
  ringTimes : List Nat
  deriving DecidableEq, Repr

/-- The fuses (R455, R457). -/
structure Fuses where
  /-- The three seal bits, in order of burning. -/
  seal0 : Bool
  /-- The second seal bit; R455. -/
  seal1 : Bool
  /-- The third seal bit; R455. -/
  seal2 : Bool
  /-- The 32 key-hash bytes (missing: not burned). -/
  hash : List Byte
  deriving DecidableEq, Repr

/-- What an ECDSA verification in progress decides (R461). -/
inductive VerifyFor where
  /-- A container in a slot (R160). -/
  | container (slot : Nat)
  /-- A hinge patch (R555). -/
  | patch
  /-- An ALARM_CLEAR answer (R477). -/
  | alarmClear
  /-- A PRIVILEGE answer (R467). -/
  | privilege
  deriving DecidableEq, Repr

/-- A verification in progress (R461, R465). -/
structure Verify where
  /-- The command to answer. -/
  cmd : Cmd
  /-- What it decides. -/
  purpose : VerifyFor
  /-- SHA-256 of the signed bytes. -/
  digest : List Byte
  /-- r and s, 64 bytes. -/
  sig : List Byte
  deriving DecidableEq, Repr

/-- The deadbolt's HINGE part (17_deadbolt.md). -/
structure DeadboltState where
  /-- SEALED as last read from the fuses; R455; reset false (an unsealed device; DESIGN CHOICE). -/
  sealed : Bool
  /-- The key hash as last read; R455; reset empty. -/
  hash : List Byte
  /-- The outstanding challenge: purpose and its 64-byte block, with the real-time counter at issue; R465; reset none. -/
  challenge : Option (Nat × List Byte × Nat)
  /-- A privileged session is open; R467; reset false. -/
  privileged : Bool
  /-- Verifications in progress; R461; reset empty. -/
  verifs : List Verify
  /-- A SEAL burn in progress: its command and the hash; R457; reset none. -/
  burning : Option (Cmd × List Byte)
  /-- A burn that a reset cut: the hash that was being burned, until the fuses are next read; R481; reset none. -/
  burnCut : Option (List Byte)
  deriving DecidableEq, Repr

/-- Pane states (R81). -/
inductive PaneSt where
  | unverified | auditing | trusted | programming | selftest | suspect | retired | shuttered
  deriving DecidableEq, Repr

/-- Where a product's results go (R130, R131, R142): to the casement that fired it, whether it computes in one of that
casement's own panes, in a grafted spare or in the storm; `id` numbers the PN.FIRE. -/
structure ProdDest where
  /-- The casement that fired it; R130. -/
  casement : Nat
  /-- The number of its PN.FIRE (the model's own; R130); of a forwarded product, the TAG of its PANE_FWD (R139). -/
  id : Nat
  /-- The product was forwarded: its result returns as an RSP (R142). -/
  remote : Bool
  deriving DecidableEq, Repr

/-- A product queued on a pane or running there (R39 to R46, R130). -/
structure Product where
  /-- The staged input vector of 512 lanes, as the pane takes them (R39, R40). -/
  x : List Int
  /-- The ticket of the PN.FIRE. -/
  ticket : Nat
  /-- Where the result goes. -/
  dest : ProdDest
  /-- PANE_CFG as latched at the first row pulse (R52); none while queued. -/
  cfg : Option Word
  /-- The ledger entries (GINV, OFFSET) in force at the first row pulse (R104); empty: raw codes. -/
  corr : List (Nat × Int)
  /-- BYPASS at the first row pulse (R105). -/
  bypass : Bool
  deriving DecidableEq, Repr

/-- A column's ledger entry (R97 to R103). -/
structure LedgerCol where
  /-- g0: the gain at seeding; R76, R102. -/
  g0 : Rat
  /-- c0: the converter factor at seeding; R102. -/
  c0 : Rat
  /-- c: the converter factor now; R100, R102. -/
  c : Rat
  /-- o: the offset now; R100, R102. -/
  o : Rat
  /-- Temperature tag in whole degrees (R106). -/
  temp : Int
  /-- Frame time of the last update (R115 AGE). -/
  at_ : Nat
  /-- The entry is stale; R107. -/
  stale : Bool
  /-- Consecutive pairs with OVR in the CAL product (R109). -/
  calOvr : Nat
  deriving DecidableEq, Repr

/-- The drift ledger of one pane (R97 to R115). -/
structure Ledger where
  /-- The 520 physical columns' entries. -/
  cols : List LedgerCol
  /-- A0: array response at seeding (R101). -/
  a0 : Rat
  /-- h: the array factor (R101). -/
  h : Rat
  /-- SPREAD: the spread of the three ratios; R101. -/
  spread : Rat
  /-- Array updates since seeding (R115). -/
  updates : Nat
  /-- Contributing products since the last array update (R101). -/
  n : Nat
  /-- For k = 1, 2, 3: the sums of y I, of I and of I squared over the contributing products, y the raw code; R101. -/
  acc : List (Rat × Rat × Rat)
  /-- Temperature at the last array update (R107). -/
  arrayTemp : Int
  /-- The array factor is stale (R107). -/
  arrayStale : Bool
  /-- REFRESH_DUE has been raised; R109. -/
  refreshDue : Bool
  /-- LIMIT has been reached; R110. -/
  limit : Bool
  /-- CAUSE of LEDGER_STATUS. -/
  cause : Nat
  deriving DecidableEq, Repr

/-- A program in progress (R67 to R69). -/
structure Program where
  /-- Sill address of the image. -/
  addr : Nat
  /-- IMAGE_ID[15:0] of the image. -/
  tag : Nat
  /-- The command to answer when PROGRAMMING is entered; none once answered. -/
  cmd : Option Cmd
  /-- Row in progress, 0 to 520. -/
  row : Nat
  /-- Iterations of the row done, 0 to 320. -/
  iter : Nat
  /-- Failed cells so far; R69. -/
  failed : Nat
  /-- A failed cell lies in a checksum or reference column (R69). -/
  failedCk : Bool
  /-- Pulses may run: VDD_PGM is good (R67, R91). -/
  good : Bool
  deriving DecidableEq, Repr

/-- A self-test in progress (R83). -/
structure SelfTest where
  /-- The PANE_SELFTEST to answer; R83. -/
  cmd : Cmd
  /-- Sub-steps done, 0 to 64. -/
  step : Nat
  deriving DecidableEq, Repr

/-- One pane (02_panes.md, 03_programming_and_audit.md, 04_drift_ledger.md). -/
structure Pane where
  /-- The pane state; R81; reset unverified (shuttered while its quadrant is closed). -/
  st : PaneSt
  /-- The state recorded when SHUTTERED; R81, R82. -/
  prior : PaneSt
  /-- Conductances of the programmed crossings, key 520 row + column: (positive, negative) above 1 microsiemens in eighths
  of g_lsb; R31, R61; factory state 0. -/
  cells : List (Nat × (Nat × Nat))
  /-- The retained audit record; R80; reset none. -/
  record : Option (List Byte)
  /-- The ledger entries; R112; reset none. -/
  ledger : Option Ledger
  /-- A calibration pair is scheduled; R98, R107. -/
  calDue : Bool
  /-- The pair must run before the next product; R98, R113. -/
  calFirst : Bool
  /-- Products waiting for the pane, oldest first; R44. -/
  queue : List Product
  /-- Products whose first row pulse has come, oldest first; R42. -/
  running : List Product
  /-- The input vector in the row drivers: that of the last product whose turn came, run or refused; R59; reset empty. -/
  drivers : List Int
  /-- The program in progress; R67; reset none. -/
  program : Option Program
  /-- The self-test in progress; R83; reset none. -/
  selftest : Option SelfTest
  deriving DecidableEq, Repr

/-- A PANE_PROGRAM that waits for its program to start (R66). -/
structure ProgReq where
  /-- The PANE_PROGRAM to answer; R66. -/
  cmd : Cmd
  /-- Its pane; R66. -/
  pane : Nat
  /-- Sill address of its image; R61, R66. -/
  addr : Nat
  deriving DecidableEq, Repr

/-- An audit waiting in its casement (R77). -/
structure AuditReq where
  /-- Its pane; R77. -/
  pane : Nat
  /-- The audit record to use. -/
  record : List Byte
  /-- The number of the PANE_AUDIT command it answers; none: an automatic audit (R82). -/
  cmdNo : Option Nat
  deriving DecidableEq, Repr

/-- A PANE_AUDIT that waits for its audits (R559). -/
structure AuditCmd where
  /-- The command's number (the model's own). -/
  no : Nat
  /-- The PANE_AUDIT to answer; R559. -/
  cmd : Cmd
  /-- The panes in parameter order, each with its status once known. -/
  panes : List (Nat × Option Byte)
  deriving DecidableEq, Repr

/-- A graft in force (R84, R85): in slot `slot`, pane `spare` serves where the ticket map names `pane`. -/
structure Graft where
  /-- The model slot; R84. -/
  slot : Nat
  /-- The pane that the ticket map names; R84. -/
  pane : Nat
  /-- The spare that serves for it; R85. -/
  spare : Nat
  deriving DecidableEq, Repr

/-- The hinge's pane scheduling (R66, R67, R77). -/
structure PaneCtl where
  /-- Programs waiting, at most 8; R66; reset empty. -/
  progQueue : List ProgReq
  /-- Panes whose program waits for its first jamb commit; R71; reset empty. -/
  committing : List ProgReq
  /-- Panes whose count is committed and whose program waits for an audit or self-test in its casement; R66; reset empty. -/
  counted : List ProgReq
  /-- Grafts in force, oldest first; R85; reset none. -/
  grafts : List Graft
  /-- The last temperature that the ledger read of each quadrant 6 to 9: whole degrees and frame time; R106; reset none. -/
  temps : List (Nat × (Int × Nat))
  /-- PGM_EN is driven high; R67; reset false. -/
  pgmEn : Bool
  /-- Audits waiting per casement, in order of arrival; R77; reset empty. -/
  audits : List AuditReq
  /-- The audits in progress; R77; reset empty. -/
  auditing : List AuditReq
  /-- PANE_AUDIT commands in progress; R559; reset empty. -/
  cmds : List AuditCmd
  /-- Number of the next PANE_AUDIT command (the model's own); reset 0. -/
  nextNo : Nat
  deriving DecidableEq, Repr

/-- A router input buffer that a message has entered on its way (R137, R140). -/
structure Hop where
  /-- The router. -/
  router : Nat
  /-- Its input: 0 north, 1 east, 2 south, 3 west, 4 the partner of its own id, 5 the way out to that partner. -/
  port : Nat
  /-- Frame time at which the head entered it. -/
  since : Nat
  deriving DecidableEq, Repr

/-- A message in the mullion network (R139); VC follows from TYPE. -/
structure Msg where
  /-- SRC router; R139. -/
  src : Nat
  /-- DST router; R139. -/
  dst : Nat
  /-- TYPE; R139. -/
  typ : Nat
  /-- Payload flits minus 1. -/
  len : Nat
  /-- [3:0] RSP slot of the requester; [7:4] generation. -/
  tag : Nat
  /-- TICKET; R139. -/
  ticket : Nat
  /-- STATUS of a reply; R139. -/
  status : Byte
  /-- NOTIFY; R139. -/
  notify : Bool
  /-- The payload's bytes; R139. -/
  payload : List Byte
  /-- The buffers its head has entered, the present one first; empty while it waits in its source's interface (R140). -/
  trail : List Hop := []
  /-- The stack port whose receive buffer holds a DATA that waits for its inbox; R403. -/
  via : Option Nat := none
  deriving DecidableEq, Repr

/-- A product's result in a result buffer (R131). -/
structure ProdResult where
  /-- The 520 corrected values in physical column order. -/
  codes : List Int
  /-- r_sum; R37. -/
  rsum : Int
  /-- r_idx; R37. -/
  ridx : Int
  /-- The located column, if valid; R37. -/
  loc : Option Nat
  /-- The product's status; R131. -/
  status : Byte
  /-- OVR of an active data column; R47, R131. -/
  ovr : Bool
  /-- The checksum test is skipped; R38, R131. -/
  ckSkip : Bool
  /-- OVR of a reference column; R131. -/
  refOvr : Bool
  deriving DecidableEq, Repr

/-- An uncollected PN.FIRE (R130). -/
structure Fire where
  /-- The number of the PN.FIRE (the model's own). -/
  id : Nat
  /-- Pane slot 0 to 3. -/
  slot : Nat
  /-- The ticket of the PN.FIRE; R130. -/
  ticket : Nat
  /-- A lane of its input was no-data; R130. -/
  noData : Bool
  /-- PATH: 0 local pane, 1 grafted spare, 2 storm. -/
  path : Nat
  /-- The pane that computes it (with PATH 2: the pane it stands in for). -/
  pane : Nat
  /-- The result, once in the buffer. -/
  result : Option ProdResult
  deriving DecidableEq, Repr

/-- A message held in an inbox ring (R133, R141). -/
structure InMsg where
  /-- Ring slot. -/
  slot : Nat
  /-- SRC of the header; R133. -/
  src : Nat
  /-- LEN of the header; R133. -/
  len : Nat
  /-- TYPE of the header; R133. -/
  typ : Nat
  /-- TAG of the header; R133. -/
  tag : Nat
  /-- TICKET of the header; R133. -/
  ticket : Nat
  deriving DecidableEq, Repr

/-- What a busy RSP slot waits for or holds (R143). -/
structure RspSlot where
  /-- The slot's generation; R143; reset 0. -/
  gen : Nat
  /-- The slot is in use; R143; reset false. -/
  busy : Bool
  /-- The reply, once accepted: STATUS and LEN. -/
  reply : Option (Byte × Nat)
  /-- The slot is held for a PANE_FWD: the number of its PN.FIRE; R142; reset none. -/
  fire : Option Nat := none
  deriving DecidableEq, Repr

/-- A core stalled in an instruction (R126 to R133). -/
inductive CoreWait where
  | none
  /-- A remote load: RSP slot, rd, bytes, sign extension, address. -/
  | load (slot rd size : Nat) (signed : Bool) (addr : Nat)
  /-- A remote store: RSP slot, address. -/
  | store (slot addr : Nat)
  /-- A custom instruction that waits; the pc stays on it (R496). -/
  | custom
  /-- A blocking MQ.RECV, during which interrupts are taken (R133). -/
  | recv
  deriving DecidableEq, Repr

/-- Core states of CSM_STATUS (R146). -/
inductive CoreSt where
  | halted | running | fenced | failed
  deriving DecidableEq, Repr

/-- One casement (05_casements_and_mullion.md). -/
structure Casement where
  /-- CORE of CSM_STATUS; reset halted. -/
  core : CoreSt
  /-- x1 to x31, sparse, default 0; R122. -/
  x : List (Nat × Word)
  /-- The program counter; R123; reset CSM_ENTRY at release. -/
  pc : Word
  /-- CSRs by number, sparse; R122, R126, R134; defaults of `csrReset`. -/
  csr : List (Nat × Word)
  /-- The upper half latched by a read of CSR 0xFC0; R125. -/
  ftLatch : Word
  /-- A handler has not yet executed MRET since the last synchronous exception (double trap); R145. -/
  inTrap : Bool
  /-- The EXEC latch points have judged the instruction at the pc and stopped the core before it; the next execution does
  not judge it again (R495; the model's own). -/
  judged : Bool
  /-- The local SRAM, key = address minus 0x8000_0000, sparse, default 0; R123. -/
  sram : List (Nat × Byte)
  /-- Flipped bits per 32-bit SRAM word (key: its offset): 1 correctable, 2 uncorrectable; R124; reset none. -/
  flips : List (Nat × Nat) := []
  /-- What the core is stalled on. -/
  wait : CoreWait
  /-- HALT has been written while a custom instruction was stalled; R123. -/
  haltPending : Bool
  /-- The 16 RSP slots, sparse; R143. -/
  rsp : List (Nat × RspSlot)
  /-- The REQ ring, oldest first, at most 32; R133. -/
  req : List InMsg
  /-- The CTL ring, oldest first, at most 8. -/
  ctl : List InMsg
  /-- Uncollected products, oldest first, at most two a pane slot; R130. -/
  fires : List Fire
  /-- Frame times of restarts in the preceding second; R146. -/
  restarts : List Nat
  /-- The 20 microsecond drain after a fence has ended; R146. -/
  drained : Bool
  deriving DecidableEq, Repr

/-- The mullion network (R136 to R148). -/
structure Mullion where
  /-- Messages in the network, oldest first; R138; reset none. -/
  net : List Msg
  /-- Messages at the front and door edge routers that wait for an inbox credit; R141, R164, R408; reset none. -/
  dispatch : List Msg
  /-- Inbox credits a source holds for a receiver, key 64 source + receiver; R141; reset 0. -/
  credits : List (Nat × Nat)
  /-- Inbox credits a receiver has granted to a source and not withdrawn, key 64 receiver + source; R141; reset 0. -/
  granted : List (Nat × Nat)
  /-- Ghost-responder counts of the edge routers 32 to 39, key 0 to 7; R148; reset 0. -/
  edgeGhost : List (Nat × Nat)
  /-- Number of the next PN.FIRE (the model's own); reset 0. -/
  nextFire : Nat
  /-- The input served last by each output and channel, key 32 router + 4 output + VC; R140; reset 0. -/
  turns : List (Nat × Nat)
  /-- Frame time of the last CTL message of the hinge and debug routers to each casement, key 64 source + casement; R140;
  reset none. -/
  ctlSent : List (Nat × Nat)
  /-- Casements that await their reclaim, in the order in which their faults were detected, and whether the drain has
  ended; R146, R150; reset none. -/
  faults : List (Nat × Bool)
  deriving DecidableEq, Repr

/-- Slot states (R159). -/
inductive SlotSt where
  | empty | loading | loaded | started | stopping
  deriving DecidableEq, Repr

/-- What a validated container gives a slot (R156, R157). -/
structure Model where
  /-- MODEL_ID; R156. -/
  modelId : Word
  /-- FLAGS of R156. -/
  flags : Nat
  /-- Number of hypotheses; R156. -/
  hyps : Nat
  /-- Number of classes; R156. -/
  classes : Nat
  /-- Window length in samples; R156. -/
  winLen : Nat
  /-- CASEMENTS mask; R156. -/
  casements : Nat
  /-- The ticket map: panes of the placed mapping, as a mask. -/
  panes : Nat
  /-- Spare panes, in the list's order; R156, R86. -/
  spares : List Nat
  /-- STORM_BUF (R156). -/
  stormBuf : Nat
  /-- LAT_BUDGET; R156. -/
  latBudget : Nat
  /-- Code sections: casement, load offset, length. -/
  code : List (Nat × Nat × Nat)
  /-- The storm program section's bytes (target 0x40); empty: none. -/
  stormProg : List Byte
  /-- Tables the container defined. -/
  tables : List Nat
  /-- The check-configuration section (R235); empty: none. -/
  check : List Byte
  /-- The tensor symbol table section (R497); empty: none. -/
  symbols : List Byte
  deriving DecidableEq, Repr

/-- One model slot (06_models_tickets_verdicts.md). -/
structure Slot where
  /-- The slot's state; R159; reset EMPTY. -/
  st : SlotSt
  /-- Container bytes received while LOADING; R160, R562. -/
  recv : List Byte
  /-- The validated model; none while EMPTY or LOADING. -/
  model : Option Model
  /-- MODE: 0 none, 1 streamed, 2 placed, 3 waiting for TRUSTED panes. -/
  mode : Nat
  /-- The effective policy: [0] REDUCED_OK, [1] SELFTEST_PREEMPT (R563). -/
  policy : Nat
  /-- RESERVE of MODEL_START; R563. -/
  reserve : Nat
  /-- DEST of R563. -/
  dest : Nat
  /-- The channel mask. -/
  mask : Nat
  /-- The next step number; R165. -/
  step : Nat
  /-- The check sequence: records since MODEL_START; R171. -/
  seq : Nat
  /-- The lowest step whose record has not left; R167. -/
  nextEmit : Nat
  /-- The MODEL_STOP to answer; R163. -/
  stopCmd : Option Cmd
  /-- The slot is emptied when it has stopped; R177. -/
  unloadAfter : Bool
  deriving DecidableEq, Repr

/-- A product that a ticket collected, for its record (R230 to R238). -/
structure Evidence where
  /-- The pane path: the pane of the ticket map. -/
  path : Nat
  /-- The physical pane that computed it. -/
  pane : Nat
  /-- A checksum failure (R230). -/
  ckFail : Bool
  /-- A range violation (R237). -/
  range : Bool
  /-- The product had OVR; R238. -/
  ovr : Bool
  /-- Its checksum test was skipped; R231. -/
  ckSkip : Bool
  /-- Computed by the storm (PATH 2): the verdict is REDUCED (R131). -/
  storm : Bool
  /-- The product's status; a refusal decides the record's status (R170). -/
  status : Byte
  deriving DecidableEq, Repr

/-- Ticket states (R164). -/
inductive TicketSt where
  | free | issued | running | done
  deriving DecidableEq, Repr

/-- One ticket (R164). -/
structure Ticket where
  /-- The ticket's state; R164; reset FREE. -/
  st : TicketSt
  /-- Its model slot; R164. -/
  slot : Nat
  /-- The channel of its window; R164. -/
  channel : Nat
  /-- Its step; R165. -/
  step : Nat
  /-- The mode in which it was issued: 1 streamed, 2 placed (R22). -/
  mode : Nat
  /-- The window's INT16 samples. -/
  window : List Int
  /-- CHECK bits [12:6] the window brings: OVR, GAP, UNCAL, PROBE_EXPIRED, HOST (as CHECK has them). -/
  wflags : Nat
  /-- Frame time bits [47:8] of the window's end. -/
  wend : Nat
  /-- Grafts in force at issue: (target, spare) (R85). -/
  grafts : List (Nat × Nat)
  /-- Products collected for the ticket. -/
  evidence : List Evidence
  /-- Pane paths of the products fired so far, in order (R219). -/
  fired : List Nat
  /-- Lineage references set by LIN_SET, four of 14 bits; 0x3FFF empty (R245). -/
  lineage : List Nat
  /-- A pooled lookup met unwritten rows (R28). -/
  unwritten : Bool
  /-- Panes of the ticket map whose products the storm engine computes for this ticket (R24). -/
  viaStorm : List Nat := []
  /-- The storm engine's streamed program completes this placed ticket (R22, R27). -/
  byStorm : Bool := false
  /-- Frame time of its issue; R166. -/
  issuedAt : Nat := 0
  deriving DecidableEq, Repr

/-- A lineage reference as resolved through the slot's source table (R235, R245). -/
structure SrcRef where
  /-- Node address; R235. -/
  node : Nat
  /-- STACK_ID; R235. -/
  stackId : Nat
  /-- Slot; R235. -/
  slot : Nat
  /-- SEQ: bits [10:0] in a reference of R171, the whole number of the record it found at assembly (R246). -/
  seq : Nat
  deriving DecidableEq, Repr

/-- A record that is DONE and waits for lower steps (R164, R167). -/
structure DoneRec where
  /-- Its model slot; R167. -/
  slot : Nat
  /-- Its step; R167. -/
  step : Nat
  /-- The 32 bytes of R171, LOSS 0, as assembled. -/
  bytes : List Byte
  /-- It carries a verdict (R171). -/
  verdict : Bool
  /-- The reason for which its own products flag it, the first in the order of R238 that is settled by them. -/
  reason : Option Nat
  /-- The ticket it still holds; none: NO_TICKET. -/
  ticket : Option Nat
  /-- Its destinations (DEST); R563. -/
  dest : Nat
  /-- Its check state as assembled: 0 FIRM, 1 PROVISIONAL, 2 FLAGGED; R238. -/
  state : Nat := 0
  /-- The reason of a FLAGGED record, in the numbers of CHECK; R238. -/
  why : Nat := 0
  /-- The source records that its references found at assembly; R246. -/
  refs : List SrcRef := []
  /-- A source of it that is no longer held was confirmed FLAGGED or lost (R248, R249). -/
  srcFlagged : Bool := false
  /-- A source was RETRACTED at its assembly: it has lost its verdict; R246. -/
  gone : Bool := false
  deriving DecidableEq, Repr

/-- Slots, tickets and the result queue (06_models_tickets_verdicts.md). -/
structure Models where
  /-- The 16 slots, sparse; R159; reset EMPTY. -/
  slots : List (Nat × Slot)
  /-- The 128 tickets, sparse; R164; reset FREE. -/
  tickets : List (Nat × Ticket)
  /-- DONE records waiting for lower steps; R167; reset none. -/
  done : List DoneRec
  /-- The host result queue of 256: STACK_ID and record; R172; reset empty. -/
  resq : List (Nat × List Byte)
  /-- HIGH of RESQ_STATUS; R172; reset 0. -/
  high : Nat
  /-- Instances (STACK_ID, slot) whose next record to enter the queue carries LOSS; R172; reset none. -/
  lossOf : List (Nat × Nat)
  deriving DecidableEq, Repr

/-- A table descriptor (R185). -/
structure Desc where
  /-- Table id; R185. -/
  table : Nat
  /-- [0] WRITE_LEASE, [1] HOST_ONLY. -/
  flags : Nat
  /-- ENTRY_SIZE in bytes; R185. -/
  entrySize : Nat
  /-- ENTRIES; R185. -/
  entries : Nat
  /-- BASE, a global address; R185. -/
  base : Nat
  /-- ASSET_BITS; R185. -/
  assetBits : Nat
  /-- SPEED_BITS; R185. -/
  speedBits : Nat
  /-- LOAD_BITS; R185. -/
  loadBits : Nat
  /-- TEMP_BITS; R185. -/
  tempBits : Nat
  deriving DecidableEq, Repr

/-- A sill request held by the on-chip clear or beyond a zero front (R195, R197). -/
inductive SillHeld where
  /-- A casement's request. -/
  | msg (m : Msg)
  /-- A host SILL_WRITE. -/
  | write (cmd : Cmd) (addr : Nat) (data : List Byte)
  /-- A host SILL_READ. -/
  | read (cmd : Cmd) (addr n : Nat)
  /-- A host SILL_ZERO. -/
  | zero (cmd : Cmd) (addr n : Nat)
  /-- A write of the door, applying a TABLE frame (R192). -/
  | door (addr : Nat) (data : List Byte)
  /-- A word of a host WRITE_REG (R192, R556). -/
  | reg (addr : Nat) (data : List Byte)
  /-- A casement's SILL_WR that its edge accepted under its lease (R193, R204). -/
  | wr (m : Msg)
  /-- A host RUN_WINDOW whose samples are to be read (R173, R195). -/
  | window (cmd : Cmd) (slot channel wshift wflags : Byte) (addr : Word)
  /-- A host PANE_PROGRAM whose image is to be read (R64, R195). -/
  | program (cmd : Cmd) (pane flags : Byte) (addr : Word)
  /-- The debugger's access through a casement hart (R487). -/
  | dbg (addr n : Nat) (write : Bool) (value : Word)
  deriving DecidableEq, Repr

/-- A lookup queued for a pool unit, with the descriptor in force when it was accepted (R190, R205). -/
structure Lookup where
  /-- The SILL_LOOKUP message; R190. -/
  msg : Msg
  /-- The table's descriptor when it was accepted; R205. -/
  desc : Desc
  deriving DecidableEq, Repr

/-- Sill (07_sill.md). -/
structure SillState where
  /-- Contents by global address, on-chip and companion windows, sparse, default 0; R180, R181; reset all zero (R195). -/
  mem : List (Nat × Byte)
  /-- The written-row bitmap: on-chip rows 0 to 131,071, sparse, default false; R196; reset clear. -/
  written : List (Nat × Bool)
  /-- Flipped bits per 64-bit word (key: word address): 1 correctable, 2 uncorrectable; R183; reset none. -/
  flips : List (Nat × Nat)
  /-- Table descriptors; R185, R188; reset none. -/
  descs : List (Nat × Desc)
  /-- Lease holders by table: the router id (32 the host, 37 the door); R193; reset none. -/
  leases : List (Nat × Nat)
  /-- CLEARING: the on-chip clear of R195 is in progress; reset false. -/
  clearing : Bool
  /-- Requests held; R195, R197; reset none. -/
  held : List SillHeld
  /-- Zero fronts: next die row to be zeroed; R197; reset 0, 0. -/
  front0 : Nat
  /-- The zero front of die 1; R197; reset 0. -/
  front1 : Nat
  /-- The zero fronts have started since the dies last lost power; R197; reset false. -/
  fronts : Bool
  /-- The companion dies are in self-refresh; R198; reset false. -/
  selfRefresh : Bool
  /-- Lookups queued at sill0 and sill1, oldest first; R190; reset none. -/
  lookups0 : List Lookup
  /-- Lookups queued at sill1; R190; reset none. -/
  lookups1 : List Lookup
  /-- The scrubbers' next rows: on-chip (row within every bank), die 0 and die 1; R184; reset 0. -/
  scrubBank : Nat
  /-- The scrubber's next row of die 0; R184; reset 0. -/
  scrubDie0 : Nat
  /-- The scrubber's next row of die 1; R184; reset 0. -/
  scrubDie1 : Nat
  deriving DecidableEq, Repr

/-- A product forwarded to the storm (R217). -/
structure StormReq where
  /-- The casement that fired the product; R217. -/
  casement : Nat
  /-- The TAG of its PANE_FWD, for the reply (R139, R142). -/
  fire : Nat
  /-- The pane it stands in for; R217. -/
  pane : Nat
  /-- Model slot of the ticket. -/
  slot : Nat
  /-- PANE_CFG as latched; R52, R217. -/
  cfg : Word
  /-- The inputs; R217. -/
  x : List Int
  deriving DecidableEq, Repr

/-- A shadow sample (R219, R222). -/
inductive SampleSt where
  /-- The ticket has issued; the item's product has not been fired. -/
  | due
  /-- Inputs staged at PN.FIRE. -/
  | fired
  /-- Codes staged at PN.COLLECT. -/
  | staged
  deriving DecidableEq, Repr

/-- One sample of a dwell (R219). -/
structure Sample where
  /-- The instance's slot; R219. -/
  slot : Nat
  /-- The lane that dwells; R219. -/
  lane : Nat
  /-- The ticket sampled; R219. -/
  ticket : Nat
  /-- Its step; R219. -/
  step : Nat
  /-- The item: pane path and product number. -/
  path : Nat
  /-- The item's product number; R219. -/
  n : Nat
  /-- The lane's dwell it belongs to. -/
  dwell : Nat
  /-- How far it is staged; R219. -/
  st : SampleSt
  /-- The PN.FIRE that is sampled. -/
  fire : Nat
  /-- The physical pane that computed it (R226). -/
  pane : Nat
  /-- PANE_CFG as latched; R219. -/
  cfg : Word
  /-- The staged inputs; R219. -/
  x : List Int
  /-- The corrected data codes, in quarter-LSB. -/
  codes : List Int
  deriving DecidableEq, Repr

/-- A lane of a slot's shadow walk (R219). -/
structure Lane where
  /-- The instance's slot; R219. -/
  slot : Nat
  /-- The lane's number, below Q; R219. -/
  lane : Nat
  /-- The item the lane dwells on. -/
  item : Nat
  /-- Tickets already taken into the dwell. -/
  taken : Nat
  /-- W samples are reserved for the dwell. -/
  reserved : Bool
  /-- Number of the dwell (the model's own). -/
  dwell : Nat
  /-- A sample was abandoned: the item that the lane takes again at its next move (R222). -/
  again : Option Nat
  deriving DecidableEq, Repr

/-- A pass of the array (R209). -/
inductive StormPass where
  /-- Substitution: the forwarded products that share the pass. -/
  | subst (reqs : List StormReq)
  /-- A shadow pass over a dwell. -/
  | shadow (slot lane dwell : Nat)
  deriving DecidableEq, Repr

/-- A ticket's region of a run (R213). -/
structure Region where
  /-- The region's ticket; R213. -/
  ticket : Nat
  /-- INT16 lanes by lane index, sparse, default 0. -/
  buf : List (Nat × Int)
  /-- The status of the first operation that was not OK; 0 for none. -/
  status : Byte
  /-- What EMIT has formed (R216). -/
  out : Option VerdictIn
  /-- A product of the run had OVR (R208, R238). -/
  ovr : Bool
  deriving DecidableEq, Repr

/-- A streamed run (R214). -/
structure StormRun where
  /-- The slot of the run; R214. -/
  slot : Nat
  /-- Operations completed. -/
  op : Nat
  /-- The next operation has begun; false: the storm is between operations (R218). -/
  busy : Bool
  /-- The run's regions, one a ticket; R213. -/
  regions : List Region
  deriving DecidableEq, Repr

/-- The storm engine (08_storm.md). -/
structure StormState where
  /-- Forwarded products waiting, oldest first; R217; reset none. -/
  fwd : List StormReq
  /-- The pass in progress; R209; reset none. -/
  pass : Option StormPass
  /-- The pass it interrupted, which resumes from its next tile; R218; reset none. -/
  suspended : Option StormPass
  /-- The streamed run in progress; R214; reset none. -/
  run : Option StormRun
  /-- The slot whose run was last, for taking turns; R214; reset 15. -/
  lastSlot : Nat
  /-- Lanes of the started instances; R219; reset none. -/
  lanes : List Lane
  /-- Samples due, fired or staged; R222; reset none. -/
  samples : List Sample
  /-- A storm fault is being cleared; R224; reset false. -/
  restarting : Bool
  /-- What the array does now, 0 nothing, 1 substitution, 2 a streamed run, 3 a shadow pass, and since which frame time;
  STORM_UTIL; reset 0, 0. -/
  doing : Nat × Nat
  /-- Its work of the last 10 ms, oldest first: kind, start and end; STORM_UTIL; reset none. -/
  work : List (Nat × (Nat × Nat))
  deriving DecidableEq, Repr

/-- Where a held source record stands (R246). -/
inductive SrcSt where
  | firm | flagged | provisional | confirmedFirm | confirmedFlagged | retracted
  deriving DecidableEq, Repr

/-- A record of the source table (R246). -/
structure Source where
  /-- Node address; R246. -/
  node : Nat
  /-- STACK_ID; R246. -/
  stackId : Nat
  /-- Slot; R246. -/
  slot : Nat
  /-- The whole 16-bit SEQ. -/
  seq : Nat
  /-- Where it stands; R246. -/
  st : SrcSt
  /-- Frame time of its receipt or local emission (R246, R257). -/
  at_ : Nat
  deriving DecidableEq, Repr

/-- An emitted record that may still be resolved or retracted (R240, R242 to R248). -/
structure Pend where
  /-- Slot of the record; R240. -/
  slot : Nat
  /-- SEQ of the record; R240. -/
  seq : Nat
  /-- Step of the record; R240. -/
  step : Nat
  /-- Its destinations; R244. -/
  dest : Nat
  /-- CHECK as emitted (R171). -/
  check : Nat
  /-- It awaits its resolution (an entry of the pending table). -/
  provisional : Bool
  /-- A sample of the record was abandoned and none failed. -/
  abandoned : Bool
  /-- A source of it that is no longer held was confirmed FLAGGED or lost (R248, R249). -/
  srcFlagged : Bool
  /-- The source records it names; R245, R247. -/
  sources : List SrcRef
  /-- It has been retracted; R247. -/
  retracted : Bool
  /-- The instance that emitted it has been started anew since; R242. -/
  past : Bool := false
  deriving DecidableEq, Repr

/-- Check states (09_silent_errors.md). -/
structure CheckState where
  /-- Emitted records that await a resolution or may be retracted through lineage; R240, R247; reset none. -/
  pend : List Pend
  /-- The source table of 2,048 entries, oldest first; R246; reset none. -/
  src : List Source
  /-- Tolerances in force by pane: (slot, tau); R232, R233; reset none. -/
  tau : List (Nat × (Nat × Nat))
  /-- By pane, the slot whose instance bound it at its last flag events and their steps, oldest first, at most 3; R252, R261;
  reset none. -/
  flags : List (Nat × (Nat × List Nat))
  /-- Flag events of tickets that may still fail another check: slot, step and pane; R252; reset none. -/
  flagged : List (Nat × Nat × Nat)
  /-- Shadow samples abandoned for records not yet emitted: (slot, step); R238; reset none. -/
  lostSteps : List (Nat × Nat)
  /-- Shadow failures decided for records not yet emitted: (slot, step); R254; reset none. -/
  failSteps : List (Nat × Nat)
  deriving DecidableEq, Repr

/-- Probe channel states (R265). -/
inductive ProbeSt where
  | disabled | debounce | teds | settling | active | opened | shorted
  deriving DecidableEq, Repr

/-- Where the comparator sees a bias (R266). -/
inductive BiasAt where
  | inside | high | low
  deriving DecidableEq, Repr

/-- A window in progress (R282, R283). -/
structure Window where
  /-- The samples so far, 24-bit codes or the gap marker, newest first. -/
  xs : List Int
  /-- A sample had OVR; R283. -/
  ovr : Bool
  /-- A sample was taken uncalibrated; R283. -/
  uncal : Bool
  /-- The status of the first detection in it: PROBE_OPEN or PROBE_SHORT (R285). -/
  gap : Option Byte
  deriving DecidableEq, Repr

/-- A channel's calibration in progress (R281). -/
structure AcqCal where
  /-- Phase: 1 shorted, 2 reference, 3 reconnected. -/
  phase : Nat
  /-- OFF as measured by phase 1. -/
  off : Int
  /-- Output samples of the phase so far; R281. -/
  count : Nat := 0
  /-- Sum of its averaged samples: those after the first 64; R281. -/
  sum : Int := 0
  deriving DecidableEq, Repr

/-- One probe channel (10_probes_and_acquisition.md). -/
structure Chan where
  /-- PROBE_STAT.STATE; R265. -/
  st : ProbeSt
  /-- Where the comparator sees the bias; R266; reset inside (DESIGN CHOICE). -/
  bias : BiasAt
  /-- CONFIRMED of PROBE_STAT; R268; reset false. -/
  confirmed : Bool
  /-- TEDS of PROBE_STAT; R270; reset false. -/
  tedsPresent : Bool
  /-- The channel is excluded from TEDS; R273; reset false. -/
  tedsExcl : Bool
  /-- LIFE_VALID of PROBE_STAT; R275; reset false. -/
  lifeValid : Bool
  /-- EXC_FAULT of PROBE_STAT; R264; reset false. -/
  excFault : Bool
  /-- Consecutive mismatching and matching read-backs; R264. -/
  mism : Nat
  /-- Consecutive matching read-backs; R264; reset 0. -/
  mats : Nat
  /-- A survey result is still due for the last detection; R268, R269. -/
  confirmDue : Bool
  /-- That detection has been overtaken by a return or an arrival; R269. -/
  confirmStale : Bool
  /-- Number of the last conversion that began before that detection (the model's own); R268. -/
  detNo : Nat
  /-- The same of earlier detections whose survey result is still due; R269. -/
  olderDue : List Nat := []
  /-- The code saved during a TEDS access; R272. -/
  saved : Option Nat
  /-- The channel was DISABLED when the access began; R570. -/
  tedsDisabled : Bool
  /-- Frame time of the last write to EXC_CODE; R264. -/
  excAt : Nat
  /-- Windows in progress, oldest first; R282. -/
  wins : List Window
  /-- Samples until the next window starts; R282. -/
  hopLeft : Nat
  /-- The high-pass filter's state: last input and last output; none: preload; R280. -/
  hpf : Option (Rat × Rat)
  /-- Samples that still carry OVR after an overload; R280. -/
  ovrTail : Nat
  /-- Memory identity and Basic TEDS as read; R271. -/
  ident : List Byte
  /-- Basic TEDS as read; R271; reset none. -/
  basic : List Byte
  /-- Bytes of the probe's memory as last read; R270, R571. -/
  memory : List Byte
  /-- Serial number of the channel's probe; none: no identity known; R276; reset none. -/
  serial : Option Nat
  /-- Life accumulators; R275. -/
  rated : Nat
  /-- CONSUMED; R275; reset 0. -/
  consumed : Nat
  /-- Excitation seconds below a life unit; R275; reset 0. -/
  seconds : Nat
  /-- Shock blocks below a life unit; R275; reset 0. -/
  shocks : Nat
  /-- LAST_UPDATE as read or written; R571. -/
  lastUpdate : Nat
  /-- Excitation seconds since the last write; R277. -/
  sinceWrite : Nat
  /-- An automatic write waits for a window's completion; R277. -/
  writeDue : Bool
  /-- EXPIRED has been sent since the arrival; R278. -/
  expiredSent : Bool
  /-- The shock block: samples so far, a sample reached the threshold; R275. -/
  blockN : Nat
  /-- A sample of the shock block reached the threshold; R275; reset false. -/
  blockHit : Bool
  /-- The calibration in progress; R281; reset none. -/
  cal : Option AcqCal
  deriving DecidableEq, Repr

/-- A request on the TEDS bus (R272, R273). -/
structure TedsReq where
  /-- The channel; R272. -/
  ch : Nat
  /-- Host TEDS_READ commands answered by it. -/
  reads : List Cmd
  /-- Host TEDS_WRITE commands: command, row, data. -/
  writes : List (Cmd × Nat × List Byte)
  /-- The life block is written; with the PROBE_LIFE WRITE commands to answer. -/
  life : Bool
  /-- The PROBE_LIFE WRITE commands it answers; R277, R571. -/
  lifeCmds : List Cmd
  /-- The access belongs to an arrival (R270). -/
  arrival : Bool
  deriving DecidableEq, Repr

/-- An ACQ_CAL in progress (R281, R572). -/
structure CalCmd where
  /-- The ACQ_CAL to answer; R572. -/
  cmd : Cmd
  /-- Channels still calibrating. -/
  left : List Nat
  deriving DecidableEq, Repr

/-- Probes, excitation and acquisition. -/
structure FrontState where
  /-- The 16 channels, sparse; reset DISABLED. -/
  chans : List (Nat × Chan)
  /-- The TEDS access in progress; R272; reset none. -/
  teds : Option TedsReq
  /-- TEDS_MODE is driven high; R272; reset false. -/
  tedsMode : Bool
  /-- The output TEDS_SEL[3:0]; R272; reset 0 (DESIGN CHOICE, log entry 213: the spec gives none). -/
  tedsSel : Nat
  /-- Frame time at which the access in progress began; R272; reset 0 (the model's own). -/
  tedsAt : Nat
  /-- TEDS accesses waiting; R273; reset none. -/
  tedsQueue : List TedsReq
  /-- ACQ_CAL commands in progress; reset none. -/
  cals : List CalCmd
  deriving DecidableEq, Repr

/-- What a conversion is for (R301 to R310). -/
inductive ConvFor where
  | seq | urgent | single | cal
  deriving DecidableEq, Repr

/-- A conversion in progress (R295). -/
structure Conv where
  /-- What the conversion is for; R301 to R310. -/
  what : ConvFor
  /-- The survey channel; R295. -/
  ch : Nat
  /-- The integration period in force: 0 to 2; R296. -/
  period : Nat
  /-- UNCAL was set when its reset began; R311. -/
  uncal : Bool
  /-- Frame time at which its reset began; R268, R299. -/
  start : Nat
  /-- TAINT under R313. -/
  taint : Bool
  /-- Number of the conversion (the model's own). -/
  no : Nat
  deriving DecidableEq, Repr

/-- An urgent request (R306). -/
structure Urgent where
  /-- The channel; R306. -/
  ch : Nat
  /-- The SURVEY_URGENT commands it answers; R306. -/
  cmds : List Cmd
  deriving DecidableEq, Repr

/-- The survey converter (11_survey.md). -/
structure SurveyState where
  /-- The conversion in progress; R295; reset none. -/
  conv : Option Conv
  /-- The entry in progress is in its pre-delay; R301; reset false. -/
  predelay : Bool
  /-- Entry in progress or to resume; R302; reset 0. -/
  entry : Nat
  /-- The entry's word as latched when it started; none: it has not started; R301. -/
  latched : Option Word
  /-- Results written in the entry so far; R301. -/
  results : Nat
  /-- Conversions summed into the running result, their sum and flags; R301, R312, R313. -/
  summed : Nat
  /-- Sum of the running result; R301; reset 0. -/
  sum : Int
  /-- OVR of the running result; R312; reset false. -/
  sumOvr : Bool
  /-- TAINT of the running result; R313; reset false. -/
  sumTaint : Bool
  /-- UNCAL of the running result; R311; reset false. -/
  sumUncal : Bool
  /-- Frame time at which the running result's integration began; R299. -/
  sumStart : Nat
  /-- Number of the running result's first conversion (the model's own); R268. -/
  sumNo : Nat
  /-- Conversions started so far (the model's own). -/
  convNo : Nat
  /-- PASSES, wrapping at 2^16; R302; reset 0. -/
  passes : Nat
  /-- A single conversion is under way; R304. -/
  single : Bool
  /-- Urgent requests, oldest first; R306; reset none. -/
  urgents : List Urgent
  /-- The urgent request being converted; R307. -/
  serving : Option Urgent
  /-- The calibration: its command, conversions done, sums of densities (short, reference), mixed settings; R310, R321. -/
  cal : Option (Cmd × Nat × Rat × Rat × Bool)
  /-- 60 Hz in force; R296; reset false. -/
  hz60 : Bool
  /-- MAINS as the last conversion found it; R296, R311; reset 0. -/
  mains : Nat
  /-- The power mode in force; R309; reset false. -/
  lowpwr : Bool
  /-- UNCAL of SVY_STATUS; R311; reset true. -/
  uncal : Bool
  /-- The last conversion: entry (48 for none), channel, OVR; R313. -/
  last : Option (Nat × Nat × Bool)
  /-- Frame times of the last result per channel; R106, R108. -/
  lastAt : List (Nat × Nat)
  /-- Latched time words by register address; R300. -/
  latches : List (Nat × Word)
  deriving DecidableEq, Repr

/-- A latch point (R495, R579). -/
structure LatchPoint where
  /-- MATCH: 1 EXEC, 2 LOAD, 3 STORE, 4 FIRE, 5 STEP. -/
  mtch : Nat
  /-- ACTIONS of R579. -/
  actions : Nat
  /-- COUNT as set. -/
  count : Nat
  /-- Matches since it was set or rearmed. -/
  seen : Nat
  /-- Armed: not disarmed by a hit without REARM. -/
  armed : Bool
  /-- VALUE; R495. -/
  value : Word
  /-- MASK; R495. -/
  mask : Word
  /-- STEP; R495. -/
  step : Word
  deriving DecidableEq, Repr

/-- An armed tensor dump (R498). -/
structure Dump where
  /-- The DUMP_TENSOR to answer; R498. -/
  cmd : Cmd
  /-- The slot; R498. -/
  slot : Nat
  /-- The symbol; R497. -/
  symbol : Nat
  /-- The step; R498. -/
  step : Nat
  /-- The symbol's event as the slot's table gives it: kind, casement, place, occurrence, length (R497). -/
  kind : Nat
  /-- The event's casement; R497. -/
  casement : Nat
  /-- The event's place; R497. -/
  place : Nat
  /-- The event's occurrence; R497. -/
  occurrence : Nat
  /-- The tensor's length; R497. -/
  length : Nat
  /-- Events of the ticket already seen at that place. -/
  seen : Nat
  deriving DecidableEq, Repr

/-- The JTAG TAP and the debug module (R484 to R488). -/
structure JtagState where
  /-- The instruction register; R484; reset IDCODE (0x01). -/
  ir : Nat
  /-- The value last shifted out on TDO; R484 (the model's own record of an output); reset 0. -/
  tdo : Nat
  /-- The boundary-scan output latches; R484; reset 0. -/
  boundary : Nat
  /-- EXTEST drives the pins from the latches; R484; reset false. -/
  extest : Bool
  /-- Words of SCAN_STATE already shifted since the instruction was loaded; R494; reset 0. -/
  scanPos : Nat
  /-- dmcontrol as last written (R487; layout PRESUMED from the RISC-V debug specification); reset 0. -/
  dmcontrol : Word
  /-- Abstract data registers data0 and data1; R487; reset 0. -/
  data0 : Word
  /-- data1 of the debug module; R487; reset 0. -/
  data1 : Word
  /-- cmderr of the abstract command; R487; reset 0. -/
  cmderr : Nat
  /-- Harts that have resumed since the last resume request (resumeack); R487; reset 0. -/
  resumeAck : Nat
  /-- The result of the last DMI operation; R484; reset 0. -/
  dmiData : Word
  /-- The address of the last DMI operation; R484; reset 0. -/
  dmiAddr : BitVec 7
  /-- Harts in debug or latch halt, a mask of 33; R487, R495; reset 0. -/
  halted : Nat
  /-- Registers of hart 32 written through Access Register; R487; reset none. -/
  hingeRegs : List (Nat × Word)
  /-- An abstract command waits for sill (R195, R197); R487 (its bit in abstractcs is PRESUMED, log entry 208); reset false. -/
  busy : Bool
  deriving DecidableEq, Repr

/-- Bolts, latch points, dumps, counters and trace (18_debug.md). -/
structure DebugState where
  /-- BOLTED is in force; R489; reset false. -/
  bolted : Bool
  /-- QUIET; R490; reset false. -/
  quiet : Bool
  /-- An own cause remains; R493; reset false. -/
  ownCause : Bool
  /-- CAUSE of DBG_BOLT; R489; reset 0. -/
  cause : Nat
  /-- HART of a latch cause; R489; reset 0. -/
  hart : Nat
  /-- SKIPPED windows; R490; reset 0. -/
  skipped : Nat
  /-- Frame time of the last bolt tick; R489; reset 0. -/
  boltFt : DWord
  /-- The upper half latched by a read of DBG_BOLT_FT_LO; R489; reset 0. -/
  boltFtLatch : Word
  /-- A partner holds BOLT_IO low; R492; reset false. -/
  lineLow : Bool
  /-- Latch points, key 4 hart + index; R495; reset none. -/
  points : List (Nat × LatchPoint)
  /-- TRIG0 and TRIG1 pulses driven since reset (the model's own record of an output); R495; reset 0. -/
  trig0Pulses : Nat
  /-- TRIG1 pulses driven (the model's own record of an output); R495; reset 0. -/
  trig1Pulses : Nat
  /-- Armed dumps, at most 4; R498; reset empty. -/
  dumps : List Dump
  /-- Counter and histogram words, key 16 id + word; R499, R500; reset 0. -/
  counters : List (Nat × Nat)
  /-- The 8-record trace FIFO; R503; reset empty. -/
  fifo : List (List Byte)
  /-- NEXT record index; TRACE_STATUS; reset 0. -/
  traceNext : Nat
  /-- WRAPPED of TRACE_STATUS; R503; reset false. -/
  traceWrapped : Bool
  /-- FULL of TRACE_STATUS; R503; reset false. -/
  traceFull : Bool
  /-- DROPPED of TRACE_STATUS; R503; reset 0. -/
  traceDropped : Nat
  /-- JTAG and the debug module. -/
  jtag : JtagState
  deriving DecidableEq, Repr

/-- A stack frame (R400); its bytes on the line, with TAG and CRC, are `stkBytes`. -/
structure StkFrame where
  /-- TYPE; R400. -/
  typ : Nat
  /-- SRC; R400. -/
  src : Nat
  /-- DST; R400. -/
  dst : Nat
  /-- The VC that its type uses; R403. -/
  vc : Nat
  /-- AUTH; R400. -/
  auth : Bool
  /-- SEQ; R400. -/
  seq : Nat
  /-- COUNTER; R401. -/
  counter : Nat
  /-- The payload; R400. -/
  payload : List Byte
  /-- ACK; R400. -/
  ack : Nat := 0
  /-- The stack port whose receive buffer holds it, for a frame in transit; R403. -/
  held : Option Nat := none
  deriving DecidableEq, Repr

/-- One stack port (R398 to R404). -/
structure StkPort where
  /-- STATE: 0 disabled, 1 training, 2 UP, 3 NO_TRAIN. -/
  st : Nat
  /-- The partner's STACK_ID; R404; reset 0. -/
  partner : Nat
  /-- The partner's unique ID and generation from its TRAIN frame; none before. -/
  train : Option (Nat × Nat × Nat)
  /-- Link SEQ of the next frame sent. -/
  txSeq : Nat
  /-- Last SEQ received in order. -/
  rxSeq : Nat
  /-- Unacknowledged frames, oldest first (R402). -/
  replay : List StkFrame
  /-- Frames waiting for a credit (R403). -/
  queue : List StkFrame
  /-- Credits held for REQ, RSP and CTL (R403). -/
  credits : List Nat
  /-- RESENDS of the port's register; R402; reset 0. -/
  resends : Nat
  /-- The last frame that left (the model's own record of an output). -/
  lastTx : Option StkFrame
  /-- The bytes of the frames that left last (the model's own record of an output); R400, R401; reset empty. -/
  wire : List Byte
  /-- Best SYNC round: RTT and offset (R421). -/
  best : Option (Int × Int)
  /-- SYNC rounds done; R421; reset 0. -/
  rounds : Nat
  /-- The 16 rounds of this training are done and the offset is recorded; R399; reset false. -/
  synced : Bool
  deriving DecidableEq, Repr

/-- A command forwarded to a partner, awaiting its REPLY (R406, R574). -/
structure Forward where
  /-- The STACK_CONFIG to answer; R574. -/
  cmd : Cmd
  /-- STACK_ID of the target; R574. -/
  target : Nat
  /-- TAG of the forwarded command; R406. -/
  tag : Byte
  /-- OPCODE of the forwarded command; R406. -/
  op : Byte
  deriving DecidableEq, Repr

/-- A STACK_CONFIG RESET awaiting acknowledgement (R573). -/
structure RstAwait where
  /-- The STACK_CONFIG to answer; R573. -/
  cmd : Cmd
  /-- STACK_ID of the target; R573. -/
  target : Nat
  deriving DecidableEq, Repr

/-- The stack (15_stacks_and_fabric.md R398 to R414). -/
structure StackState where
  /-- Ports K0 to K2. -/
  ports : List (Nat × StkPort)
  /-- ROLE: 0 master, 1 standby, 2 follower, 3 acting master; R405. -/
  role : Nat
  /-- GENERATION of the stack; R414; reset 0. -/
  generation : Nat
  /-- STACK_ID of the master or acting master this device follows; R405, R414; reset 0. -/
  masterId : Nat
  /-- The stack has been formed; R405; reset false. -/
  formed : Bool
  /-- Highest accepted COUNTER per source and counters accepted within the window (R401). -/
  seen : List (Nat × List Nat)
  /-- COUNTER of the next authenticated stack frame; R401. -/
  txCounter : Nat
  /-- Epoch number of the last COMMIT sent or committed; R410, R411. -/
  epoch : Nat
  /-- The inactive buffer: EPOCH payloads received since the last COMMIT; R411. -/
  inactive : List (List Byte)
  /-- The committed epoch's payload bytes; R411. -/
  committed : List Byte
  /-- Latest issued steps of the master's STARTED slots, ascending, from its last HEARTBEAT; R411. -/
  hbSteps : List Nat
  /-- STK_ALIVE as driven; R412. -/
  aliveOut : Bool
  /-- Records received from partners, newest last, at most 8,192: STACK_ID, slot and SEQ; R430. -/
  recvd : List (Nat × Nat × Nat)
  /-- Commands forwarded and not answered; R406. -/
  forwards : List Forward
  /-- STACK_CONFIG RESETs not acknowledged; R573. -/
  rstAwaits : List RstAwait
  /-- This device was a master or standby that has lost its role; R414. -/
  former : Bool
  /-- The upper halves latched by reads of STK_OFFs_LO; R421. -/
  offLatch : List (Nat × Word)
  /-- Offsets to each STACK_ID in core ticks; none until measured; R421. -/
  offs : List (Nat × Int)
  deriving DecidableEq, Repr

/-- A site frame (R416); its bytes on the line, with MAC addresses, tag and FCS, are `siteBytes`. -/
structure SiteFrame where
  /-- TYPE; R416. -/
  typ : Nat
  /-- AUTH; R416. -/
  auth : Bool
  /-- ACK_REQ; R416. -/
  ackReq : Bool
  /-- ALARM flag; R416. -/
  alarm : Bool
  /-- DST; R416. -/
  dst : Nat
  /-- SRC; R416. -/
  src : Nat
  /-- HOPS; R416. -/
  hops : Nat
  /-- SEQ; R416. -/
  seq : Nat
  /-- COUNTER; R416. -/
  counter : Nat
  /-- The payload; R416. -/
  payload : List Byte
  /-- SEQ with which a frame in transit came in, which a FAIL names; R417. -/
  inSeq : Nat := 0
  deriving DecidableEq, Repr

/-- A neighbour found on a site port (R418). -/
structure Nbr where
  /-- Its unique ID; R418. -/
  uid : Nat
  /-- Its address; R418. -/
  addr : Nat
  deriving DecidableEq, Repr

/-- A frame sent with ACK_REQ that is not acknowledged (R417). -/
structure SiteAwait where
  /-- The frame; R417. -/
  frame : SiteFrame
  /-- The command of this node it answers; none: transit or a record. -/
  cmd : Option Cmd
  deriving DecidableEq, Repr

/-- An offset measurement to a neighbour (R421). -/
structure SiteOff where
  /-- The best round of the measurement in progress: RTT and offset. -/
  best : Option (Int × Int)
  /-- Rounds done; R421. -/
  rounds : Nat
  /-- The last complete measurement: offset and own frame time. -/
  done : Option (Int × Nat)
  /-- Relative rate in parts per billion. -/
  rate : Int
  /-- t1 of the round in flight. -/
  t1 : Nat
  deriving DecidableEq, Repr

/-- One site port (R415 to R418). -/
structure SitePort where
  /-- SLx_PHYRST_N has been released; R415. -/
  phyUp : Bool
  /-- Link status last read from the PHY; R415. -/
  link : Bool
  /-- HELLO runs on the port; R418. -/
  hello : Bool
  /-- The neighbour found; R418. -/
  nbr : Option Nbr
  /-- SEQ of the next frame of the port; R416; reset 0. -/
  txSeq : Nat
  /-- Frames waiting for the port; R420. -/
  queue : List SiteFrame
  /-- Frames that wait for their ACK; R417; reset none. -/
  awaits : List SiteAwait
  /-- The last frame that left (the model's own record of an output). -/
  lastTx : Option SiteFrame
  /-- The bytes of the frame that left last (the model's own record of an output); R416; reset empty. -/
  wire : List Byte
  /-- The offset measurement; R421. -/
  off : SiteOff
  deriving DecidableEq, Repr

/-- An adjacency record (R418). -/
structure Adj where
  /-- Unique ID; R418. -/
  uid : Nat
  /-- Address; R418. -/
  addr : Nat
  /-- Neighbour on port A; R418. -/
  nbrA : Nat
  /-- Neighbour on port B; R418. -/
  nbrB : Nat
  /-- Sequence; R418. -/
  seq : Nat
  /-- Flags; R418. -/
  flags : Nat
  deriving DecidableEq, Repr

/-- The site fabric (R415 to R421). -/
structure FabricState where
  /-- Ports A (0) and B (1). -/
  ports : List (Nat × SitePort)
  /-- The address in force; 0 none; R419. -/
  addr : Nat
  /-- ORIGIN: 0 none, 1 hashed, 2 host-set, 3 moved. -/
  origin : Nat
  /-- Sequence of the node's own adjacency record. -/
  adjSeq : Nat
  /-- The adjacency records behind DOOR's forwarding table; R420, R428. -/
  routes : List Adj
  /-- The hinge's adjacency database, by address. -/
  db : List Adj
  /-- Addresses in unresolvable conflict; R419. -/
  conflicts : List Nat
  /-- COUNTER of the next authenticated site frame; R401, R416; reset 0. -/
  txCounter : Nat
  /-- COUNTERs accepted per source; R401, R416. -/
  seen : List (Nat × List Nat)
  /-- Received USER frames, oldest first, at most 16: source and payload; R576. -/
  users : List (Nat × List Byte)
  /-- USER frames lost since the previous FETCH; R576. -/
  userDropped : Nat
  /-- FABRIC_TABLE commands with frames still unacknowledged: command and frames left. -/
  tableCmds : List (Cmd × Nat)
  /-- SEQs of acknowledged frames of those commands; R417, R575; reset none. -/
  acked : List (Cmd × Nat)
  /-- The last ALARM report received: source and payload; R476 (the spec gives it no further effect). -/
  lastAlarm : Option (Nat × List Byte)
  deriving DecidableEq, Repr

/-- Everything the block holds but its waiting commands and its fuses. -/
structure Dev where
  /-- The register words that are not at their reset value, by global address; R9, R14; reset none. -/
  regs : List (Nat × Word)
  /-- The host link (19_host_link.md); R514. -/
  hl : HostLink
  /-- The device's state and the hinge; R378. -/
  sys : SysState
  /-- The reset controller; R349. -/
  rst : ResetState
  /-- Shutters and supplies; R322. -/
  pwr : PowerState
  /-- The lintel; R442. -/
  lin : LintelState
  /-- The jamb memory; R432. -/
  jamb : JambState
  /-- The deadbolt; R455. -/
  db : DeadboltState
  /-- The 128 panes, sparse; reset UNVERIFIED, SHUTTERED until their quadrants open. -/
  panes : List (Nat × Pane)
  /-- Programs and audits that wait; R66. -/
  pctl : PaneCtl
  /-- The 32 casements, sparse. -/
  csm : List (Nat × Casement)
  /-- The mullion network; R136. -/
  mul : Mullion
  /-- Slots, tickets and the result queue; R156. -/
  mdl : Models
  /-- Sill; R180. -/
  sill : SillState
  /-- The storm engine; R207. -/
  storm : StormState
  /-- Check states; R230. -/
  chk : CheckState
  /-- Probes, excitation and acquisition; R262. -/
  front : FrontState
  /-- The survey converter; R295. -/
  svy : SurveyState
  /-- Bolts, latch points, counters, trace and JTAG; R484. -/
  dbg : DebugState
  /-- The stack; R398. -/
  stk : StackState
  /-- The site fabric; R415. -/
  fab : FabricState
  /-- The model's own counter of free values drawn, which the spec does not have; reset 0 (DESIGN CHOICE). -/
  free : Nat
  deriving DecidableEq, Repr

/-- The state of the block. -/
structure State where
  /-- Commands waiting, first in, first out. -/
  pending : List Instr
  /-- The fuses: no reset touches them (R455). -/
  fuses : Fuses
  /-- Everything else. -/
  dev : Dev
  deriving DecidableEq, Repr

/-- The host link after a reset (R535): empty, not ready. -/
def HostLink.reset : HostLink :=
  { ready := false, slots := [], linkReplies := [], stream := [], notes := [], resols := [], seq := 0, err := false,
    lastErr := 0, hirqLow := false, holdoff := false, lostSinceVerdict := false, driven := [], stackCmds := [] }

def PatchState.reset : PatchState := { staged := [], verifying := none, version := 0, area := [] }

def SysState.reset : SysState :=
  { main := .waking, since := 0, patch := .reset, ft := 0, ftLatch := 0, busData := 0, doorstepNote := false, stateNote := false }

def ResetState.reset : ResetState :=
  { asserted := none, causes := [(10, .lintelPor)], promoted := false, optionLoad := true, pinLow := false,
    supplyLow := false, rstoutLow := true, pllLock := true, hostPending := none, starting := true, straps := 0,
    hingeUp := false }

def PowerState.reset : PowerState :=
  { dom := [], reopening := [], cur := none, forced := [], queue := [], lastQuad := none, drainAt := [], dozeCut := none,
    dozeDone := false, dozeFrozen := none, dozed := [], afeGood := true, cmpGood := true, pgmGood := 0, refOn := 0 }

/-- The lintel after its POR (R358, R442): one LINTEL_POR entry, count 1, default policies, keys all zero. -/
def LintelState.reset : LintelState :=
  { rtc := 0, rtcPhase := 0, clkOk := true, clkMasked := false, fromVddio := true, vbatOk := true, rtcLatch := 0,
    armed := false, wakeExt := false, wakeAlarm := false, count := 1, hist := [0x3A], failCount := 0, reason0 := 0,
    reason1 := 0, reason2 := 0, doorReason := 0, keys := [], alarm := false, latched := 0, erased := false, active := 0,
    evCount := 0, tlog := [], unreported := 0, policy := 0xA005 }

def JambState.reset : JambState :=
  { mem := [], flips := [], marker := .clear, commits := 0, lock := false, lockSeen := false, jcount := 0, buf := none,
    commit := none, last := 0, devQueue := [], ring := none, ringTimes := [] }

def DeadboltState.reset : DeadboltState :=
  { sealed := false, hash := [], challenge := none, privileged := false, verifs := [], burning := none,
    burnCut := none }

def PaneCtl.reset : PaneCtl :=
  { progQueue := [], committing := [], counted := [], grafts := [], temps := [], pgmEn := false, audits := [], auditing := [], cmds := [], nextNo := 0 }

def Mullion.reset : Mullion :=
  { net := [], dispatch := [], credits := [], granted := [], edgeGhost := [], nextFire := 0, turns := [], ctlSent := [],
    faults := [] }

def Models.reset : Models := { slots := [], tickets := [], done := [], resq := [], high := 0, lossOf := [] }

def SillState.reset : SillState :=
  { mem := [], written := [], flips := [], descs := [], leases := [], clearing := false, held := [], front0 := 0,
    front1 := 0, fronts := false, selfRefresh := false, lookups0 := [], lookups1 := [], scrubBank := 0, scrubDie0 := 0,
    scrubDie1 := 0 }

def StormState.reset : StormState :=
  { fwd := [], pass := none, suspended := none, run := none, lastSlot := 15, lanes := [], samples := [],
    restarting := false, doing := (0, 0), work := [] }

def CheckState.reset : CheckState :=
  { pend := [], src := [], tau := [], flags := [], flagged := [], lostSteps := [], failSteps := [] }

def FrontState.reset : FrontState := { chans := [], teds := none, tedsMode := false, tedsSel := 0, tedsAt := 0, tedsQueue := [], cals := [] }

def SurveyState.reset : SurveyState :=
  { conv := none, predelay := false, entry := 0, latched := none, results := 0, summed := 0, sum := 0, sumOvr := false,
    sumTaint := false, sumUncal := false, sumStart := 0,
    sumNo := 0, convNo := 0, passes := 0, single := false, urgents := [], serving := none,
    cal := none, hz60 := false, mains := 0, lowpwr := false, uncal := true, last := none, lastAt := [], latches := [] }

def JtagState.reset : JtagState :=
  { ir := 1, tdo := 0, boundary := 0, extest := false, scanPos := 0, dmcontrol := 0, data0 := 0, data1 := 0, cmderr := 0,
    resumeAck := 0, dmiData := 0, dmiAddr := 0, halted := 0, hingeRegs := [], busy := false }

def DebugState.reset : DebugState :=
  { bolted := false, quiet := false, ownCause := false, cause := 0, hart := 0, skipped := 0, boltFt := 0, boltFtLatch := 0,
    lineLow := false, points := [], trig0Pulses := 0, trig1Pulses := 0, dumps := [], counters := [], fifo := [],
    traceNext := 0, traceWrapped := false, traceFull := false, traceDropped := 0, jtag := .reset }

def StackState.reset : StackState :=
  { ports := [], role := 0, generation := 0, masterId := 0, formed := false, seen := [], txCounter := 0, epoch := 0, inactive := [],
    committed := [], hbSteps := [], aliveOut := false, recvd := [], forwards := [], rstAwaits := [], former := false,
    offLatch := [], offs := [] }

def FabricState.reset : FabricState :=
  { ports := [], addr := 0, origin := 0, adjSeq := 0, routes := [], db := [], conflicts := [], txCounter := 0,
    seen := [], users := [], userDropped := 0, tableCmds := [], acked := [], lastAlarm := none }

/-- Everything but the queue and the fuses at reset. The one register that the release itself writes is RST_CAUSE: LAST 10
(LINTEL_POR), LEVEL 3, and the causes of this power-up, SUPPLY and LINTEL_POR, as SEEN (R350, R358; DEDUCED). -/
def Dev.reset : Dev :=
  { regs := [(0x10100, 0x0201003A)], hl := .reset, sys := .reset, rst := .reset, pwr := .reset, lin := .reset, jamb := .reset, db := .reset,
    panes := [], pctl := .reset, csm := [], mul := .reset, mdl := .reset, sill := .reset, storm := .reset, chk := .reset,
    front := .reset, svy := .reset, dbg := .reset, stk := .reset, fab := .reset, free := 0 }

/-- The block right after its first power-up: the lintel POR and the POR it came with have released, internal reset is
over and option load is in progress (R356, R358, R360); no command waits. -/
def State.reset : State :=
  { pending := [], fuses := { seal0 := false, seal1 := false, seal2 := false, hash := [] }, dev := .reset }

end Sys2Proof.Machine
end

