-- ==== Sys2Proof/Machine/Tab.lean ====
section
/-! DEFINITION. Sparse tables in one canonical form: keys strictly rising, no entry equal to what an unlisted key
reads as. Memories (sill, jamb, casement SRAM), the register file and the numbered units are such tables. -/
namespace Sys2Proof.Machine

/-- A sparse table from numbers to values, as plain data. -/
abbrev Tab (α : Type) := List (Nat × α)

namespace Tab
variable {α : Type}

/-- What the table holds at `k`; an unlisted key reads as `d k`. -/
def get (d : Nat → α) : Tab α → Nat → α
  | [], k => d k
  | (j, v) :: t, k => if j = k then v else get d t k

/-- Remove the entry of `k`. -/
def del : Tab α → Nat → Tab α
  | [], _ => []
  | (j, v) :: t, k => if j = k then del t k else (j, v) :: del t k

/-- Put an entry at its place in the rising order, replacing an entry of the same key. -/
def put : Tab α → Nat → α → Tab α
  | [], k, a => [(k, a)]
  | (j, v) :: t, k, a =>
    if k < j then (k, a) :: (j, v) :: t
    else if k = j then (k, a) :: t
    else (j, v) :: put t k a

/-- Store `a` at `k`, keeping the canonical form: storing what an unlisted key reads as removes the entry. -/
def set [DecidableEq α] (d : Nat → α) (t : Tab α) (k : Nat) (a : α) : Tab α :=
  if a = d k then del t k else put t k a

/-- Keep only the entries whose key satisfies `p`. -/
def keep (p : Nat → Bool) (t : Tab α) : Tab α := t.filter (fun e => p e.1)

/-- Drop every entry whose key lies in `[lo, lo + n)`: those keys read as the default again. -/
def dropRange (lo n : Nat) (t : Tab α) : Tab α := keep (fun k => k < lo || lo + n ≤ k) t

/-- Store a list of values at consecutive keys. -/
def setList [DecidableEq α] (d : Nat → α) : Tab α → Nat → List α → Tab α
  | t, _, [] => t
  | t, k, a :: l => setList d (set d t k a) (k + 1) l

/-- Read `n` consecutive keys. -/
def getList (d : Nat → α) (t : Tab α) : Nat → Nat → List α
  | _, 0 => []
  | k, n + 1 => get d t k :: getList d t (k + 1) n

/-- Keys strictly rising, all at least `lo`. -/
def rising : Nat → Tab α → Bool
  | _, [] => true
  | lo, (k, _) :: t => lo ≤ k && rising (k + 1) t

/-- The canonical form: keys strictly rising, no entry equal to the default of its key. -/
def wf [DecidableEq α] (d : Nat → α) (t : Tab α) : Bool :=
  rising 0 t && t.all (fun e => !(decide (e.2 = d e.1)))

end Tab
end Sys2Proof.Machine
end

