-- ==== Sys2Proof/Machine/Regs.lean ====
section
/-! DEFINITION. The register file: the address map of 00_scope.md, the reset value and the access masks of every
register table of the spec, and the plain access-code write of R9 to R12. -/
namespace Sys2Proof.Machine

/-- What a register's header line and access column give: reset value, RW bits, W1C bits, W1S bits. Other bits are
read-only, write-only or reserved: a plain write leaves them (R9, R12). -/
structure RegSpec where
  reset : Word
  rw : Word
  w1c : Word
  w1s : Word
  deriving DecidableEq, Repr

def ro (reset : Word) : RegSpec := ⟨reset, 0, 0, 0⟩
def rwr (reset rw : Word) : RegSpec := ⟨reset, rw, 0, 0⟩
def rc (w1c : Word) : RegSpec := ⟨0, 0, w1c, 0⟩

/-- Casement registers, 05_casements_and_mullion.md. -/
def csmSpec (o : Nat) : RegSpec :=
  if o = 0x000 then rwr 0x3 0x7
  else if o = 0x008 then rwr 0x80000000 0xFFFFFFFF
  else if o = 0x00C then rwr 0 0xFFFF
  else if o = 0x010 then rwr 0x64 0xFFFF
  else if o = 0x014 then rc 0x10
  else if 0x020 ≤ o ∧ o ≤ 0x02C then rwr 0 0xFFFFFFFF
  else if o = 0x030 then rwr 4 0xFFFFFFFF
  else ro 0

/-- Pane registers, 02, 03 and 04. -/
def paneSpec (o : Nat) : RegSpec :=
  if o = 0x00 then rwr 0x000F002F 0x000FFF7F
  else if o = 0x18 then rc 0xF
  else if o = 0x38 then ro 0x4000
  else if o = 0x3C then rwr 0x0C0C 0x7F1F
  else ro 0

/-- Hinge-control registers: 14, 19, 06 and 09. -/
def hingeSpec (o : Nat) : RegSpec :=
  if o = 0x100 then ro 1
  else if o = 0x200 then ro 0x50100000
  else if 0x400 ≤ o ∧ o < 0x600 ∧ o % 0x20 = 0x08 then rwr 0xC8 0xFFFF
  else if o = 0x704 then rwr 0 0x7F
  else if o = 0x718 then rc 0x7
  else ro 0

/-- Shutter, clock and reset registers: 12 and 13. -/
def resetSpec (o : Nat) : RegSpec :=
  if o = 0x000 then ro 3
  else if o = 0x010 then ro 1
  else if o = 0x014 then rwr 3 3
  else if o = 0x100 then rc 0x03FF0000
  else if o = 0x108 then rwr 16 0xFF
  else ro 0

/-- Survey registers: 11. -/
def surveySpec (o : Nat) : RegSpec :=
  if o = 0x000 then ⟨0, 0xFF1F, 0, 0x10000⟩
  else if o = 0x004 then ⟨1, 0, 0x30, 0⟩
  else if o = 0x008 then rwr 1 0x3F
  else if o = 0x010 then rwr 0x800000 0xFFFFFF
  else if o = 0x014 then rwr 0xC00000 0xFFFFFF
  else if 0x100 ≤ o ∧ o < 0x180 then rwr 0 0x7FFFFFFF
  else if 0x200 ≤ o ∧ o < 0x300 ∧ o % 8 = 0 then rc 0x02000000
  else if 0x300 ≤ o ∧ o < 0x480 ∧ o % 8 = 0 then rc 0x02000000
  else ro 0

/-- Excitation and supervision registers: 10. -/
def excSpec (o : Nat) : RegSpec :=
  if o < 0x040 then rwr 0 0xFFF
  else if 0x080 ≤ o ∧ o < 0x0C0 then rwr 0x14000000 0xFFFFFFFF
  else if o = 0x0C0 then rwr 0x0F32E010 0x0FFFFFFF
  else if o = 0x0C4 then rc 0x20
  else ro 0

/-- Acquisition registers: 10. -/
def acqSpec (o : Nat) : RegSpec :=
  if o ≥ 0x200 then ro 0
  else
    let k := o % 0x20
    if k = 0x00 then rwr 0x00080210 0x007F03FF
    else if k = 0x04 then rwr 8 0xFFFF
    else if k = 0x08 then ⟨1, 0, 2, 0⟩
    else if k = 0x0C then rwr 0 0xFFFFFF
    else if k = 0x10 then rwr 0x400000 0xFFFFFF
    else if k = 0x14 then rwr 0x8000 0xFFFF
    else ro 0

/-- Storm registers: 08. -/
def stormSpec (o : Nat) : RegSpec :=
  if o = 0x00 then rc 0x6 else if o = 0x04 then rwr 1 1 else ro 0

/-- Sill control registers: 07. -/
def sillSpec (o : Nat) : RegSpec :=
  if o = 0x00 then rc 0x6 else if o = 0x04 then rwr 1 1 else ro 0

/-- Mullion registers: 05. -/
def mulSpec (o : Nat) : RegSpec :=
  if o = 0x00 then ⟨0, 0, 0, 0xFFFFFFFF⟩ else if o = 0x04 then ro 0x80 else ro 0

/-- Door registers: 15. -/
def doorSpec (o : Nat) : RegSpec :=
  if o = 0x000 then rc 0x300
  else if o = 0x004 then rwr 7 0xF
  else if o = 0x100 then rwr 0x88B50000 0xFFFF003F
  else if o = 0x104 then rwr 0 0xFFFFFFFF
  else if o = 0x108 then rc 0x40000
  else if o = 0x10C then rwr 0 0xFFFFFFFF
  else ro 0

/-- Jamb registers: 16. -/
def jambSpec (o : Nat) : RegSpec := if o = 0x08 then rc 0x1000000 else ro 0

/-- Lintel registers: 16. -/
def lintelSpec (o : Nat) : RegSpec :=
  if o = 0x00 then ro 7
  else if o = 0x0C then rwr 0 0xFFFFFFFF
  else if o = 0x10 then rwr 0 0xFFFF
  else if o = 0x14 then rc 0x6
  else ro 0

/-- Debug registers: 18. -/
def debugSpec (o : Nat) : RegSpec :=
  if o = 0x00 then rwr 1 0x1F
  else if o = 0x10 then rwr 0 0x03FF0003
  else if o = 0x14 then rc 0x10000
  else ro 0

/-- Deadbolt registers: 17. -/
def deadboltSpec (o : Nat) : RegSpec := if o = 0x04 then ro 0xA005 else ro 0

/-- The register at a global address; an address that holds none reads 0 and ignores writes (R12). -/
def regSpec (a : Nat) : RegSpec :=
  let o := a % 0x10000
  if a ≥ 0x120000 then ro 0
  else if a ≥ 0x100000 then
    let c := a % 0x1000
    if c < 0x800 then csmSpec c else if c < 0x900 then paneSpec (c % 0x40) else ro 0
  else if a / 0x10000 = 0x0 then hingeSpec o
  else if a / 0x10000 = 0x1 then resetSpec o
  else if a / 0x10000 = 0x2 then lintelSpec o
  else if a / 0x10000 = 0x3 then jambSpec o
  else if a / 0x10000 = 0x4 then surveySpec o
  else if a / 0x10000 = 0x5 then excSpec o
  else if a / 0x10000 = 0x6 then acqSpec o
  else if a / 0x10000 = 0x8 then stormSpec o
  else if a / 0x10000 = 0x9 then sillSpec o
  else if a / 0x10000 = 0xA then mulSpec o
  else if a / 0x10000 = 0xB then doorSpec o
  else if a / 0x10000 = 0xC then debugSpec o
  else if a / 0x10000 = 0xD then deadboltSpec o
  else ro 0

/-- The reset value of the register at an address (R14). -/
def regReset (a : Nat) : Word := (regSpec a).reset

/-- The stored word of a register. -/
def Dev.reg (d : Dev) (a : Nat) : Word := Tab.get regReset d.regs a

/-- Store a register's word. -/
def Dev.setReg (d : Dev) (a : Nat) (w : Word) : Dev := { d with regs := Tab.set regReset d.regs a w }

/-- A field of a stored register word. -/
def Dev.fldAt (d : Dev) (a lo n : Nat) : Nat := wfld (d.reg a) lo n

/-- A bit of a stored register word. -/
def Dev.bitAt (d : Dev) (a i : Nat) : Bool := wbit (d.reg a) i

/-- Hardware sets a field. -/
def Dev.setFld (d : Dev) (a lo n v : Nat) : Dev := d.setReg a (wset (d.reg a) lo n v)

/-- Hardware increments a saturating counter field. -/
def Dev.satFld (d : Dev) (a lo n : Nat) : Dev := d.setFld a lo n (satInc n (d.fldAt a lo n))

/-- Hardware adds to a saturating counter field. -/
def Dev.addFld (d : Dev) (a lo n k : Nat) : Dev := d.setFld a lo n (satAdd n (d.fldAt a lo n) k)

/-- Every register of `[lo, lo + n)` returns to its reset value (R14). -/
def Dev.clearRegs (d : Dev) (lo n : Nat) : Dev := { d with regs := Tab.dropRange lo n d.regs }

/-- Address of a casement's register. -/
def aCsm (c o : Nat) : Nat := 0x100000 + c * 0x1000 + o

/-- Address of a pane's register (R52). -/
def aPane (p o : Nat) : Nat := 0x100000 + p / 4 * 0x1000 + 0x800 + p % 4 * 0x40 + o

/-- Address of a model slot's register. -/
def aSlot (s o : Nat) : Nat := 0x400 + s * 0x20 + o

/-- Address of an acquisition channel's register. -/
def aAcq (ch o : Nat) : Nat := 0x60000 + ch * 0x20 + o

/-- Address of EXC_CODEn. -/
def aExc (ch : Nat) : Nat := 0x50000 + ch * 4

/-- Address of PROBE_SENSn. -/
def aSens (ch : Nat) : Nat := 0x50080 + ch * 4

/-- Each of the eight 4-bit quotas of a CSM_QUOTA word clamped to 8. -/
def clampQuota (w : Word) : Word :=
  (List.range 8).foldl (fun w k => if wfld w (4 * k) 4 > 8 then wset w (4 * k) 4 8 else w) w

/-- What a register stores when software writes `v`, after the field tables' own limits: the value `w` that the access
codes give is clamped. `old` is the word before. -/
def regClamp (a : Nat) (old w : Word) : Word :=
  let o := a % 0x10000
  let c := a % 0x1000
  if a ≥ 0x100000 ∧ a < 0x120000 then
    if c = 0x008 then
      if wbit w 0 || w.toNat < 0x80000000 || w.toNat > 0x80034EFF then old else w
    else if c = 0x010 then if wfld w 0 16 = 0 then wset w 0 16 1 else w
    else if 0x020 ≤ c ∧ c ≤ 0x030 then clampQuota w
    else if 0x800 ≤ c ∧ c < 0x900 ∧ c % 0x40 = 0x00 then
      if wfld w 0 4 < 4 then wset w 0 4 4 else w
    else if 0x800 ≤ c ∧ c < 0x900 ∧ c % 0x40 = 0x3C then
      let w := if wfld w 0 5 > 16 then wset w 0 5 16 else w
      if wfld w 8 4 = 0 then wset w 8 4 1 else w
    else w
  else if a < 0x10000 ∧ 0x400 ≤ o ∧ o < 0x600 ∧ o % 0x20 = 0x08 then
    if wfld w 0 16 < 10 then wset w 0 16 10 else w
  else if a = 0x10108 then if wfld w 0 8 = 0 then wset w 0 8 1 else w
  else if a = 0x40000 then
    let w := if wfld w 0 2 = 3 then wset w 0 2 0 else w
    let w := if wfld w 2 2 = 3 then wset w 2 2 0 else w
    let w := if wfld w 8 6 > 47 then wset w 8 6 47 else w
    if wfld w 14 2 = 3 then wset w 14 2 0 else w
  else if a = 0x40008 then
    if wfld w 0 6 = 0 then wset w 0 6 1 else if wfld w 0 6 > 32 then wset w 0 6 32 else w
  else if 0x40100 ≤ a ∧ a < 0x40180 then
    let w := if wfld w 20 4 > 8 then wset w 20 4 8 else w
    if wfld w 29 2 = 3 then wset w 29 2 0 else w
  else if 0x60000 ≤ a ∧ a < 0x60200 ∧ a % 0x20 = 0 then
    let w := if wfld w 6 4 > 8 then wset w 6 4 8 else w
    wset w 16 7 (clampN 4 64 (wfld w 16 7))
  else if 0x60000 ≤ a ∧ a < 0x60200 ∧ a % 0x20 = 4 then
    if wfld w 0 16 = 0 then wset w 0 16 1 else w
  else if a = 0xB0104 then if wfld w 0 16 = 0xFFFF then wset w 0 16 0 else w
  else w

/-- The word a register holds after software writes `v` (R9): RW bits take the value, W1C bits are cleared by ones,
W1S bits are set by ones, all others keep. -/
def regAfter (a : Nat) (old v : Word) : Word :=
  let sp := regSpec a
  let w := (old &&& ~~~(sp.rw ||| sp.w1c)) ||| (v &&& sp.rw) ||| (old &&& sp.w1c &&& ~~~v) ||| (v &&& sp.w1s)
  regClamp a old w

/-- The plain access-code write of a register (R9): no behaviour of any field beyond its code. -/
def Dev.regWritePlain (d : Dev) (a : Nat) (v : Word) : Dev := d.setReg a (regAfter a (d.reg a) v)

end Sys2Proof.Machine
end

