-- ==== Sys2Proof/Machine/Units.lean ====
section
/-! DEFINITION. The numbered units of the block (R6) with what an unlisted one holds, and their one read and one write
each; status codes (R538). -/
namespace Sys2Proof.Machine

/-! Status codes of R538. -/
def stOk : Byte := 0x00
def stProvisional : Byte := 0x01
def stReduced : Byte := 0x02
def stBadOpcode : Byte := 0x10
def stBadLength : Byte := 0x11
def stBadCrc : Byte := 0x12
def stBadParam : Byte := 0x13
def stBadImage : Byte := 0x14
def stStateRefused : Byte := 0x20
def stBusy : Byte := 0x21
def stBusySelftest : Byte := 0x22
def stQueueFull : Byte := 0x23
def stPaneUnverified : Byte := 0x30
def stPaneSuspect : Byte := 0x31
def stCheckFailed : Byte := 0x32
def stRetracted : Byte := 0x33
def stUnwritten : Byte := 0x34
def stPartnerGone : Byte := 0x40
def stTimeout : Byte := 0x41
def stLinkDown : Byte := 0x42
def stAddressConflict : Byte := 0x43
def stNvmBusy : Byte := 0x50
def stNvmLocked : Byte := 0x51
def stNvmUncorrectable : Byte := 0x52
def stProbeOpen : Byte := 0x60
def stProbeShort : Byte := 0x61
def stProbeExpired : Byte := 0x62
def stExcFault : Byte := 0x63
def stSecurityDenied : Byte := 0x70
def stAlarmActive : Byte := 0x71
def stKeysAbsent : Byte := 0x72
def stInternalFault : Byte := 0x7F

/-- What an unlisted pane holds: factory cells, no record, shuttered with prior UNVERIFIED (R32, R81). -/
def paneDefault (_ : Nat) : Pane :=
  { st := .shuttered, prior := .unverified, cells := [], record := none, ledger := none, calDue := false,
    calFirst := false, queue := [], running := [], drivers := [], program := none, selftest := none }

def Dev.pane (d : Dev) (p : Nat) : Pane := Tab.get paneDefault d.panes p
def Dev.setPane (d : Dev) (p : Nat) (v : Pane) : Dev := { d with panes := Tab.set paneDefault d.panes p v }
def Dev.updPane (d : Dev) (p : Nat) (f : Pane → Pane) : Dev := d.setPane p (f (d.pane p))

/-- What an unlisted casement holds: halted core, zero SRAM (R123). -/
def csmDefault (_ : Nat) : Casement :=
  { core := .halted, x := [], pc := 0x80000000, csr := [], ftLatch := 0, inTrap := false, judged := false, sram := [], wait := .none,
    haltPending := false, flips := [], rsp := [], req := [], ctl := [], fires := [], restarts := [], drained := false }

def Dev.cas (d : Dev) (c : Nat) : Casement := Tab.get csmDefault d.csm c
def Dev.setCas (d : Dev) (c : Nat) (v : Casement) : Dev := { d with csm := Tab.set csmDefault d.csm c v }
def Dev.updCas (d : Dev) (c : Nat) (f : Casement → Casement) : Dev := d.setCas c (f (d.cas c))

/-- Store bytes in a casement's SRAM: words written whole have valid ECC again (R124). -/
def Casement.store (k : Casement) (o : Nat) (bs : List Byte) : Casement :=
  { k with
    sram := Tab.setList (fun _ => 0) k.sram o bs
    flips := k.flips.filter (fun e => !(o ≤ e.1 / 4 * 4 && e.1 / 4 * 4 + 4 ≤ o + bs.length)) }

def rspDefault (_ : Nat) : RspSlot := { gen := 0, busy := false, reply := none, fire := none }
def Casement.rspAt (k : Casement) (i : Nat) : RspSlot := Tab.get rspDefault k.rsp i
def Casement.setRsp (k : Casement) (i : Nat) (v : RspSlot) : Casement := { k with rsp := Tab.set rspDefault k.rsp i v }

/-- What an unlisted slot holds: EMPTY (R159). -/
def slotDefault (_ : Nat) : Slot :=
  { st := .empty, recv := [], model := none, mode := 0, policy := 0, reserve := 0, dest := 0, mask := 0, step := 0,
    seq := 0, nextEmit := 0, stopCmd := none, unloadAfter := false }

def Dev.slot (d : Dev) (i : Nat) : Slot := Tab.get slotDefault d.mdl.slots i
def Dev.setSlot (d : Dev) (i : Nat) (v : Slot) : Dev :=
  { d with mdl := { d.mdl with slots := Tab.set slotDefault d.mdl.slots i v } }
def Dev.updSlot (d : Dev) (i : Nat) (f : Slot → Slot) : Dev := d.setSlot i (f (d.slot i))

/-- What an unlisted ticket holds: FREE (R164). -/
def ticketDefault (_ : Nat) : Ticket :=
  { st := .free, slot := 0, channel := 0, step := 0, mode := 0, window := [], wflags := 0, wend := 0, grafts := [],
    evidence := [], fired := [], lineage := [], unwritten := false, viaStorm := [], byStorm := false }

def Dev.ticket (d : Dev) (i : Nat) : Ticket := Tab.get ticketDefault d.mdl.tickets i
def Dev.setTicket (d : Dev) (i : Nat) (v : Ticket) : Dev :=
  { d with mdl := { d.mdl with tickets := Tab.set ticketDefault d.mdl.tickets i v } }
def Dev.updTicket (d : Dev) (i : Nat) (f : Ticket → Ticket) : Dev := d.setTicket i (f (d.ticket i))

/-- What an unlisted channel holds: DISABLED, no probe known (R265). -/
def chanDefault (_ : Nat) : Chan :=
  { st := .disabled, bias := .inside, confirmed := false, tedsPresent := false, tedsExcl := false, lifeValid := false,
    excFault := false, mism := 0, mats := 0, confirmDue := false, confirmStale := false, detNo := 0, saved := none,
    tedsDisabled := false, excAt := 0, wins := [], hopLeft := 0, hpf := none, ovrTail := 0, ident := [], basic := [],
    memory := [], serial := none, rated := 0, consumed := 0, seconds := 0, shocks := 0, lastUpdate := 0, sinceWrite := 0,
    writeDue := false, expiredSent := false, blockN := 0, blockHit := false, cal := none }

def Dev.chan (d : Dev) (i : Nat) : Chan := Tab.get chanDefault d.front.chans i
def Dev.setChan (d : Dev) (i : Nat) (v : Chan) : Dev :=
  { d with front := { d.front with chans := Tab.set chanDefault d.front.chans i v } }
def Dev.updChan (d : Dev) (i : Nat) (f : Chan → Chan) : Dev := d.setChan i (f (d.chan i))

/-- What an unlisted stack port holds: disabled, 16 credits of each VC once trained (R403). -/
def stkPortDefault (_ : Nat) : StkPort :=
  { st := 0, partner := 0, train := none, txSeq := 0, rxSeq := 0xFFFF, replay := [], queue := [], credits := [16, 16, 16],
    resends := 0, lastTx := none, wire := [], best := none, rounds := 0, synced := false }

def Dev.port (d : Dev) (i : Nat) : StkPort := Tab.get stkPortDefault d.stk.ports i
def Dev.setPort (d : Dev) (i : Nat) (v : StkPort) : Dev :=
  { d with stk := { d.stk with ports := Tab.set stkPortDefault d.stk.ports i v } }
def Dev.updPort (d : Dev) (i : Nat) (f : StkPort → StkPort) : Dev := d.setPort i (f (d.port i))

/-- What an unlisted site port holds: PHY in reset, no neighbour (R415, R418). -/
def siteDefault (_ : Nat) : SitePort :=
  { phyUp := false, link := false, hello := false, nbr := none, txSeq := 0, queue := [], awaits := [], lastTx := none, wire := [],
    off := { best := none, rounds := 0, done := none, rate := 0, t1 := 0 } }

def Dev.site (d : Dev) (i : Nat) : SitePort := Tab.get siteDefault d.fab.ports i
def Dev.setSite (d : Dev) (i : Nat) (v : SitePort) : Dev :=
  { d with fab := { d.fab with ports := Tab.set siteDefault d.fab.ports i v } }
def Dev.updSite (d : Dev) (i : Nat) (f : SitePort → SitePort) : Dev := d.setSite i (f (d.site i))

/-- Where a domain's shutter stands when unlisted: HINGE and MULLION open, the others closed (R323, R330). -/
def domDefault (n : Nat) : DomPhase := if n ≤ 1 then .opened else .closed

def Dev.dom (d : Dev) (n : Nat) : DomPhase := Tab.get domDefault d.pwr.dom n
def Dev.setDom (d : Dev) (n : Nat) (v : DomPhase) : Dev :=
  { d with pwr := { d.pwr with dom := Tab.set domDefault d.pwr.dom n v } }

/-- The domain is open for new work (R20, R328): open and not closing. -/
def Dev.isOpen (d : Dev) (n : Nat) : Bool := d.dom n == .opened

/-- The domain works: it is open, or its close has not come to the end of its drain (R328). -/
def Dev.isLive (d : Dev) (n : Nat) : Bool :=
  match d.dom n with
  | .opened | .draining .. => true
  | _ => false

/-- The domain still has power (R328): open, opening or closing. -/
def Dev.isPowered (d : Dev) (n : Nat) : Bool :=
  match d.dom n with
  | .closed | .retained | .waitRail | .waitSpacing => false
  | _ => true

/-- The quadrant domain of a casement (R6). -/
def quadOf (c : Nat) : Nat :=
  let x := c % 8
  let y := c / 8
  if y ≤ 1 then (if x ≤ 3 then 6 else 7) else (if x ≤ 3 then 8 else 9)

/-- The quadrant domain of a pane. -/
def quadOfPane (p : Nat) : Nat := quadOf (p / 4)

/-- The casements of a quadrant domain, in the order of their ids (R325). -/
def casOfQuad (q : Nat) : List Nat := (List.range 32).filter (fun c => quadOf c == q)

/-- The panes of a quadrant domain. -/
def panesOfQuad (q : Nat) : List Nat := (List.range 128).filter (fun p => quadOfPane p == q)

/-- Frame time as a number (R339). -/
def Dev.now (d : Dev) : Nat := d.sys.ft.toNat

/-- Frame time bits [47:16], as DEV_SINCE and survey times hold them. -/
def Dev.nowWord (d : Dev) : Word := BitVec.ofNat 32 (d.now / 65536)

/-- The number of the next free value; the counter moves on. -/
def Dev.draw (d : Dev) : Nat × Dev := (d.free, { d with free := d.free + 1 })

/-- The part's identity as 12 bytes, little-endian (R4, R552). -/
def uidBytes : List Byte := leBytes 12 Config.uid.toNat

/-- ALARM overlay: the alarm latch is set (R474). -/
def Dev.inAlarm (d : Dev) : Bool := d.lin.alarm

/-- The started or stopping slots. -/
def Dev.busySlots (d : Dev) : List Nat :=
  (List.range 16).filter (fun i => (d.slot i).st == .started || (d.slot i).st == .stopping)

/-- The started slots. -/
def Dev.startedSlots (d : Dev) : List Nat := (List.range 16).filter (fun i => (d.slot i).st == .started)

/-- MODE placed of a slot. -/
def Slot.placed (s : Slot) : Bool := s.mode == 2

/-- A state's code in the state word (R378). -/
def MainState.code : MainState → Nat
  | .dark => 0 | .waking => 1 | .doorstep => 2 | .ajar => 3 | .opened => 4 | .dozing => 5

/-- PATCHING: a hinge patch load is in progress: its last packet is being validated (R555). -/
def Dev.patching (d : Dev) : Bool := d.sys.patch.verifying.isSome

/-- The state word of R378. -/
def Dev.stateWord (d : Dev) : Nat :=
  d.sys.main.code + b2n d.dbg.bolted * 16 + b2n d.inAlarm * 32 + b2n d.patching * 64
    + (d.busySlots.filter (fun i => (d.slot i).placed)).length * 256 + d.busySlots.length * 4096

/-- The device's STACK_ID as sampled at option load (R360). -/
def Dev.stackId (d : Dev) : Nat := fld d.rst.straps 1 2

end Sys2Proof.Machine
end

