-- ==== Sys2Proof/Machine/Link.lean ====
section
/-! DEFINITION. What every block uses to speak to the outside: packets and replies of the host link (R518 to R528),
notifications and resolutions (R529 to R535), trace records (R501 to R503), frames on stack ports (R400 to R403), the
change of main state (R379, R384) and the order of refusals (R388). -/
namespace Sys2Proof.Machine

/-! ### Trace -/

/-- A trace record's 16 bytes (R502). -/
def traceBytes (ft src kind : Nat) (data : List Byte) : List Byte :=
  leBytes 6 ft ++ leBytes 1 src ++ leBytes 1 kind ++ padTo 8 data

/-- Where a record joins those that wait: before the ones of the same tick with a higher source id (R503). -/
def traceInsert (r : List Byte) : List (List Byte) → List (List Byte)
  | [] => [r]
  | q :: l => if bytesAt q 0 6 == bytesAt r 0 6 && uAt q 6 1 > uAt r 6 1 then r :: q :: l else q :: traceInsert r l

/-- A trace event of an enabled KIND enters the FIFO, or is dropped and counted (R501, R503). -/
def Dev.trace (d : Dev) (src kind : Nat) (data : List Byte) : Dev :=
  if !(d.bitAt 0xC0010 0 && d.bitAt 0xC0010 (15 + kind)) then d
  else if d.dbg.traceFull then d
  else if !d.isOpen 4 then
    { d with dbg := { d.dbg with traceDropped := satInc 12 d.dbg.traceDropped } }
  else if d.dbg.fifo.length ≥ 8 then { d with dbg := { d.dbg with traceDropped := satInc 12 d.dbg.traceDropped } }
  else { d with dbg := { d.dbg with fifo := traceInsert (traceBytes d.now src kind data) d.dbg.fifo } }

/-! ### Counters of R499 -/

def Dev.counter (d : Dev) (id word : Nat) : Nat := Tab.get (fun _ => 0) d.dbg.counters (id * 16 + word)

def Dev.setCounter (d : Dev) (id word v : Nat) : Dev :=
  { d with dbg := { d.dbg with counters := Tab.set (fun _ => 0) d.dbg.counters (id * 16 + word) v } }

def Dev.incCounter (d : Dev) (id : Nat) : Dev := d.setCounter id 0 (satInc 32 (d.counter id 0))

/-- Raise a high-water counter. -/
def Dev.highWater (d : Dev) (id v : Nat) : Dev := if v > d.counter id 0 then d.setCounter id 0 v else d

/-! ### Keys (R458) -/

def Dev.keyBytes (d : Dev) (off n : Nat) : List Byte := Tab.getList (fun _ => 0) d.lin.keys off n
def Dev.keyPresent (d : Dev) (off n : Nat) : Bool := !allZero (d.keyBytes off n)
def Dev.hasDevKey (d : Dev) : Bool := d.keyPresent 0x000 96
def Dev.hasImgKey (d : Dev) : Bool := d.keyPresent 0x060 64
def Dev.hasFabricKey (d : Dev) : Bool := d.keyPresent 0x0A0 16
def Dev.hasStackKey (d : Dev) : Bool := d.keyPresent 0x0B0 16

/-! ### Stack frames out (R400 to R403) -/

/-- The STACK_IDs whose ports a STACK_ID's ports are connected with in the enclosure. -/
def stkNeighbours (a : Nat) : List Nat := (List.range 4).filter (fun b => Config.stkWire a b || Config.stkWire b a)

/-- The smaller of two hop counts. -/
def fewer : Option Nat → Option Nat → Option Nat
  | none, b => b
  | a, none => a
  | some a, some b => some (min a b)

/-- Hops from STACK_ID `a` to another in at most so many, without coming back to `own` (R404). -/
def stkHops (own target : Nat) : Nat → Nat → Option Nat
  | 0, a => if a = target then some 0 else none
  | n + 1, a =>
    if a = target then some 0
    else (((stkNeighbours a).filter (· != own)).map (stkHops own target n)).foldl fewer none |>.map (· + 1)

/-- The port of the fewest hops, the lowest on a tie. -/
def shortest : List (Nat × Nat) → Option Nat
  | [] => none
  | (h, p) :: l => if l.all (fun e => h ≤ e.1) then some p else shortest l

/-- The UP port that leads to a STACK_ID by the fewest hops, at most 3; ties go to the lower port (R404). Beyond a port's
partner the board's wiring decides (DESIGN CHOICE, log entry 86). -/
def Dev.stkRoute (d : Dev) (id : Nat) : Option Nat :=
  if id ≥ 4 then none
  else
    let ups := (List.range 3).filter (fun p => (d.port p).st == 2)
    match ups.find? (fun p => (d.port p).partner == id) with
    | some p => some p
    | none => shortest (ups.filterMap (fun p => (stkHops d.stackId id 2 (d.port p).partner).map (fun h => (h, p))))

/-- A frame type that carries no SEQ and is not kept for replay (R402): HEARTBEAT, CREDIT, TRAIN, SYNC. -/
def stkUnsequenced (typ : Nat) : Bool := typ == 1 || typ == 2 || typ == 0xB || typ == 0xE

/-- ROUTE of R400: source, destination, VC and AUTH. -/
def StkFrame.route (f : StkFrame) : Nat := f.src % 4 + f.dst % 4 * 4 + f.vc % 4 * 16 + b2n f.auth * 64

/-- A stack frame's header: TYPE, ROUTE, SEQ, ACK and LENGTH, and COUNTER when AUTH is 1 (R400). -/
def stkHead (f : StkFrame) : List Byte :=
  leBytes 1 f.typ ++ leBytes 1 f.route ++ leBytes 2 f.seq ++ leBytes 2 f.ack ++ leBytes 2 f.payload.length
    ++ (if f.auth then leBytes 8 f.counter else [])

/-- A frame's bytes on a port (R400, R401): with AUTH the payload is sealed with AES-128-GCM, the header with COUNTER being the
additional data; the CRC-32 closes the frame. -/
def stkBytes (key : List Byte) (port : Nat) (f : StkFrame) : List Byte :=
  let body := if f.auth then
      let (cipher, tag) := gcmSeal key (leBytes 1 f.src ++ leBytes 1 port ++ [0, 0] ++ leBytes 8 f.counter) (stkHead f) f.payload
      cipher ++ tag
    else f.payload
  let b := stkHead f ++ body
  b ++ leBytes 4 (crc32 b)

/-- The stack key (R458). -/
def Dev.stackKey (d : Dev) : List Byte := d.keyBytes 0x0B0 16

/-- A frame leaves on a port: every frame acknowledges (R403); but for unsequenced types it takes a SEQ and a place in the
replay buffer (R402); when authenticated it takes a COUNTER of its source, which a frame in transit keeps (R401). -/
def Dev.stkPut (d : Dev) (p : Nat) (f : StkFrame) : Dev :=
  let q := d.port p
  let f := { f with
    seq := if stkUnsequenced f.typ then 0 else q.txSeq, ack := q.rxSeq, held := none
    counter := if !f.auth then 0 else if f.src = d.stackId then d.stk.txCounter else f.counter }
  let q := { q with
    lastTx := some f
    wire := stkBytes d.stackKey p f
    txSeq := if stkUnsequenced f.typ then q.txSeq else (q.txSeq + 1) % 65536
    replay := if stkUnsequenced f.typ then q.replay else q.replay ++ [f] }
  let d := d.setPort p q
  let d := if f.auth && f.src == d.stackId then { d with stk := { d.stk with txCounter := d.stk.txCounter + 1 } } else d
  d.incCounter (0x60 + 2 * p)

/-- A frame of this device: authenticated when STACK_CFG.AUTH is set, TRAIN and SYNC excepted (R401). -/
def Dev.stkFrame (d : Dev) (typ dst vc : Nat) (payload : List Byte) : StkFrame :=
  { typ := typ, src := d.stackId, dst := dst, vc := vc, auth := d.bitAt 0xB0004 3 && !(typ == 0xE || typ == 0xB), seq := 0,
    counter := 0, payload := payload }

/-- With AUTH set and the stack key erased, no frame but TRAIN and SYNC is sent (R475). -/
def Dev.stkMute (d : Dev) (f : StkFrame) : Bool := f.auth && !d.hasStackKey

/-- A frame of this device that waits for nothing leaves on a port. -/
def Dev.stkNow (d : Dev) (p : Nat) (f : StkFrame) : Dev := if d.stkMute f then d else d.stkPut p f

/-- A frame has left a port's receive buffer: its credit goes back in a CREDIT frame (R403). -/
def Dev.creditBack (d : Dev) (p vc : Nat) : Dev :=
  if (d.port p).st = 2 then d.stkNow p (d.stkFrame 2 (d.port p).partner 2 (setAt [0, 0, 0] vc 1)) else d

/-- A frame leaves on a port, and the receive buffer that held it in transit with it. -/
def Dev.stkTransmit (d : Dev) (p : Nat) (f : StkFrame) : Dev :=
  let d := d.stkPut p f
  match f.held with
  | some r => d.creditBack r f.vc
  | none => d

/-- Send queued frames while credits last, CTL before RSP before REQ (R403); while BOLTED, DATA is held (R490). -/
def Dev.stkDrain : Nat → Dev → Nat → Dev
  | 0, d, _ => d
  | n + 1, d, p =>
    let q := d.port p
    let sendable := q.queue.filter (fun f => nthD q.credits f.vc 0 > 0 && !(d.dbg.bolted && f.typ == 3))
    let pick := match sendable.find? (fun f => f.vc == 2) with
      | some f => some f
      | none => match sendable.find? (fun f => f.vc == 1) with
        | some f => some f
        | none => sendable.head?
    match pick with
    | none => d
    | some f =>
      if q.st != 2 then d
      else
        let d := d.setPort p { q with
          queue := q.queue.erase f, credits := setAt q.credits f.vc (nthD q.credits f.vc 0 - 1) }
        Dev.stkDrain n (d.stkTransmit p f) p

/-- Queue a frame on a port. -/
def Dev.stkQueue (d : Dev) (p : Nat) (f : StkFrame) : Dev :=
  let q := d.port p
  Dev.stkDrain (q.queue.length + 1) (d.setPort p { q with queue := q.queue ++ [f] }) p

/-- Queue a frame of this device on a port. -/
def Dev.stkOut (d : Dev) (p typ dst vc : Nat) (payload : List Byte) : Dev :=
  let f := d.stkFrame typ dst vc payload
  if d.stkMute f then d else d.stkQueue p f

/-- Queue a frame for a STACK_ID on its route. The answer says whether a route was there. -/
def Dev.stkSend (d : Dev) (dst typ vc : Nat) (payload : List Byte) : Bool × Dev :=
  match d.stkRoute dst with
  | none => (false, d)
  | some p => (true, d.stkOut p typ dst vc payload)

/-! ### Packets of the host link -/

/-- A packet closed by its CRC, low byte first (R521). -/
def withCrc (bs : List Byte) : List Byte := bs ++ leBytes 2 (crc16 bs)

/-- A reply packet (R519). -/
def replyPacket (op tag st : Byte) (data : List Byte) : List Byte :=
  withCrc ([0x5A, op, tag, st] ++ leBytes 2 data.length ++ data)

/-- A notification packet (R520). -/
def notePacket (typ seq : Nat) (data : List Byte) : List Byte :=
  withCrc ([0x5C] ++ leBytes 1 typ ++ leBytes 2 seq ++ leBytes 2 data.length ++ data)

/-- A reply is flagged when NOTIFY was set or its status is not OK, OK_PROVISIONAL or OK_REDUCED (R528). -/
def replyFlagged (notify : Bool) (st : Byte) : Bool := notify || !(st == stOk || st == stProvisional || st == stReduced)

/-- Bytes waiting in the outbound stream (R516). -/
def streamBytes (l : List OutPkt) : Nat := (l.map (fun p => p.bytes.length)).sum

/-- The stream has room for all of `bytes` (R526). -/
def HostLink.room (h : HostLink) (bytes : List Byte) : Bool := streamBytes h.stream + bytes.length ≤ 16384

/-- A packet enters the stream whole; a flagged one pulls HIRQ_N low unless its release is less than 1 microsecond old (R526, R528). -/
def HostLink.push (h : HostLink) (p : OutPkt) : HostLink :=
  { h with stream := h.stream ++ [p], hirqLow := h.hirqLow || (p.flagged && !h.holdoff) }

/-- Replies wait for room (R527). -/
def HostLink.repliesWaiting (h : HostLink) : Bool :=
  h.slots.any (fun s => match s.phase with | .waiting _ => true | _ => false)

/-- A stream error: ERR and LAST_ERR (R516). -/
def HostLink.error (h : HostLink) (code : Nat) : HostLink := { h with err := true, lastErr := code }

/-- A stream error that HL_ERRCNT counts in its byte `k` (0 SYNC, 1 TRUNC, 2 CRC, 3 OTHER). -/
def Dev.linkError (d : Dev) (code k : Nat) : Dev :=
  { d.satFld 0x204 (8 * k) 8 with hl := d.hl.error code }

/-- A link reply (R522): it enters the stream, waits in the queue of 16, or is dropped with LAST_ERR 6. -/
def Dev.linkReply (d : Dev) (op tag st : Byte) : Dev :=
  let p : OutPkt := { bytes := replyPacket op tag st [], flagged := true, verdict := false }
  if d.hl.linkReplies.isEmpty && d.hl.room p.bytes then { d with hl := d.hl.push p }
  else if d.hl.linkReplies.length < 16 then { d with hl := { d.hl with linkReplies := d.hl.linkReplies ++ [p] } }
  else d.linkError 6 3

/-- The slot that a taken command of this tag holds. -/
def takenSlot (tag : Byte) (s : CmdSlot) : Bool := s.tag == tag && s.phase == .taken

/-- The reply of a command (R519, R527; for a command of the master, a REPLY frame, R406). A command whose slot a reset
has emptied gets none (R542). Replies that wait stand in the order of their creation, at the end of the slots. -/
def Dev.reply (d : Dev) (c : Cmd) (st : Byte) (data : List Byte) : Dev :=
  match c.fromPort with
  | some src => (d.stkSend src 5 1 (replyPacket c.op c.tag st data)).2
  | none =>
    if d.hl.slots.any (takenSlot c.tag) then
      let p : OutPkt := { bytes := replyPacket c.op c.tag st data, flagged := replyFlagged c.notify st, verdict := false }
      if d.hl.linkReplies.isEmpty && !d.hl.repliesWaiting && d.hl.room p.bytes then
        { d with hl := ({ d.hl with slots := d.hl.slots.filter (fun s => !takenSlot c.tag s) }).push p }
      else
        { d with hl := { d.hl with
          slots := d.hl.slots.filter (fun s => !takenSlot c.tag s)
            ++ (d.hl.slots.filter (takenSlot c.tag)).map (fun s => { s with phase := .waiting p }) } }
    else d

/-- A refusal with no DATA (R519). -/
def Dev.refuse (d : Dev) (c : Cmd) (st : Byte) : Dev := d.reply c st []

/-- OK with no DATA. -/
def Dev.ok (d : Dev) (c : Cmd) : Dev := d.reply c stOk []

/-! ### Notifications -/

/-- The notification waits ahead of the queue's bound: NOTE_VERDICT is not counted (R532). -/
def noteType (n : Note) : Nat := n.typ % 32

/-- Notifications that the queue of 64 bounds. -/
def HostLink.queued (h : HostLink) : Nat := (h.notes.filter (fun n => noteType n != 1)).length

/-- Remove the oldest waiting NOTE_PROBE or NOTE_PARTNER. -/
def dropProbeOrPartner : List Note → Option (List Note)
  | [] => none
  | n :: l => if noteType n == 4 || noteType n == 5 then some l else (dropProbeOrPartner l).map (fun l => n :: l)

/-- A notification is created on this device's own host link (R529, R532): it takes the next SEQ; with the queue full it
is dropped and counted, except that LINK_UP, DOORSTEP and NOTE_ALARM displace a NOTE_PROBE or NOTE_PARTNER. -/
def Dev.noteLocal (d : Dev) (typ : Nat) (data : List Byte) (displaces : Bool) : Dev :=
  let n : Note := { typ := typ, seq := d.hl.seq, data := data }
  let h := { d.hl with seq := (d.hl.seq + 1) % 65536 }
  if typ % 32 == 1 || h.queued < 64 then { d with hl := { h with notes := h.notes ++ [n] } }
  else if displaces then
    match dropProbeOrPartner h.notes with
    | some l => { (d.satFld 0x20C 0 16) with hl := { h with notes := l ++ [n] } }
    | none => { (d.satFld 0x20C 0 16) with hl := h }
  else { (d.satFld 0x20C 0 16) with hl := h }

/-- A notification: on a stack device other than the master it travels to the master in a NOTE frame (R407), otherwise it
waits on the host link. -/
def Dev.note (d : Dev) (typ : Nat) (data : List Byte) (displaces : Bool) : Dev :=
  if (d.stk.role == 1 || d.stk.role == 2) && (d.stkRoute d.stk.masterId).isSome then
    (d.stkSend d.stk.masterId 6 1 (notePacket typ 0 data)).2
  else d.noteLocal (typ + 32 * d.stackId) data displaces

/-- NOTE_STATE's first eight bytes (R531). -/
def Dev.stateNoteData (d : Dev) (cause unit detail : Nat) : List Byte :=
  leBytes 1 cause ++ leBytes 1 unit ++ leBytes 1 detail ++ [0] ++ leBytes 4 d.stateWord

/-- NOTE_STATE without a further word (R531). -/
def Dev.noteState (d : Dev) (cause unit detail : Nat) : Dev := d.note 8 (d.stateNoteData cause unit detail) false

/-- NOTE_PROBE (R530). -/
def Dev.noteProbe (d : Dev) (ch cause stat : Nat) (extra : List Byte) : Dev :=
  d.note 4 (leBytes 1 ch ++ leBytes 1 cause ++ leBytes 2 stat ++ extra) false

/-- NOTE_PARTNER (R530). -/
def Dev.notePartner (d : Dev) (cause id node uid : Nat) : Dev :=
  d.note 5 (leBytes 1 cause ++ leBytes 1 id ++ leBytes 2 node ++ leBytes 12 uid) false

/-- A NOTE_VERDICT of this device waits or is unread (R532). -/
def Dev.verdictOut (d : Dev) : Bool := d.hl.notes.any (fun n => n.typ == 1 + 32 * d.stackId) || d.hl.stream.any (·.verdict)

/-- Create a NOTE_VERDICT when the result queue holds a record and none waits or is unread (R532). -/
def Dev.noteVerdict (d : Dev) : Dev :=
  if d.mdl.resq.isEmpty || d.verdictOut || !d.hl.ready then d
  else
    let d := d.noteLocal (1 + 32 * d.stackId) (leBytes 2 d.mdl.resq.length ++ leBytes 1 (b2n d.hl.lostSinceVerdict) ++ [0]) false
    { d with hl := { d.hl with lostSinceVerdict := false } }

/-- A resolution joins the resolution queue of 8,192, or is dropped and counted (R532). -/
def Dev.queueResol (d : Dev) (r : Resol) : Dev :=
  if d.hl.resols.length < 8192 then { d with hl := { d.hl with resols := d.hl.resols ++ [r] } }
  else d.satFld 0x20C 16 16

/-! ### The main state -/

/-- A change of R384: a STATE trace record, and a STATE_CHANGE that the hinge, if it runs, sends once the tick is over, so
that changes of one tick are reported in one notification. -/
def Dev.stateChanged (d : Dev) : Dev :=
  let d := d.trace 32 1 (leBytes 4 d.stateWord)
  if d.rst.hingeUp then { d with sys := { d.sys with stateNote := true } } else d

/-- The notification of the changes since the last tick (R384). -/
def Dev.tellState (d : Dev) : Dev :=
  if d.sys.stateNote then { d with sys := { d.sys with stateNote := false } }.noteState 0 0 0 else d

/-- The main state changes: DEV_SINCE takes the frame time, and STATE_CHANGE is to be sent except for DARK, WAKING and DOORSTEP
(R379, R384). Entering the same state is no change. -/
def Dev.setMain (d : Dev) (m : MainState) : Dev :=
  if d.sys.main == m then d
  else
    let d := { d with sys := { d.sys with main := m, since := d.nowWord } }
    if m == .dark || m == .waking || m == .doorstep then d.trace 32 1 (leBytes 4 d.stateWord) else d.stateChanged

/-- AJAR is entered from WAKING: the start has succeeded and the failure count is cleared (R363, R380). -/
def Dev.enterAjar (d : Dev) : Dev :=
  let d := { d with rst := { d.rst with starting := false }, lin := { d.lin with failCount := 0 } }
  d.setMain .ajar

/-! ### Legality (R387, R388) -/

/-- An entry of the legality matrix. -/
inductive Legal where
  | y | n | o
  deriving DecidableEq, Repr

/-- The legality matrix of R387, by opcode. -/
def legal (op : Nat) (m : MainState) : Legal :=
  if op ≤ 0x03 ∨ op = 0x07 ∨ op = 0x70 ∨ op = 0x93 ∨ op = 0x94 then .y
  else if op = 0x04 then (if m = .waking then .y else .n)
  else if op = 0x05 then (if m = .doorstep then .y else .n)
  else if op = 0x06 then (if m = .doorstep then .n else .y)
  else if m = .waking then .o
  else if m = .doorstep then .n
  else if op = 0x12 then (if m = .ajar then .y else .n)
  else if m = .dozing then
    (if (0x20 ≤ op ∧ op ≤ 0x26 ∧ op ≠ 0x25) ∨ (0x30 ≤ op ∧ op ≤ 0x36 ∧ op ≠ 0x35) ∨ (0x40 ≤ op ∧ op ≤ 0x43)
        ∨ (0x60 ≤ op ∧ op ≤ 0x65) ∨ op = 0x83 ∨ op = 0x90 ∨ op = 0x91 then .n else .y)
  else .y

/-- The opcodes of R547. -/
def assigned (op : Nat) : Bool :=
  op ≤ 0x08 || (0x10 ≤ op && op ≤ 0x14) || (0x20 ≤ op && op ≤ 0x26) || (0x30 ≤ op && op ≤ 0x36)
    || (0x40 ≤ op && op ≤ 0x43) || (0x50 ≤ op && op ≤ 0x59) || (0x60 ≤ op && op ≤ 0x65) || (0x70 ≤ op && op ≤ 0x73)
    || (0x80 ≤ op && op ≤ 0x85) || (0x90 ≤ op && op ≤ 0x94)

/-- The commands the hinge executes while BOLTED (R385). -/
def boltedAllows (op : Nat) : Bool :=
  op ≤ 0x03 || op == 0x07 || op == 0x08 || op == 0x70 || op == 0x93 || op == 0x94 || (0x80 ≤ op && op ≤ 0x8F)

/-- What the SPI link serves (R405, R414): nothing on a standby or follower whose HOST_SEL puts its host on the stack, even
after a takeover; a part of the commands on one that is not the master. -/
def spiServes (d : Dev) (op : Nat) : Bool :=
  if d.stackId ≠ 0 && bitOf d.rst.straps 0 then false
  else if d.stk.former || d.stk.role == 2 then op ≤ 0x02 || op == 0x07
  else if d.stk.role == 1 then op ≤ 0x02 || op == 0x07 || op == 0x70
  else true

/-- The deadbolt checks that the opcode alone decides (R456, R475, R505). -/
def deadboltDenies (d : Dev) (op : Nat) : Option Byte :=
  let closed := d.db.sealed && !d.db.privileged
  firstFail [
    (d.inAlarm && (op == 0x30 || op == 0x36 || op == 0x06 || op == 0x20), stSecurityDenied),
    (d.inAlarm && (op == 0x63 || op == 0x64), stAlarmActive),
    (closed && (op == 0x20 || op == 0x80 || op == 0x82 || op == 0x83 || op == 0x85), stSecurityDenied)]

/-- STATE_REFUSED with the state word as DATA; DEV_REFUSED counts it (R388). -/
def Dev.stateRefused (d : Dev) (c : Cmd) : Dev :=
  let d := d.satFld 0x108 0 16
  let d := d.setFld 0x108 16 8 c.op.toNat
  d.reply c stStateRefused (leBytes 4 d.stateWord)

/-- Steps 2 to 5 of R388, then the command itself: an opcode that is not assigned, the main state, BOLTED, the link's own
limits (R405), an opening command's entry to AJAR (R380), the deadbolt, and then `f`. -/
def Dev.judge (d : Dev) (c : Cmd) (f : Cmd → Dev → Dev) : Dev :=
  let op := c.op.toNat
  if !assigned op then d.refuse c stBadOpcode
  else if legal op d.sys.main == .n then d.stateRefused c
  else if d.dbg.bolted && !boltedAllows op then d.stateRefused c
  else if c.fromPort.isNone && !spiServes d op then d.refuse c stBusy
  else
    let d := if legal op d.sys.main == .o then d.enterAjar else d
    match deadboltDenies d op with
    | some st => d.refuse c st
    | none => f c d

/-- No command is taken while PATCHING is set, hart 32 is halted or the root is gated, nor between a RESET and the reset it
asks for, except that START_ABORT is not held up by PATCHING in WAKING (R389, R488, R524, R338, R546). -/
def Dev.takes (d : Dev) (op : Byte) : Bool :=
  d.rst.hostPending.isNone && d.rst.pllLock && !bitOf d.dbg.jtag.halted 32 && (!d.patching || (op == 0x04 && d.sys.main == .waking))

/-- A command packet with opcode, tag, flags and parameters is accepted (R523): duplicate tags are dropped, a packet that
finds 16 slots held gets QUEUE_FULL. -/
def Dev.accept (d : Dev) (sl : CmdSlot) : Dev :=
  if d.hl.slots.any (fun s => s.tag == sl.tag) then d.linkError 5 3
  else if d.hl.slots.length ≥ 16 then d.linkReply sl.op sl.tag stQueueFull
  else { d with hl := { d.hl with slots := d.hl.slots ++ [sl] } }

/-- FLAGS of R518 for a NOTIFY bit. -/
def flagsOf (notify : Bool) : Byte := if notify then 2 else 0

/-- A host command as one event: its packet arrives whole, is accepted (R523), taken (R524) and judged (R388), and `f` is
its own effect. It stays in its slot as `params` where an earlier command waits or no command is taken, and is ignored
while the link is not ready (R517). -/
def Dev.hostCmd (op : Byte) (params : List Byte) (h : CmdHdr) (f : Cmd → Dev → Dev) (d : Dev) : Dev :=
  if !d.hl.ready then d
  else if d.hl.slots.any (fun s => s.tag == h.tag) then d.linkError 5 3
  else if d.hl.slots.length ≥ 16 then d.linkReply op h.tag stQueueFull
  else
    let sl : CmdSlot := { op := op, tag := h.tag, flags := flagsOf h.notify, deadline := none, params := params, phase := .queued }
    if d.takes op && ((op == 0x04 && d.sys.main == .waking) || d.hl.slots.all (fun s => s.phase != .queued)) then
      ({ d with hl := { d.hl with slots := d.hl.slots ++ [{ sl with phase := .taken }] } }).judge
        { fromPort := none, op := op, tag := h.tag, notify := h.notify } f
    else { d with hl := { d.hl with slots := d.hl.slots ++ [sl] } }

/-- The clocks divided from the root run (R338): the supply is there, the root PLL is locked, and no POR or SYSRST, which
restart it, is asserted (R353). -/
def Dev.clocked (d : Dev) : Bool :=
  (d.rst.asserted == none || d.rst.asserted == some .core) && d.rst.pllLock && !d.rst.supplyLow

/-- What logic of a divided clock does: nothing while the clocks stand (R333, R338). -/
def Dev.onClock (d : Dev) (f : Dev → Dev) : Dev := if d.clocked then f d else d

/-- A meaning of always-on logic, the lintel, the TAP or a pin: it acts on everything but the queue of commands and the fuses. -/
def onAny (s : State) (f : Dev → Dev) : Host.Outcome State Fault Refusal := .next { s with dev := f s.dev }

/-- A meaning of logic on a divided clock. -/
def onDev (s : State) (f : Dev → Dev) : Host.Outcome State Fault Refusal := onAny s (fun d => d.onClock f)

/-- What a unit that BOLTED freezes does: nothing while the device is BOLTED (R490, R491). -/
def Dev.running (d : Dev) (f : Dev → Dev) : Dev := if d.dbg.bolted then d else f d

/-- A meaning of a unit that BOLTED freezes. -/
def onRun (s : State) (f : Dev → Dev) : Host.Outcome State Fault Refusal := onDev s (fun d => d.running f)

end Sys2Proof.Machine
end

