-- ==== Sys2Proof/Machine/Products.lean ====
section
/-! DEFINITION. The numeric model of a pane (02_panes.md R31 to R50) and the drift ledger's arithmetic
(04_drift_ledger.md R97 to R109), as functions of data. -/
namespace Sys2Proof.Machine

/-! ### Weights and columns -/

/-- The weight code of a cell pair, whose conductances above 1 microsiemens are in eighths of g_lsb (R31, R61). -/
def weightCode (c : Nat × Nat) : Int := roundAway ((((c.1 : Int) - (c.2 : Int) : Int) : Rat) / 8)

/-- The weight code of a crossing (R31). -/
def cellCode (cells : Tab (Nat × Nat)) (row col : Nat) : Int :=
  weightCode (Tab.get (fun _ => (0, 0)) cells (520 * row + col))

/-- Active data columns of PANE_CFG (COL_GROUPS). -/
def activeCols (cfg : Word) : Nat := (wfld cfg 16 4 + 1) * 32

/-- A column takes part in a product: an active data column, a checksum or a reference column. -/
def colActive (cfg : Word) (j : Nat) : Bool := j < activeCols cfg || 512 ≤ j

/-- SHIFT of PANE_CFG. -/
def cfgShift (cfg : Word) : Nat := wfld cfg 0 4

/-- Add one cell's contribution into the column sums. -/
def addCell (drive : List Int) (acc : List Int) (e : Nat × (Nat × Nat)) : List Int :=
  let r := e.1 / 520
  let c := e.1 % 520
  let x := nthD drive r 0
  if x = 0 then acc else setAt acc c (nthD acc c 0 + x * weightCode e.2)

/-- D of every physical column for drives of the 520 physical rows (R45). -/
def dots (cells : Tab (Nat × Nat)) (drive : List Int) : List Int :=
  cells.foldl (addCell drive) (List.replicate 520 0)

/-- Drives of the 520 rows: 512 inputs and the eight auxiliary rows. -/
def drives (x : List Int) (aux : List Int) : List Int := (x ++ List.replicate 512 0).take 512 ++ aux

/-- A ticket product's input as the pane takes it (R39, R40): unsigned codes 0 to 255, or signed lanes within 255. -/
def pulse (cfg : Word) (x : Int) : Int := if wbit cfg 4 then clampI (-255) 255 x else clampI 0 255 x

/-- The auxiliary drives of a ticket product: BIAS_A and BIAS_B with BIAS_EN (R34, R41). -/
def biasAux (cfg : Word) : List Int :=
  let b : Int := if wbit cfg 6 then (wfld cfg 8 8 : Nat) else 0
  [b, b, 0, 0, 0, 0, 0, 0]

/-- A column's conversion (R45, R47): its code and its OVR bit. Gain, offset and noise of draw `n` are free values. -/
def convert (n pane j shift : Nat) (dj : Int) : Int × Bool :=
  let v : Rat := Config.colGain n pane j * ((dj : Rat) / ((2 ^ shift : Nat) : Rat)) + Config.colOffset n pane j
    + Config.colNoise n pane j
  let y := roundAway v
  if y ≥ 512 then (511, true) else if y ≤ -512 then (-511, true) else (y, false)

/-- A conversion's 520 codes and OVR bits; an inactive data column holds -512 (R50). -/
def convertAll (n pane shift : Nat) (active : Nat → Bool) (ds : List Int) : List (Int × Bool) :=
  (List.range 520).map (fun j => if active j then convert n pane j shift (nthD ds j 0) else (-512, false))

/-! ### Checksums (R35, R37) -/

/-- r_sum over active data columns. -/
def rSum (ks : Nat) (act : Nat) (y : List Int) : Int :=
  sumI (y.take act) - ((2 ^ ks : Nat) : Int) * nthD y 512 0

/-- r_idx over active data columns. -/
def rIdx (ki : Nat) (act : Nat) (y : List Int) : Int :=
  sumI ((List.range act).map (fun j => ((j + 1 : Nat) : Int) * nthD y j 0)) - ((2 ^ ki : Nat) : Int) * nthD y 513 0

/-- The located column, when valid (R37). -/
def located (rs ri : Int) : Option Nat :=
  if rs = 0 then none
  else
    let c := roundAway ((ri : Rat) / (rs : Rat)) - 1
    if 0 ≤ c ∧ c ≤ 511 then some c.toNat else none

/-! ### The ledger -/

/-- The weights of REF1, REF2 and REF3 on data rows (R36). -/
def refWeight (k : Nat) : Int := if k = 1 then 127 else if k = 2 then -127 else if k = 3 then 64 else 0

/-- What one product adds to the array response: for k = 1, 2, 3 (y I, I, I squared), if the product contributes (R99). -/
def arrayTerm (shift : Nat) (s : Int) (y : List Int) (ovr : Nat → Bool) : Option (List (Rat × Rat × Rat)) :=
  let i := fun (k : Nat) => ((refWeight k * s : Int) : Rat) / ((2 ^ shift : Nat) : Rat)
  let ok := [1, 2, 3].all (fun k => (i k ≥ 32 || i k ≤ -32) && !ovr (514 + k))
  if !ok then none
  else some ([1, 2, 3].map (fun k =>
    (((nthD y (514 + k) 0 : Int) : Rat) * i k, i k, i k * i k)))

/-- Sum two triples of accumulators. -/
def addTerms (a b : List (Rat × Rat × Rat)) : List (Rat × Rat × Rat) :=
  List.zipWith (fun x y => (x.1 + y.1, x.2.1 + y.2.1, x.2.2 + y.2.2)) a b

/-- Empty accumulators. -/
def zeroTerms : List (Rat × Rat × Rat) := [(0, 0, 0), (0, 0, 0), (0, 0, 0)]

/-- a_k of accumulated sums, k = 1, 2, 3, with the entry's o_k and c_k as they stand at the update (R101); a converter
factor of 0 counts as 1 (log entry 18). -/
def Ledger.arrayA (l : Ledger) (k : Nat) (t : Rat × Rat × Rat) : Rat :=
  let oc : Rat × Rat := match l.cols[514 + k]? with | some e => (e.o, if e.c = 0 then 1 else e.c) | none => (0, 1)
  if t.2.2 = 0 then 0 else (t.1 - oc.1 * t.2.1) / oc.2 / t.2.2

/-- The three of them. -/
def Ledger.arrayAs (l : Ledger) (acc : List (Rat × Rat × Rat)) : List Rat :=
  List.zipWith (fun (k : Nat) t => l.arrayA k t) [1, 2, 3] acc

def meanR (l : List Rat) : Rat := if l.isEmpty then 0 else l.foldl (· + ·) 0 / (l.length : Rat)
def maxR (l : List Rat) : Rat := l.foldl max (l.headD 0)
def minR (l : List Rat) : Rat := l.foldl min (l.headD 0)
def absR (q : Rat) : Rat := if q < 0 then -q else q

/-- The gain of column `j` (R102); a checksum column's is 1 (R100). -/
def LedgerCol.gain (e : LedgerCol) (h : Rat) (j : Nat) : Rat :=
  if j = 512 ∨ j = 513 then 1 else e.g0 * (if e.c0 = 0 then 1 else e.c / e.c0) * h

/-- GINV and OFFSET of an entry (R103), held within their fields. -/
def LedgerCol.stored (e : LedgerCol) (h : Rat) (j : Nat) : Nat × Int :=
  let g := e.gain h j
  let gi : Int := if g ≤ 0 then 65535 else clampI 0 65535 (roundAway (16384 / g))
  (gi.toNat, clampI (-32768) 32767 (roundAway (16 * e.o)))

/-- The 520 stored entries of a ledger. -/
def Ledger.stored (l : Ledger) : List (Nat × Int) :=
  (List.range l.cols.length).map (fun j => match l.cols[j]? with | some e => e.stored l.h j | none => (16384, 0))

/-- A corrected column value in quarter-LSB (R103, R105). -/
def correct (bypass : Bool) (e : Option (Nat × Int)) (y : Int) : Int :=
  if y = -512 then -32768
  else
    match e with
    | some (gi, off) =>
      if bypass then y * 4
      else clampI (-32767) 32767 (roundAway ((((16 * y - off) * (gi : Int) : Int) : Rat) / 65536))
    | none => y * 4

/-- Every column of a product corrected with the entries in force at its first row pulse (R104). -/
def correctAll (bypass : Bool) (corr : List (Nat × Int)) (y : List Int) : List Int :=
  (List.range 520).map (fun j => correct bypass corr[j]? (nthD y j 0))

/-- Gain thresholds of LEDGER_CFG: refresh threshold in gain and in LSB. -/
def refreshGain (cfg : Word) : Rat := (wfld cfg 0 5 : Rat) * 5 / 1000
def refreshOffset (cfg : Word) : Rat := (wfld cfg 8 4 : Rat)

/-- A column is at or beyond a limit (R109). -/
def colLimit (h : Rat) (j : Nat) (e : LedgerCol) : Bool :=
  (absR (e.gain h j - 1) ≥ 8 / 100) || (absR e.o ≥ 16) || e.calOvr ≥ 3

/-- A column is beyond a refresh threshold, as bit REFRESH of its entry says (R115). -/
def colRefresh (cfg : Word) (h : Rat) (j : Nat) (e : LedgerCol) : Bool :=
  absR (e.gain h j - 1) > refreshGain cfg || absR e.o > refreshOffset cfg

/-- The first cause, in the order gain, offset, spread, CAL OVR, at which the pane meets a bound (R109, CAUSE). -/
def ledgerCause (act : Nat) (l : Ledger) (g o sp : Rat) (ovr : Bool) : Option Nat :=
  let js := (List.range 520).filter (fun j => j < act || 512 ≤ j)
  let anyCol := fun (f : Nat → LedgerCol → Bool) => js.any (fun j => match l.cols[j]? with | some e => f j e | none => false)
  firstFail [
    (anyCol (fun j e => absR (e.gain l.h j - 1) ≥ g), 1),
    (anyCol (fun _ e => absR e.o ≥ o), 2),
    (l.spread ≥ sp, 3),
    (ovr && anyCol (fun _ e => e.calOvr ≥ 3), 4)]

/-- CAL_PERIOD in core ticks (LEDGER_CFG). -/
def calPeriod (cfg : Word) : Nat :=
  let p := wfld cfg 12 2
  if p = 0 then 80000000 else if p = 1 then 20000000 else if p = 2 then 320000000 else 800000000

/-- The update of one column by a calibration pair (R100): CAL and ZERO codes with their OVR bits. -/
def LedgerCol.pair (e : LedgerCol) (j : Nat) (cal zero : Int × Bool) (temp : Int) (now : Nat) : LedgerCol :=
  let e := { e with calOvr := if cal.2 then e.calOvr + 1 else 0 }
  if cal.2 || zero.2 then e
  else
    let o := e.o + ((zero.1 : Rat) - e.o) / 4
    let e := { e with o := o, temp := temp, at_ := now, stale := false }
    if j = 512 ∨ j = 513 then e else { e with c := e.c + (((cal.1 : Rat) - o) / 255 - e.c) / 4 }

/-- The array update of R101. -/
def Ledger.arrayUpdate (l : Ledger) (temp : Int) : Ledger :=
  let as := l.arrayAs l.acc
  let h := if l.a0 = 0 then l.h else l.h + (meanR as / l.a0 - l.h) / 8
  let sp := if l.a0 = 0 then l.spread else (maxR as - minR as) / l.a0
  { l with h := h, spread := sp, updates := l.updates + 1, n := 0, acc := zeroTerms, arrayTemp := temp, arrayStale := false }

/-! ### A product's result -/

/-- The result of a refused or discarded product: no data in every column (R46, R50, R131). -/
def refusedResult (st : Byte) : ProdResult :=
  { codes := List.replicate 520 (-32768), rsum := 0, ridx := 0, loc := none, status := st, ovr := false, ckSkip := false,
    refOvr := false }

/-- The bytes of a result: the destination layout of PN.COLLECT (R131), then a flag byte (OVR, CK_SKIP, REF_OVR). -/
def ProdResult.bytes (r : ProdResult) : List Byte :=
  (r.codes.map (fun c => leBytes 2 (tc 16 c))).flatten ++ leBytes 4 (tc 32 r.rsum) ++ leBytes 4 (tc 32 r.ridx)
    ++ leBytes 2 (match r.loc with | some c => c | none => 0xFFFF) ++ zeros 6

/-- Flags of a result in a PANE_FWD reply. -/
def ProdResult.flagByte (r : ProdResult) : Byte := BitVec.ofNat 8 (b2n r.ovr + 2 * b2n r.ckSkip + 4 * b2n r.refOvr)

/-- A result read back from a PANE_FWD reply. -/
def ProdResult.ofBytes (st : Byte) (bs : List Byte) : ProdResult :=
  let loc := uAt bs 1048 2
  let f := uAt bs 1056 1
  { codes := (List.range 520).map (fun j => sxt 16 (uAt bs (2 * j) 2)), rsum := sxt 32 (uAt bs 1040 4),
    ridx := sxt 32 (uAt bs 1044 4), loc := if loc = 0xFFFF then none else some loc, status := st,
    ovr := bitOf f 0, ckSkip := bitOf f 1, refOvr := bitOf f 2 }

end Sys2Proof.Machine
end

