-- ==== Sys2Proof/Machine/CheckCfg.lean ====
section
/-! DEFINITION. Check configuration, checksum tolerance and test (09_silent_errors.md R230 to R237), the shadow walk's
items and lanes (08_storm.md R219 to R221), and the change of a model to placed mode (R23). -/
namespace Sys2Proof.Machine

/-! ### The check configuration (R235, R236) -/

/-- A path entry. -/
structure PathCfg where
  pane : Nat
  products : Nat
  hypBase : Nat
  stride : Nat
  tol : Nat
  comp : Bool
  tauAdd : Nat

/-- A range entry: pane of the ticket map or 0xFF, columns, bounds. -/
structure RangeCfg where
  target : Nat
  count : Nat
  column : Nat
  lo : Int
  hi : Int

/-- A check configuration; K in tenths. -/
structure CheckCfg where
  k10 : Nat
  paths : List PathCfg
  ranges : List RangeCfg
  sources : List (Nat × Nat × Nat)

def pathOf (b : List Byte) : PathCfg :=
  { pane := uAt b 0 1, products := uAt b 1 1, hypBase := uAt b 2 1, stride := uAt b 3 1, tol := uAt b 4 1,
    comp := bitOf (uAt b 5 1) 0, tauAdd := uAt b 6 2 }

def rangeOf (b : List Byte) : RangeCfg :=
  { target := uAt b 0 1, count := uAt b 1 1, column := uAt b 2 2, lo := sxt 16 (uAt b 4 2), hi := sxt 16 (uAt b 6 2) }

/-- The entries of a section that follow its header. -/
def checkEntries (s : List Byte) : List (List Byte) := chunks 200 8 (s.drop 16)

/-- The configuration that a section and a ticket map give (R236): with no section or PATHS 0, the defaults. -/
def checkCfg (s : List Byte) (panes : List Nat) : CheckCfg :=
  let np := uAt s 3 1
  if s.isEmpty || np = 0 then
    { k10 := 50, ranges := [], sources := [],
      paths := panes.map (fun p => { pane := p, products := 1, hypBase := 0xFF, stride := 0, tol := 4, comp := false, tauAdd := 0 }) }
  else
    let es := checkEntries s
    { k10 := uAt s 6 1
      paths := (es.take np).map pathOf
      ranges := ((es.drop np).take (uAt s 4 1)).map rangeOf
      sources := ((es.drop (np + uAt s 4 1)).take (uAt s 5 1)).map (fun b => (uAt b 0 2, uAt b 2 1, uAt b 3 1)) }

/-- A path entry is in range (R235, R236). -/
def pathOk (b : List Byte) (panes : List Nat) : Bool :=
  let p := pathOf b
  panes.contains p.pane && 1 ≤ p.products && p.products ≤ 64 && (p.hypBase ≤ 63 || p.hypBase == 0xFF) && p.stride ≤ 63
    && 1 ≤ p.tol && uAt b 5 1 ≤ 1 && (p.hypBase == 0xFF || p.hypBase + (p.products - 1) * p.stride ≤ 63)

/-- A range entry is in range; a record test has COUNT 0 and names SCORE1 or ANOMALY (R235). -/
def rangeOk (b : List Byte) (panes : List Nat) : Bool :=
  let r := rangeOf b
  (if r.target = 0xFF then r.count == 0 && r.column ≤ 1 else panes.contains r.target && 1 ≤ r.count && r.column + r.count ≤ 512)
    && r.lo ≤ r.hi

/-- A source entry is in range (R235, R236). -/
def sourceOk (b : List Byte) : Bool :=
  uAt b 0 2 != 0xFFFF && uAt b 2 1 ≤ 3 && uAt b 3 1 ≤ 15 && allZero (bytesAt b 4 4)

/-- The checks of R236 on a section. -/
def checkValid (s : List Byte) (panes : List Nat) : Bool :=
  let np := uAt s 3 1
  let nr := uAt s 4 1
  let ns := uAt s 5 1
  let es := checkEntries s
  uAt s 0 2 == 0x4B43 && uAt s 2 1 == 1 && np ≤ 128 && nr ≤ 32 && ns ≤ 7 && 30 ≤ uAt s 6 1 && uAt s 6 1 ≤ 100
    && allZero (bytesAt s 7 9) && s.length == 16 + 8 * (np + nr + ns)
    && (es.take np).all (fun b => pathOk b panes)
    && (np == 0 || (np == panes.length && !hasDup ((es.take np).map (fun b => uAt b 0 1))))
    && ((es.drop np).take nr).all (fun b => rangeOk b panes) && (es.drop (np + nr)).all sourceOk

/-- The configuration in force for a slot. -/
def Dev.ckOf (d : Dev) (i : Nat) : CheckCfg :=
  match (d.slot i).model with
  | some m => checkCfg m.check (onesOf 128 m.panes)
  | none => { k10 := 50, paths := [], ranges := [], sources := [] }

/-- The path entry of a pane of the map. -/
def CheckCfg.path (c : CheckCfg) (p : Nat) : PathCfg :=
  match c.paths.find? (fun e => e.pane == p) with
  | some e => e
  | none => { pane := p, products := 1, hypBase := 0xFF, stride := 0, tol := 4, comp := false, tauAdd := 0 }

/-! ### Tolerance and test (R230 to R233) -/

/-- 2 to an integer power. -/
def pow2R (i : Int) : Rat := if 0 ≤ i then ((2 ^ i.toNat : Nat) : Rat) else 1 / ((2 ^ (-i).toNat : Nat) : Rat)

/-- The least natural number at or above `f + sqrt q`, searched upward from `n`. -/
def ceilSqrt (f q : Rat) : Nat → Nat → Nat
  | 0, n => n
  | k + 1, n => if (n : Rat) ≥ f && ((n : Rat) - f) * ((n : Rat) - f) ≥ q then n else ceilSqrt f q k (n + 1)

/-- The tolerance of R232 for a pane's PANE_CFG and PANE_CKCFG. -/
def tauValue (cfg ck : Word) (k10 : Nat) (p : PathCfg) : Nat :=
  let s : Int := (wfld cfg 0 4 : Nat)
  let a : Rat := ((activeCols cfg : Nat) : Rat)
  let ks : Int := (wfld ck 0 4 : Nat)
  let c4 : Rat := if p.comp then 1 else 0
  let sig : Rat := (3 / 10 * pow2R (15 - s)) * (3 / 10 * pow2R (15 - s)) + 1 / 12
  let q := ((k10 : Rat) / 10) * ((k10 : Rat) / 10) * (sig * (a + pow2R (2 * ks) + c4 * pow2R (2 * (ks - 7))))
  let w := (if p.comp then 510 else 65280) * pow2R (ks - s)
  let f := 13 / 10 * pow2R ks + c4 * pow2R (ks - 8) + w + (if wbit cfg 6 then 255 * pow2R (ks - s) else 0)
  let base := f.floor.toNat + Nat.sqrt q.floor.toNat
  min (ceilSqrt f q 4 (base - 1) + p.tauAdd) 65535

/-- The tolerance in force for a physical pane, once computed. -/
def Dev.tauOf (d : Dev) (p : Nat) : Option Nat := (d.chk.tau.find? (fun e => e.1 == p)).map (fun e => e.2.2)

/-- The hinge computes the tolerance of a physical pane for a path of a slot (R233). -/
def Dev.setTau (d : Dev) (i path p : Nat) : Dev :=
  let c := d.ckOf i
  let t := tauValue (d.reg (aPane p 0x00)) (d.reg (aPane p 0x08)) c.k10 (c.path path)
  { d with chk.tau := d.chk.tau.filter (fun e => e.1 != p) ++ [(p, (i, t))] }

/-- The corrected residual of a collected product, in LSB (R230). -/
def residual (act ks : Nat) (comp : Bool) (codes : List Int) : Rat :=
  let y := fun j => ((nthD codes j 0 : Int) : Rat) / 4
  ((sumI (codes.take act) : Int) : Rat) / 4 - pow2R ks * y 512 - (if comp then pow2R ((ks : Int) - 7) * y 518 else 0)

/-- A range violation of a product on a path (R237). -/
def rangeHit (c : CheckCfg) (path : Nat) (codes : List Int) : Bool :=
  c.ranges.any (fun r => r.target == path && (List.range r.count).any (fun k =>
    let v := nthD codes (r.column + k) 0
    v != -32768 && (v < r.lo || v > r.hi)))

/-! ### The shadow walk (R219 to R223) -/

/-- The pane table of a storm program: pane and tensor address (R211). -/
def stormTensors (prog : List Byte) : List (Nat × Nat) :=
  (List.range (uAt prog 3 1)).map (fun k => (uAt prog (16 + 8 * k) 1, uAt prog (16 + 8 * k + 4) 4))

/-- The tensor of a pane in a slot's storm program. -/
def Dev.tensorOf (d : Dev) (i p : Nat) : Option Nat :=
  match (d.slot i).model with
  | some m => ((stormTensors m.stormProg).find? (fun e => e.1 == p)).map (fun e => e.2)
  | none => none

/-- Shadow items of a slot, by pane path and then by product number (R219, R235; the order is DEDUCED). -/
def Dev.items (d : Dev) (i : Nat) : List (Nat × Nat) :=
  match (d.slot i).model with
  | some m => ((onesOf 128 m.panes).map (fun p =>
      if (d.tensorOf i p).isSome then (List.range ((d.ckOf i).path p).products).map (fun n => (p, n)) else [])).flatten
  | none => []

/-- W of R219 for N items on Q lanes. -/
def dwellOf (n q : Nat) : Nat := min 32 (4096 / ((n + q - 1) / q))

/-- Q and W of an instance with N items and C channels; none with no item (R219, R221). -/
def walkOf (n c : Nat) : Option (Nat × Nat) :=
  if n = 0 then none
  else
    match (List.range 8).find? (fun k => dwellOf n (k + 1) ≥ c) with
    | some k => some (k + 1, dwellOf n (k + 1))
    | none => some (8, dwellOf n 8)

/-- Q and W of a slot. -/
def Dev.walk (d : Dev) (i : Nat) : Option (Nat × Nat) :=
  walkOf (d.items i).length (max 1 (onesOf 16 (d.slot i).mask).length)

/-- The lanes of an instance as it starts. -/
def Dev.startLanes (d : Dev) (i : Nat) : Dev :=
  match d.walk i with
  | none => d
  | some (q, _) =>
    { d with storm.lanes := d.storm.lanes.filter (fun l => l.slot != i) ++ (List.range q).map (fun k =>
        { slot := i, lane := k, item := k % (d.items i).length, taken := 0, reserved := false, dwell := 0, again := none }) }

/-! ### Placed mode (R22, R23, R379) -/

/-- The slot's model carries a placed, or a streamed, mapping (R156). -/
def Slot.hasPlaced (s : Slot) : Bool := match s.model with | some m => bitOf m.flags 0 | none => false
def Slot.hasStreamed (s : Slot) : Bool := match s.model with | some m => bitOf m.flags 1 | none => false

/-- REDUCED_OK and SELFTEST_PREEMPT of the effective policy (R563). -/
def Slot.reducedOk (s : Slot) : Bool := bitOf s.policy 0
def Slot.preempt (s : Slot) : Bool := bitOf s.policy 1

/-- Every pane of the slot's ticket map is TRUSTED. -/
def Dev.allTrusted (d : Dev) (i : Nat) : Bool :=
  match (d.slot i).model with
  | some m => (onesOf 128 m.panes).all (fun p => (d.pane p).st == .trusted)
  | none => false

/-- The slot enters placed mode: its lanes start, and a device in AJAR is OPEN (R219, R379). -/
def Dev.enterPlaced (d : Dev) (i : Nat) : Dev :=
  let d := (d.updSlot i (fun s => { s with mode := 2 })).startLanes i
  if d.sys.main = .ajar then d.setMain .opened else d

/-- Started slots with a placed mapping whose panes are now all TRUSTED enter placed mode (R23, R26). -/
def Dev.placeModels (d : Dev) : Dev :=
  d.startedSlots.foldl (fun d i =>
    if (d.slot i).mode != 2 && (d.slot i).hasPlaced && d.allTrusted i then d.enterPlaced i else d) d

end Sys2Proof.Machine
end

