-- ==== Sys2Proof/Machine/Jamb.lean ====
section
/-! DEFINITION. The jamb (16_jamb_and_lintel.md R432 to R441): pages, page buffer, commits through the journal, the
fault-log ring and the program counts, with the meanings of the jamb commands. -/
namespace Sys2Proof.Machine

/-- What a jamb byte holds that nothing has written: the factory pages are the factory's, the program counts are 0 with
tag 0 (R70), every other byte is 0xFF (R432, R433). -/
def jambDefault (a : Nat) : Byte :=
  if 64 ≤ a ∧ a < 1024 then Config.factoryByte a
  else if 15360 ≤ a ∧ a < 15872 then 0
  else 0xFF

/-- The 64 bytes of a page of the array. -/
def JambState.page (j : JambState) (p : Nat) : List Byte := Tab.getList jambDefault j.mem (p * 64) 64

/-- Store a whole page, with right check bits. -/
def JambState.setPage (j : JambState) (p : Nat) (bs : List Byte) : JambState :=
  { j with mem := Tab.setList jambDefault j.mem (p * 64) bs, flips := Tab.dropRange (p * 16) 16 j.flips }

/-- Flipped bits of group `g` of page `p` (R433). -/
def JambState.flipsAt (j : JambState) (p g : Nat) : Nat := Tab.get (fun _ => 0) j.flips (p * 16 + g)

/-- The mask of uncorrectable groups of a page among groups `lo` to `hi` (R433). -/
def JambState.ueMask (j : JambState) (p lo hi : Nat) : Nat :=
  maskOfList ((List.range 16).filter (fun g => lo ≤ g && g ≤ hi && j.flipsAt p g ≥ 2))

/-- The corrected groups of a page among `lo` to `hi`. -/
def JambState.corrected (j : JambState) (p lo hi : Nat) : Nat :=
  ((List.range 16).filter (fun g => lo ≤ g && g ≤ hi && j.flipsAt p g == 1)).length

/-- BUSY of JAMB_STATUS (R435). -/
def JambState.busy (j : JambState) : Bool := j.commit.isSome

/-- The host may write the page (R432, R439). -/
def JambState.hostPage (j : JambState) (p : Nat) : Bool := (16 ≤ p && p ≤ 239) || (p == 255 && !j.lockSeen)

/-- A read of groups `lo` to `hi` of a page counts corrections and records an uncorrectable group (R433). -/
def Dev.jambEcc (d : Dev) (p lo hi : Nat) : Dev :=
  let d := d.addFld 0x30008 0 16 (d.jamb.corrected p lo hi)
  if d.jamb.ueMask p lo hi = 0 then d else (d.setFld 0x30008 16 8 p).setFld 0x30008 24 1 1

/-- The page as a read sees it: the committing page comes from the buffer (R435). -/
def JambState.readPage (j : JambState) (p : Nat) : List Byte :=
  match j.commit with
  | some c => (match c.owner with
    | .lock _ => j.page p
    | _ => if c.page = p then c.data else j.page p)
  | none => j.page p

/-- The committing page is served from the buffer, so its groups are not read from the array. -/
def JambState.fromBuffer (j : JambState) (p : Nat) : Bool :=
  match j.commit with
  | some c => (match c.owner with | .lock _ => false | _ => c.page == p)
  | none => false

/-- Read groups `lo` to `hi` of one page: its error mask, and the counters of R433. -/
def Dev.jambReadGroups (d : Dev) (p lo hi : Nat) : Nat × Dev :=
  if d.jamb.fromBuffer p then (0, d) else (d.jamb.ueMask p lo hi, d.jambEcc p lo hi)

/-- Read `k` whole pages from `p`: the error masks of the pages, in order. -/
def Dev.jambReadPages : Dev → Nat → Nat → List Nat × Dev
  | d, _, 0 => ([], d)
  | d, p, k + 1 =>
    let (m, d) := d.jambReadGroups p 0 15
    let (ms, d) := Dev.jambReadPages d (p + 1) k
    (m :: ms, d)

/-- JAMB_READ's own effect (R433, R578). -/
def cmdJambRead (page offset : Byte) (count : Half) (c : Cmd) (d : Dev) : Dev :=
  let p := page.toNat
  let o := offset.toNat
  let n := count.toNat
  if o + n ≤ 64 then
    let data := bytesAt (d.jamb.readPage p) o n
    if n = 0 then d.reply c stOk []
    else
      let (m, d) := d.jambReadGroups p (o / 4) ((o + n - 1) / 4)
      if m = 0 then d.reply c stOk data else d.reply c stNvmUncorrectable (data ++ leBytes 2 m)
  else if o = 0 ∧ n % 64 = 0 ∧ 1 ≤ n / 64 ∧ n / 64 ≤ 62 ∧ p + n / 64 ≤ 256 then
    let data := ((List.range (n / 64)).map (fun k => d.jamb.readPage (p + k))).flatten
    let (ms, d) := d.jambReadPages p (n / 64)
    if ms.all (· == 0) then d.reply c stOk data
    else d.reply c stNvmUncorrectable (data ++ (ms.map (leBytes 2)).flatten)
  else d.refuse c stBadParam

/-- Lay bytes over a page from an offset. -/
def overlay (pg : List Byte) (o : Nat) (bs : List Byte) : List Byte := pg.take o ++ bs ++ pg.drop (o + bs.length)

/-- JAMB_WRITE's own effect (R432, R434, R578). -/
def cmdJambWrite (page offset : Byte) (data : List Byte) (c : Cmd) (d : Dev) : Dev :=
  let p := page.toNat
  let o := offset.toNat
  if data.length < 1 ∨ data.length > 64 then d.refuse c stBadLength
  else if o + data.length > 64 then d.refuse c stBadParam
  else if !d.jamb.hostPage p then d.refuse c stNvmLocked
  else if d.jamb.busy then d.refuse c stNvmBusy
  else
    match d.jamb.buf with
    | some (q, bs) =>
      if q = p then { d with jamb.buf := some (p, overlay bs o data) }.ok c else d.refuse c stNvmBusy
    | none =>
      if data.length = 64 then { d with jamb.buf := some (p, data) }.ok c
      else
        let (m, d) := d.jambReadGroups p 0 15
        if m = 0 then { d with jamb.buf := some (p, overlay (d.jamb.page p) o data) }.ok c
        else d.refuse c stNvmUncorrectable

/-- JAMB_COMMIT without DISCARD (R435, R436). -/
def cmdJambCommit (page : Byte) (c : Cmd) (d : Dev) : Dev :=
  let p := page.toNat
  if !d.jamb.hostPage p then d.refuse c stNvmLocked
  else if d.jamb.busy || !d.jamb.devQueue.isEmpty then d.refuse c stNvmBusy
  else
    match d.jamb.buf with
    | some (q, bs) =>
      if q = p then
        { d with
          jamb.buf := none
          jamb.commit := some { page := p, data := bs, owner := .host (some c), saved := none, savedLost := false } }
      else d.refuse c stBadParam
    | none => d.refuse c stBadParam

/-- JAMB_COMMIT with DISCARD (R434, R578). -/
def cmdJambDiscard (page : Byte) (c : Cmd) (d : Dev) : Dev :=
  let p := page.toNat
  if !d.jamb.hostPage p then d.refuse c stNvmLocked
  else if d.jamb.busy then d.refuse c stNvmBusy
  else
    match d.jamb.buf with
    | some (q, _) =>
      if q = p then { d with jamb.buf := none, jamb.last := 3 }.ok c else d.refuse c stBadParam
    | none => d.refuse c stBadParam

/-- JAMB_LOCK (R439). -/
def cmdJambLock (page : Byte) (c : Cmd) (d : Dev) : Dev :=
  if page.toNat ≠ 255 then d.refuse c stBadParam
  else if d.jamb.lockSeen then d.refuse c stNvmLocked
  else if d.jamb.busy || (match d.jamb.buf with | some (q, _) => q == 255 | none => false) then d.refuse c stNvmBusy
  else { d with
    jamb.commit := some { page := 255, data := [], owner := .lock (some c), saved := none, savedLost := false } }

/-! ### Program counts (R70, R71) -/

/-- Page and byte offset of a pane's count entry (R70). -/
def countPage (pane : Nat) : Nat := 240 + pane / 16

/-- PROG_COUNT and IMAGE_TAG of a pane; none while the entry's group is uncorrectable (R70, R561). -/
def Dev.progEntry (d : Dev) (pane : Nat) : Option (Nat × Nat) :=
  let pg := d.jamb.page (countPage pane)
  if d.jamb.flipsAt (countPage pane) (pane % 16) ≥ 2 then none
  else some (uAt pg (pane % 16 * 4) 2, uAt pg (pane % 16 * 4 + 2) 2)

/-! ### The fault-log ring (R440, R441) -/

/-- Page and byte offset of a ring slot (R440). -/
def ringPage (s : Nat) : Nat := 248 + s / 4

/-- A ring slot's SEQ; none when never written or unreadable. -/
def JambState.ringSeq (j : JambState) (s : Nat) : Option Nat :=
  let q := uAt (j.page (ringPage s)) (s % 4 * 16) 2
  if q = 0xFFFF ∨ j.ueMask (ringPage s) (s % 4 * 4) (s % 4 * 4 + 3) ≠ 0 then none else some q

/-- `a` is later than `b` in modulo-65,536 order (R441). -/
def seqLater (a b : Nat) : Bool := (a + 65536 - b) % 65536 < 32768 && a != b

/-- The newest slot of the ring (R441). -/
def JambState.ringNewest (j : JambState) : Option (Nat × Nat) :=
  (List.range 24).foldl (fun best s =>
    match j.ringSeq s, best with
    | some q, some (bs, bq) => if seqLater q bq then some (s, q) else some (bs, bq)
    | some q, none => some (s, q)
    | none, b => b) none

/-- Where the next entry goes: slot and SEQ; 0xFFFF is skipped, since it marks a slot never written (R440, R441). -/
def JambState.ringNext (j : JambState) : Nat × Nat :=
  match (match j.ring with | some r => some r | none => j.ringNewest) with
  | some (s, q) => ((s + 1) % 24, if q + 1 ≥ 0xFFFF then 0 else q + 1)
  | none => (0, 0)

/-- Fault-log entries waiting or being committed (QUEUED of JAMB_FLOG). -/
def JambState.logWaiting (j : JambState) : Nat :=
  (j.devQueue.filter (fun x => match x with | .faultLog .. => true | _ => false)).length
    + (match j.commit with | some { owner := .dev (.faultLog ..), .. } => 1 | _ => 0)

/-- A fault-log entry joins the queue of 8, or is dropped and counted when the queue is full or it would be the
seventeenth commit of the ring in 3,600 s (R441, R452). -/
def Dev.faultLog (d : Dev) (kind unit info detail : Nat) : Dev :=
  let recent := d.jamb.ringTimes.filter (fun t => d.lin.rtc < t + 117964800)
  if d.jamb.logWaiting ≥ 8 || recent.length + d.jamb.logWaiting ≥ 16 then d.satFld 0x3000C 16 16
  else { d with jamb.devQueue := d.jamb.devQueue ++ [.faultLog kind unit info detail d.lin.rtc] }

/-- A device commit waits for the controller (R436). -/
def Dev.queueJob (d : Dev) (j : DevJob) : Dev := { d with jamb.devQueue := d.jamb.devQueue ++ [j] }

/-- The page a device job writes. -/
def JambState.jobPage (j : JambState) : DevJob → Nat
  | .progCount p => countPage p
  | .progTag p _ => countPage p
  | .faultLog .. => ringPage j.ringNext.1

/-- The page's bytes after a device job (R71, R440). -/
def JambState.jobData (j : JambState) (job : DevJob) : List Byte :=
  let pg := j.page (j.jobPage job)
  match job with
  | .progCount p => overlay pg (p % 16 * 4) (leBytes 2 (satInc 16 (uAt pg (p % 16 * 4) 2)) ++ [0, 0])
  | .progTag p tag => overlay pg (p % 16 * 4 + 2) (leBytes 2 tag)
  | .faultLog kind unit info detail rtc =>
    let (s, q) := j.ringNext
    overlay pg (s % 4 * 16)
      (leBytes 2 q ++ leBytes 6 rtc ++ leBytes 1 kind ++ leBytes 1 unit ++ leBytes 2 info ++ leBytes 4 detail)

/-- The oldest waiting device commit starts while the controller is idle; an OPEN buffer is saved (R436). Its page is read with
its corrections counted (R433). -/
def Dev.devCommitStart (d : Dev) : Dev :=
  if d.jamb.busy then d
  else
    match d.jamb.devQueue with
    | [] => d
    | job :: rest =>
      let c : JCommit := { page := d.jamb.jobPage job, data := d.jamb.jobData job, owner := .dev job, saved := d.jamb.buf,
                           savedLost := false }
      { (d.jambEcc c.page 0 15) with jamb.devQueue := rest, jamb.buf := none, jamb.commit := some c }

/-- The bytes and flipped groups that a failed program leaves in a page: free values (R435). -/
def Dev.spoilPage (d : Dev) (p : Nat) : Dev :=
  let (n, d) := d.draw
  let (m, d) := d.draw
  let bytes := (List.range 64).map (Config.freeByte n)
  let fl := (List.range 16).map (fun g => (Config.freeByte m g).toNat % 3)
  { d with jamb := { (d.jamb.setPage p bytes) with flips := Tab.setList (fun _ => 0) d.jamb.flips (p * 16) fl } }

/-- A device commit whose page cannot be loaded, since a group of it is uncorrectable, is refused (R72; DEDUCED, as a
partial write is under R434). -/
def JambState.unloadable (j : JambState) (c : JCommit) : Bool :=
  match c.owner with
  | .dev _ => j.ueMask c.page 0 15 != 0
  | _ => false

/-- The commit succeeds: its page could be loaded and its read-back matched; a lock has no read-back (R435, R439). -/
def JambState.commitOk (j : JambState) (c : JCommit) (readBackOk : Bool) : Bool :=
  match c.owner with
  | .lock _ => true
  | _ => readBackOk && !j.unloadable c

/-- Steps 1 and 3 of R435: the buffer goes into page 0 as journal data and the page is programmed, or the lock bit set, or
a failed program leaves what it leaves. -/
def Dev.commitProgram (d : Dev) (c : JCommit) (ok : Bool) : Dev :=
  match c.owner with
  | .lock _ => { d with jamb.lock := true, jamb.lockSeen := true }
  | _ =>
    if ok then { d with jamb := (d.jamb.setPage 0 c.data).setPage c.page c.data }
    else if d.jamb.unloadable c then d
    else { d with jamb := d.jamb.setPage 0 c.data }.spoilPage c.page

/-- A commit ends (R435, R436): step 3, then step 4 clears the marker and counts the commit; the saved host buffer is
restored; a failure is logged (KIND 8). The owner's own consequences are its block's. -/
def Dev.commitEnd (d : Dev) (c : JCommit) (readBackOk : Bool) : Dev :=
  let ok := d.jamb.commitOk c readBackOk
  let ran := !d.jamb.unloadable c
  let nxt := d.jamb.ringNext
  let d := d.commitProgram c ok
  let d := { d with
    jamb.commit := none
    jamb.marker := .clear
    jamb.commits := if ran then d.jamb.commits + 1 else d.jamb.commits
    jamb.jcount := if ran then satInc 32 d.jamb.jcount else d.jamb.jcount
    jamb.last := if c.savedLost then 4 else if ok then 1 else 2
    jamb.buf := match c.saved with | some b => some b | none => d.jamb.buf }
  let d := match c.owner with
    | .dev (.faultLog ..) => { d with
        jamb.ring := some nxt
        jamb.ringTimes := d.jamb.ringTimes.filter (fun t => d.lin.rtc < t + 117964800) ++ [d.lin.rtc] }
    | _ => d
  if ok then d else d.faultLog 8 c.page c.page 0

/-- The reply of a host commit or lock (R435, R439). -/
def Dev.commitReply (d : Dev) (c : JCommit) (ok : Bool) : Dev :=
  match c.owner with
  | .host (some cmd) => d.refuse cmd (if ok then stOk else stNvmUncorrectable)
  | .lock (some cmd) => d.ok cmd
  | _ => d

/-! ### Meanings -/

/-- JAMB_READ (R433, R447, R578). -/
def execJambRead (h : CmdHdr) (page offset : Byte) (count : Half) (s : State) : Host.Outcome State Fault Refusal :=
  onDev s (Dev.hostCmd 0x70 ([page, offset] ++ leBytes 2 count.toNat) h (cmdJambRead page offset count))

/-- JAMB_WRITE (R434, R578). -/
def execJambWrite (h : CmdHdr) (page offset : Byte) (data : List Byte) (s : State) : Host.Outcome State Fault Refusal :=
  onDev s (Dev.hostCmd 0x71 ([page, offset] ++ data) h (cmdJambWrite page offset data))

/-- JAMB_COMMIT (R435). -/
def execJambCommit (h : CmdHdr) (page : Byte) (s : State) : Host.Outcome State Fault Refusal :=
  onDev s (Dev.hostCmd 0x72 [page, 0] h (cmdJambCommit page))

/-- JAMB_COMMIT with DISCARD set (R434). -/
def execJambCommitDiscard (h : CmdHdr) (page : Byte) (s : State) : Host.Outcome State Fault Refusal :=
  onDev s (Dev.hostCmd 0x72 [page, 1] h (cmdJambDiscard page))

/-- JAMB_LOCK (R439). -/
def execJambLock (h : CmdHdr) (page : Byte) (s : State) : Host.Outcome State Fault Refusal :=
  onDev s (Dev.hostCmd 0x73 [page] h (cmdJambLock page))

/-- DEVICE_COMMIT_START (R436, R448). -/
def execDeviceCommitStart (s : State) : Host.Outcome State Fault Refusal := onDev s Dev.devCommitStart

end Sys2Proof.Machine
end

