-- ==== Sys2Proof/Machine/Net.lean ====
section
/-! DEFINITION. The mullion network (05_casements_and_mullion.md R136 to R148): message types, sending, replies, fences
and the ghost responder. -/
namespace Sys2Proof.Machine

/-! Message types of R139. -/
def tyData : Nat := 0
def tyReqUser : Nat := 1
def tyRsp : Nat := 2
def tyRegRd : Nat := 3
def tyRegWr : Nat := 4
def tySillRd : Nat := 5
def tySillWr : Nat := 6
def tySillLookup : Nat := 7
def tySillLease : Nat := 8
def tyPaneFwd : Nat := 9
def tyCredit : Nat := 10
def tyControl : Nat := 11

/-- The virtual channel of a type: RSP on RSP, CREDIT and CONTROL on CTL, the rest on REQ (R139). -/
def vcOf (typ : Nat) : Nat := if typ = tyRsp then 1 else if typ = tyCredit ∨ typ = tyControl then 2 else 0

/-- The 48-bit sideband of a message (R139), in 8 bytes as a stack frame carries it (R400). -/
def sideband (m : Msg) : List Byte :=
  leBytes 8 (m.dst % 64 + m.src % 64 * 2 ^ 6 + vcOf m.typ * 2 ^ 12 + m.len % 16 * 2 ^ 14 + m.typ % 16 * 2 ^ 18
    + m.tag % 256 * 2 ^ 22 + m.ticket % 128 * 2 ^ 30 + m.status.toNat * 2 ^ 37 + b2n m.notify * 2 ^ 45)

/-- The type expects a reply (R148). -/
def wantsReply (typ : Nat) : Bool := typ == tyReqUser || (tyRegRd ≤ typ && typ ≤ tyPaneFwd)

/-- Casement `c` is fenced (MUL_FENCE0, R146). -/
def Dev.fenced (d : Dev) (c : Nat) : Bool := c < 32 && d.bitAt 0xA0000 c

/-- Casement `c` can serve: its quadrant is powered and it is not fenced. -/
def Dev.casUp (d : Dev) (c : Nat) : Bool := d.isOpen (quadOf c) && !d.fenced c

/-- Domain behind an edge router (R136). -/
def edgeDomain (r : Nat) : Option Nat :=
  if r = 33 then some 3 else if r = 34 ∨ r = 35 then some 4 else if r = 36 then some 2 else if r = 37 then some 5
  else none

/-- The partner at router `r` is fenced, shuttered or absent, so that the ghost answers for it (R148): for a shutter,
once its drain has ended. -/
def Dev.ghosted (d : Dev) (r : Nat) : Bool :=
  if r < 32 then d.fenced r || (match d.dom (quadOf r) with | .opened | .draining .. => false | _ => true)
  else if r = 32 ∨ r = 38 then false
  else
    match edgeDomain r with
    | some n => (match d.dom n with | .opened | .draining .. => false | _ => true)
    | none => true

/-- The domain behind a router. -/
def routerDomain (r : Nat) : Option Nat := if r < 32 then some (quadOf r) else edgeDomain r

/-- Frame time at which a message entered the network. -/
def Msg.sentAt (m : Msg) : Nat := match m.trail.getLast? with | some h => h.since | none => 0

/-- The head waits in the last router: its domain drains, and it entered the network after the close had started (R328).
Replies to what was accepted before are delivered (DEDUCED, log entry 216). -/
def Dev.holdsHead (d : Dev) (m : Msg) : Bool :=
  match routerDomain m.dst with
  | none => false
  | some n =>
    (match d.dom n with
     | .draining .. => m.typ != tyRsp && m.sentAt ≥ Tab.get (fun _ => 0) d.pwr.drainAt n
     | _ => false)

/-- A message enters the network. A fenced casement's NI injects nothing (R146). -/
def Dev.netSend (d : Dev) (m : Msg) : Dev :=
  if d.fenced m.src then d else { d with mul.net := d.mul.net ++ [m] }

/-- The head has left the last router for the partner (R137). -/
def Msg.atPartner (m : Msg) : Bool := match m.trail with | h :: _ => h.port == 5 | [] => false

/-- The oldest message from `src` to `dst` on the channel of `typ`, if it is of that type and has crossed the mesh
(R138, R140). -/
def Dev.netHead (d : Dev) (src dst typ : Nat) : Option Msg :=
  match d.mul.net.find? (fun m => m.src == src && m.dst == dst && vcOf m.typ == vcOf typ) with
  | some m => if m.typ = typ && m.atPartner then some m else none
  | none => none

/-- The message has arrived: it leaves the network. -/
def Dev.netTake (d : Dev) (m : Msg) : Dev := { d with mul.net := d.mul.net.erase m }

/-- The reply to a request (R139): its tag, a status and a payload, one flit at least. The reply to a DATA is marked, since
no RSP slot awaits it (R143). -/
def rspTo (m : Msg) (status : Byte) (payload : List Byte) : Msg :=
  { src := m.dst, dst := m.src, typ := tyRsp, len := (payload.length + 31) / 32 - 1, tag := m.tag, ticket := m.ticket,
    status := status, notify := m.typ == tyData, payload := if payload.isEmpty then zeros 32 else payload }

/-- Send the reply to a request. -/
def Dev.respond (d : Dev) (m : Msg) (status : Byte) (payload : List Byte) : Dev := d.netSend (rspTo m status payload)

/-- A ghost's answer enters the network though its own partner is fenced. -/
def Dev.ghostSend (d : Dev) (m : Msg) : Dev := { d with mul.net := d.mul.net ++ [m] }

/-- The ghost counts a message it handles: CSM_GHOST, or the edge's count (R148). -/
def Dev.countGhost (d : Dev) (r : Nat) : Dev :=
  if r < 32 then d.satFld (aCsm r 0x038) 0 16
  else { d with mul.edgeGhost := Tab.set (fun _ => 0) d.mul.edgeGhost (r - 32)
                  (satInc 32 (Tab.get (fun _ => 0) d.mul.edgeGhost (r - 32))) }

/-- The ghost at a gone partner's router handles an arriving message (R148). -/
def Dev.ghost (d : Dev) (m : Msg) : Dev :=
  let d := d.countGhost m.dst
  if wantsReply m.typ || (m.typ == tyData && m.notify) then d.ghostSend (rspTo m stPartnerGone [])
  else if m.typ = tyControl ∧ m.dst ≥ 32 then d.setFld 0xA0004 (m.dst - 32) 1 1
  else d

/-- A message arrives: the ghost takes it at a gone partner, else `f` does. -/
def Dev.arrive (d : Dev) (src dst typ : Nat) (f : Msg → Dev → Dev) : Dev :=
  match d.netHead src dst typ with
  | none => d
  | some m =>
    let d := d.netTake m
    if d.ghosted dst then d.ghost m else f m d

/-! ### Inbox credits (R141) -/

/-- Credits that a source holds for a receiver. -/
def Dev.credit (d : Dev) (s r : Nat) : Nat := Tab.get (fun _ => 0) d.mul.credits (64 * s + r)
def Dev.setCredit (d : Dev) (s r n : Nat) : Dev :=
  { d with mul.credits := Tab.set (fun _ => 0) d.mul.credits (64 * s + r) n }

/-- Credits that a receiver has granted to a source and not withdrawn. -/
def Dev.granted (d : Dev) (r s : Nat) : Nat := Tab.get (fun _ => 0) d.mul.granted (64 * r + s)
def Dev.setGranted (d : Dev) (r s n : Nat) : Dev :=
  { d with mul.granted := Tab.set (fun _ => 0) d.mul.granted (64 * r + s) n }

/-- A CREDIT message carrying a count. -/
def creditMsg (src dst n : Nat) : Msg :=
  { src := src, dst := dst, typ := tyCredit, len := 0, tag := 0, ticket := 0, status := 0, notify := false, payload := leBytes 1 n }

/-- CSM_QUOTA of a receiver for a source. -/
def Dev.quota (d : Dev) (r s : Nat) : Nat := d.fldAt (aCsm r (0x020 + s / 8 * 4)) (s % 8 * 4) 4

/-- A raised quota grants the difference at once; a lowered one takes effect as credits return. -/
def Dev.grant (d : Dev) (r s : Nat) : Dev :=
  let q := d.quota r s
  let g := d.granted r s
  if q > g then (d.setGranted r s q).netSend (creditMsg r s (q - g)) else d

/-- A freed slot returns its credit to the source, unless the quota has been lowered below what is granted. -/
def Dev.returnCredit (d : Dev) (r s : Nat) : Dev :=
  if d.granted r s > d.quota r s then d.setGranted r s (d.granted r s - 1) else d.netSend (creditMsg r s 1)

/-- Messages held at the front and door edge routers leave as inbox credits allow, in order for each receiver; the first
window message of a ticket makes it RUNNING, and a partner's DATA leaves its port's receive buffer (R141, R164, R403, R408). -/
def Dev.pumpWindows (d : Dev) : Dev :=
  let step := fun (acc : Dev × List Nat) (m : Msg) =>
    let d := acc.1
    if acc.2.contains (64 * m.src + m.dst) || d.credit m.src m.dst = 0 then (d, (64 * m.src + m.dst) :: acc.2)
    else
      let d := { d.setCredit m.src m.dst (d.credit m.src m.dst - 1) with mul.dispatch := d.mul.dispatch.erase m }
      let d := if m.src = 36 then d.updTicket m.ticket (fun t => if t.st = .issued then { t with st := .running } else t) else d
      let d := d.netSend { m with via := none }
      (match m.via with | some p => d.creditBack p 0 | none => d, acc.2)
  (d.mul.dispatch.foldl step (d, [])).1

end Sys2Proof.Machine
end

