-- ==== Sys2Proof/Machine/PaneBase.lean ====
section
/-! DEFINITION. Pane state, binding and grafts (03_programming_and_audit.md R81 to R93), and the change to SUSPECT. -/
namespace Sys2Proof.Machine

/-- The PANE_STATE encoding; a shuttered pane has none of its own and PANE_STATUS reports 7. -/
def PaneSt.code : PaneSt → Nat
  | .unverified => 0 | .auditing => 1 | .trusted => 2 | .programming => 3 | .selftest => 4 | .suspect => 5
  | .retired => 6 | .shuttered => 7

/-- A pane changes state, with a trace record of KIND 10 (R81, R502). -/
def Dev.setPaneSt (d : Dev) (p : Nat) (st : PaneSt) : Dev :=
  let old := (d.pane p).st
  let d := d.updPane p (fun v => { v with st := st })
  let d := if old = st then d else d.trace (p / 4) 10 (leBytes 1 p ++ leBytes 1 old.code ++ leBytes 1 st.code)
  if st = .trusted then d.placeModels else d

/-- The spare grafted in slot `i` in place of pane `o` of its ticket map (R85). -/
def Dev.graftOf (d : Dev) (i o : Nat) : Option Nat :=
  (d.pctl.grafts.find? (fun g => g.slot == i && g.pane == o)).map (·.spare)

/-- The pane that serves in slot `i` where its ticket map names `o` (R85). -/
def Dev.servingIn (d : Dev) (i o : Nat) : Nat := (d.graftOf i o).getD o

/-- The slots that hold their ticket map bound: STARTED or STOPPING (R162, R163). -/
def Dev.mapOf (d : Dev) (i : Nat) : List Nat :=
  match (d.slot i).st, (d.slot i).model with
  | .started, some m => onesOf 128 m.panes
  | .stopping, some m => onesOf 128 m.panes
  | _, _ => []

/-- The slot of a running model that pane `p` serves now, and the pane of its ticket map whose place it has. -/
def Dev.originOf (d : Dev) (p : Nat) : Option (Nat × Nat) :=
  d.busySlots.findSome? (fun i => ((d.mapOf i).find? (fun o => d.servingIn i o == p)).map (fun o => (i, o)))

/-- Bound in the words of R81: named in the ticket map of a started model and not grafted out. -/
def Dev.named (d : Dev) (p : Nat) : Bool := d.busySlots.any (fun i => (d.mapOf i).contains p && (d.graftOf i p).isNone)

/-- Bound, or serving in a graft, or holding tickets of before a graft, of which its model has not released it yet (R81,
R85; log entry 19). -/
def Dev.bound (d : Dev) (p : Nat) : Bool :=
  d.named p || d.pctl.grafts.any (fun g => g.spare == p) || d.bitAt (aPane p 0x30) 8

/-- The pane can compute a product now: TRUSTED, its quadrant open and its casement not fenced (R24, R147). -/
def Dev.canCompute (d : Dev) (p : Nat) : Bool := (d.pane p).st == .trusted && d.casUp (p / 4)

/-- The storm engine can compute: STORM and SILL are open (R21). -/
def Dev.stormOpen (d : Dev) : Bool := d.isOpen 3 && d.isOpen 4

/-- A spare is eligible for a target (R84, R147). -/
def Dev.eligible (d : Dev) (t x : Nat) : Bool :=
  d.canCompute x && !d.bound x && x != t && d.reg (aPane x 0x28) == d.reg (aPane t 0x28)
    && d.reg (aPane x 0x08) == d.reg (aPane t 0x08)

/-- A ticket is still to be computed on panes. -/
def Ticket.live (t : Ticket) : Bool := (t.st == .issued || t.st == .running) && t.mode == 2 && !t.byStorm

/-- A ticket that the storm engine's streamed program runs: one issued in streamed mode, or a placed one that lost its panes
before it reached them (R22, R27). -/
def Ticket.streamed (t : Ticket) : Bool := t.mode == 1 || t.byStorm

/-- The pane that serves original pane `o` for a ticket (R85). -/
def Ticket.paneFor (t : Ticket) (o : Nat) : Nat :=
  match t.grafts.find? (fun g => g.1 == o) with
  | some g => g.2
  | none => o

/-- A live ticket is bound to pane `p` (R85). -/
def Dev.ticketsOn (d : Dev) (p : Nat) : Bool :=
  (List.range 128).any (fun t => (d.ticket t).live && (d.mapOf (d.ticket t).slot).any (fun o => (d.ticket t).paneFor o == p))

/-- PANE_GRAFT of a pane shows the last graft made in its place, or none (ACTIVE, SPARE). -/
def Dev.showGraft (d : Dev) (o : Nat) : Dev :=
  match d.pctl.grafts.reverse.find? (fun g => g.pane == o) with
  | some g => (d.setFld (aPane o 0x30) 0 7 g.spare).setFld (aPane o 0x30) 7 1 1
  | none => (d.setFld (aPane o 0x30) 7 1 0).setFld (aPane o 0x30) 0 7 0

/-- The graft of slot `i` in place of pane `o` ends. -/
def Dev.dropGraft (d : Dev) (i o : Nat) : Dev :=
  { d with pctl.grafts := d.pctl.grafts.filter (fun g => !(g.slot == i && g.pane == o)) }.showGraft o

/-- From now on `x` serves in slot `i` where the ticket map names `o`; `x = o` is a graft back (R85, R87). -/
def Dev.putGraft (d : Dev) (i o x : Nat) : Dev :=
  let gs := d.pctl.grafts.filter (fun g => !(g.slot == i && g.pane == o))
  let g : Graft := { slot := i, pane := o, spare := x }
  Dev.showGraft { d with pctl.grafts := if x = o then gs else gs ++ [g] } o

/-- A graft is accepted: from now on `x` serves where `t` did, under a tolerance of its own; `t` keeps its earlier tickets
while PENDING (R85, R233). -/
def Dev.doGraft (d : Dev) (t x : Nat) : Dev :=
  match d.originOf t with
  | none => d
  | some (i, o) =>
    let d := (d.setReg (aPane x 0x00) (d.reg (aPane t 0x00))).setTau i o x
    let d := if d.ticketsOn t then d.setFld (aPane t 0x30) 8 1 1 else d
    d.putGraft i o x

/-- The first eligible spare of the model's list takes the place of a pane of its map that cannot compute (R86, R92). The
same is done where the pane's quadrant closes, which R86 does not name (DESIGN CHOICE, log entry 192). -/
def Dev.autoGraft (d : Dev) (i o : Nat) : Dev :=
  let t := d.servingIn i o
  match (d.slot i).model with
  | none => d
  | some m =>
    if d.canCompute t then d
    else
      match m.spares.find? (fun x => x < 128 && d.eligible t x) with
      | some x => d.doGraft t x
      | none => d

/-- A pane that serves as a spare is no longer eligible: its graft ends on that tick, and the next eligible spare is
taken (R92). -/
def Dev.spareLost (d : Dev) (p : Nat) : Dev :=
  (d.pctl.grafts.filter (fun g => g.spare == p)).foldl (fun d g => (d.dropGraft g.slot g.pane).autoGraft g.slot g.pane) d

/-- The PENDING bit clears once no ticket is bound to the pane (R85). -/
def Dev.graftRelease (d : Dev) (p : Nat) : Dev := if d.ticketsOn p then d else d.setFld (aPane p 0x30) 8 1 0

/-- INFO of a KIND 1 fault-log entry: located column, its validity, and the reason (R440). -/
def suspectInfo (loc : Option Nat) (reason : Nat) : Nat :=
  (match loc with | some c => c % 1024 + 1024 | none => 0) + reason * 2048

/-- A pane becomes SUSPECT (R81): it is logged and an eligible spare is grafted (R86, R92). -/
def Dev.makeSuspect (d : Dev) (p reason : Nat) (loc : Option Nat) (step : Nat) : Dev :=
  let d := d.setPaneSt p .suspect
  let d := d.faultLog 1 p (suspectInfo loc reason) step
  let d := d.spareLost p
  match d.originOf p with
  | some (i, o) => d.autoGraft i o
  | none => d

end Sys2Proof.Machine
end

