-- ==== Sys2Proof/Machine/Site.lean ====
section
/-! DEFINITION. Frames of the site fabric that leave the device, and its routes (15_stacks_and_fabric.md R415 to R420). -/
namespace Sys2Proof.Machine

/-- The neighbours that a node's adjacency record names. -/
def adjOf (db : List Adj) (a : Nat) : List Nat :=
  match db.find? (fun r => r.addr == a) with
  | some r => [r.nbrA, r.nbrB].filter (· != 0)
  | none => []

/-- Hops from any node of `front` to `target`, over the adjacency records, by breadth (R420). -/
def hopsTo (db : List Adj) (own target : Nat) : Nat → List Nat → List Nat → Option Nat
  | 0, _, _ => none
  | n + 1, seen, front =>
    if front.contains target then some 0
    else if front.isEmpty then none
    else
      let seen := seen ++ front
      let next := nodupL ((front.map (adjOf db)).flatten.filter (fun a => !seen.contains a && a != own))
      (hopsTo db own target n seen next).map (· + 1)

/-- Two nodes that a host has given this address hold it (R419): this node is one of them, or the database shows both. -/
def Dev.inConflict (d : Dev) (a : Nat) : Bool :=
  d.fab.conflicts.contains a || ((d.fab.db.filter (fun r => r.addr == a && bitOf r.flags 0)).length ≥ 2)

/-- The forwarding table of 4,096 entries has no room for the node (R420). -/
def Dev.beyondTable (d : Dev) (a : Nat) : Bool :=
  match d.fab.routes.findIdx? (fun r => r.addr == a) with
  | some k => k ≥ 4096
  | none => false

/-- Hops to a node and the port that leads there: the path with the fewest hops; ties go to the neighbour with the lower
address (R420). -/
def Dev.sitePath (d : Dev) (dst : Nat) : Option (Nat × Nat) :=
  let cand := (List.range 2).filterMap (fun p =>
    match (d.site p).nbr with
    | some n => (hopsTo d.fab.routes d.fab.addr dst 4097 [] [n.addr]).map (fun h => (h + 1, n.addr, p))
    | none => none)
  if d.beyondTable dst then none
  else
    match cand with
    | [] => none
    | [(h, _, p)] => some (h, p)
    | (h1, a1, p1) :: (h2, a2, p2) :: _ => some (if h1 < h2 || (h1 == h2 && a1 ≤ a2) then (h1, p1) else (h2, p2))

/-- The port that leads to a node. -/
def Dev.siteRoute (d : Dev) (dst : Nat) : Option Nat := (d.sitePath dst).map (·.2)

/-- A frame type that is never acknowledged (R417): HELLO, ADJ, ACK and the offset frames. -/
def siteNoAck (typ : Nat) : Bool := typ == 1 || typ == 2 || typ == 3 || typ == 4 || typ == 5

/-- The MAC address of a unique ID (R416): 0x02, 0x4C, then the CRC-32 of the ID, most significant byte first. -/
def macOf (uid : Nat) : List Byte := [0x02, 0x4C] ++ beBytes 4 (crc32 (leBytes 12 uid))

/-- FLAGS of a site frame (R416). -/
def SiteFrame.flags (f : SiteFrame) : Nat := b2n f.auth + 2 * b2n f.ackReq + 4 * b2n f.alarm

/-- The first eight bytes of the Declys site header (R416). -/
def siteHead (f : SiteFrame) : List Byte := leBytes 1 1 ++ leBytes 1 f.typ ++ leBytes 1 f.flags ++ [0] ++ leBytes 2 f.dst ++ leBytes 2 f.src

/-- LENGTH and the two zero bytes after it (R416). -/
def siteLength (f : SiteFrame) : List Byte := leBytes 2 f.payload.length ++ [0, 0]

/-- Payload and tag (R401, R416): sealed with AES-128-GCM when AUTH is 1. -/
def siteBody (key : List Byte) (f : SiteFrame) : List Byte :=
  if f.auth then
    let (cipher, tag) := gcmSeal key (leBytes 2 f.src ++ [0, 0] ++ leBytes 8 f.counter)
      (siteHead f ++ siteLength f ++ leBytes 8 f.counter) f.payload
    cipher ++ tag
  else f.payload

/-- A site frame's bytes (R416): destination and source MAC, Ethertype, header, payload and tag, and the FCS of IEEE 802.3, whose
shortest frame of 64 bytes is filled with zeros (PRESUMED, log entry 221). -/
def siteBytes (key : List Byte) (etype : Nat) (dst src : List Byte) (f : SiteFrame) : List Byte :=
  let b := dst ++ src ++ beBytes 2 etype ++ siteHead f ++ leBytes 2 f.hops ++ leBytes 2 f.seq ++ siteLength f
    ++ (if f.auth then leBytes 8 f.counter else []) ++ siteBody key f
  let b := padTo (max 60 b.length) b
  b ++ leBytes 4 (crc32 b)

/-- The destination MAC of a frame on a port (R416): broadcast for HELLO, ADJ and broadcast frames, else the next hop's. -/
def Dev.nextMac (d : Dev) (p : Nat) (f : SiteFrame) : List Byte :=
  match (d.site p).nbr with
  | some n => if f.typ = 1 ∨ f.typ = 2 ∨ f.dst = 0xFFFF then List.replicate 6 0xFF else macOf n.uid
  | none => List.replicate 6 0xFF

/-- The bytes of a frame as this node sends it on a port (R416). -/
def Dev.siteWire (d : Dev) (p : Nat) (f : SiteFrame) : List Byte :=
  siteBytes (d.keyBytes 0x0A0 16) (d.fldAt 0xB0100 16 16) (d.nextMac p f) (macOf Config.uid.toNat) f

/-- A frame leaves on a site port: it takes the port's SEQ, and, with ACK_REQ, waits for its acknowledgement (R417). -/
def Dev.siteTransmit (d : Dev) (p : Nat) (f : SiteFrame) (cmd : Option Cmd) : Dev :=
  let q := d.site p
  let f := { f with seq := q.txSeq }
  d.setSite p { q with
    txSeq := (q.txSeq + 1) % 65536
    lastTx := some f
    wire := d.siteWire p f
    awaits := if f.ackReq && !siteNoAck f.typ then q.awaits ++ [{ frame := f, cmd := cmd }] else q.awaits }

/-- A frame of this node (R416): authenticated when FAB_CFG.AUTH is set and the device is not in ALARM. -/
def Dev.siteFrame (d : Dev) (typ dst : Nat) (ackReq : Bool) (payload : List Byte) : SiteFrame :=
  let auth := d.bitAt 0xB0100 2 && !d.inAlarm && typ != 1
  { typ := typ, auth := auth, ackReq := ackReq, alarm := d.inAlarm, dst := dst, src := d.fab.addr, hops := 4096, seq := 0,
    counter := if auth then d.fab.txCounter else 0, payload := payload }

/-- The fabric key is needed and absent, so the frame cannot be sealed (R458, R475). -/
def Dev.siteUnsealable (d : Dev) (f : SiteFrame) : Bool := f.auth && !d.hasFabricKey

/-- Send a frame of this node out of a port. -/
def Dev.siteOut (d : Dev) (p : Nat) (f : SiteFrame) (cmd : Option Cmd) : Dev :=
  if d.siteUnsealable f then d
  else
    let d := if f.auth then { d with fab.txCounter := d.fab.txCounter + 1 } else d
    d.siteTransmit p f cmd

/-- Send a frame to a node: on its route, or on both ports when broadcast. The answer says whether it could leave. -/
def Dev.siteSend (d : Dev) (typ dst : Nat) (ackReq : Bool) (payload : List Byte) (cmd : Option Cmd) : Bool × Dev :=
  if !d.isOpen 5 then (false, d)
  else if dst = 0xFFFF then
    (true, (List.range 2).foldl (fun d p =>
      if d.bitAt 0xB0100 p then d.siteOut p (d.siteFrame typ dst false payload) none else d) d)
  else if d.inConflict dst then (false, d)
  else
    match d.siteRoute dst with
    | none => (false, d)
    | some p => (true, d.siteOut p (d.siteFrame typ dst ackReq payload) cmd)

/-- FAB_GATEWAY (FAB_ADDR[31:16]). -/
def Dev.gateway (d : Dev) : Nat := d.fldAt 0xB0104 16 16

end Sys2Proof.Machine
end

