-- ==== Sys2Proof/Machine/CheckBase.lean ====
section
/-! DEFINITION. Flag events of panes (09_silent_errors.md R252) and the taking of shadow samples (08_storm.md R219 to
R223). -/
namespace Sys2Proof.Machine

/-! ### Flag events (R252, R261) -/

/-- The unresolved samples of a record. -/
def Dev.samplesOf (d : Dev) (i step : Nat) : List Sample := d.storm.samples.filter (fun s => s.slot == i && s.step == step)

/-- A ticket that may still fail a check: it is not DONE and gone, or has samples to be resolved. -/
def Dev.judging (d : Dev) (i step : Nat) : Bool :=
  !(d.samplesOf i step).isEmpty
    || (List.range 128).any (fun t => (d.ticket t).st != .free && (d.ticket t).slot == i && (d.ticket t).step == step)

/-- A check of a ticket fails on a pane (R252, R261). Every failure is counted; the first of the pane in its ticket is a flag
event: it is recorded in CHK_LAST and CHK_STEP, and the third within 1,023 steps of the instance makes the pane SUSPECT. -/
def Dev.flagEvent (d : Dev) (slot p step : Nat) (shadow : Bool) (loc : Option Nat) : Dev :=
  let d := d.satFld 0x710 (if shadow then 16 else 0) 16
  if d.chk.flagged.contains (slot, step, p) then d
  else
  let d := { d with chk.flagged := d.chk.flagged.filter (fun (e : Nat × Nat × Nat) => d.judging e.1 e.2.1) ++ [(slot, step, p)] }
  let d := d.setReg 0x708 (BitVec.ofNat 32 (p + b2n shadow * 128 + (loc.getD 0) % 1024 * 256 + b2n loc.isSome * 262144 + 2147483648))
  let d := d.setReg 0x70C (BitVec.ofNat 32 step)
  let old := match d.chk.flags.find? (fun (e : Nat × (Nat × List Nat)) => e.1 == p && e.2.1 == slot) with | some e => e.2.2 | none => []
  let l := (old ++ [step]).drop ((old.length + 1) - 3)
  let first := l.headD 0
  let hit := l.length == 3 && (step + 2 ^ 32 - first) % 2 ^ 32 ≤ 1023
  let l := if hit then [] else l
  let d := { d with chk.flags := d.chk.flags.filter (fun (e : Nat × (Nat × List Nat)) => e.1 != p) ++ (if l.isEmpty then [] else [(p, (slot, l))]) }
  if hit && ((d.pane p).st == .trusted || (d.pane p).st == .selftest) then d.makeSuspect p 1 loc step else d

/-! ### Samples (R219, R222, R223) -/

/-- Sampling runs: STORM open, SHADOW_EN set and no fault being cleared (R223). -/
def Dev.sampling (d : Dev) : Bool := d.isOpen 3 && d.bitAt 0x80004 0 && !d.storm.restarting

/-- Places of the staging store that are taken (R222): W of each dwell that a lane has reserved, and the samples that are
still held of earlier ones. -/
def Dev.reservedSamples (d : Dev) : Nat :=
  (d.storm.lanes.map (fun l => if l.reserved then (match d.walk l.slot with | some (_, w) => w | none => 0) else 0)).sum
    + (d.storm.samples.filter (fun s =>
        !d.storm.lanes.any (fun l => l.reserved && l.slot == s.slot && l.lane == s.lane && l.dwell == s.dwell))).length

/-- One lane takes a ticket into its dwell, or skips it (R219, R222, R223). -/
def Dev.laneTake (d : Dev) (t : Nat) (l : Lane) : Dev :=
  match d.walk l.slot with
  | none => d
  | some (q, w) =>
    let k := d.ticket t
    let items := d.items l.slot
    let put := fun (d : Dev) (l' : Lane) => { d with storm.lanes := d.storm.lanes.map (fun x => if x = l then l' else x) }
    if !d.sampling then { d with chk.lostSteps := d.chk.lostSteps ++ [(k.slot, k.step)] }
    else if !l.reserved && d.reservedSamples + w > 64 then
      { (d.setFld 0x80000 2 1 1) with chk.lostSteps := d.chk.lostSteps ++ [(k.slot, k.step)] }
    else
      let it := nthD items l.item (0, 0)
      let s : Sample := { slot := l.slot, lane := l.lane, ticket := t, step := k.step, path := it.1, n := it.2, dwell := l.dwell,
                          st := .due, fire := 0, pane := it.1, cfg := 0, x := [], codes := [] }
      let d := { d with storm.samples := d.storm.samples ++ [s] }
      if l.taken + 1 < w then put d { l with reserved := true, taken := l.taken + 1 }
      else put d { l with reserved := false, taken := 0, dwell := l.dwell + 1, again := none,
                          item := match l.again with | some k => k | none => (l.item + q) % items.length }

/-- Every lane of a placed ticket's instance takes it; waiting lanes reserve first in order (R222). -/
def Dev.takeSamples (d : Dev) (t : Nat) : Dev :=
  (d.storm.lanes.filter (fun l => l.slot == (d.ticket t).slot)).foldl (fun d l => d.laneTake t l) d

end Sys2Proof.Machine
end

