-- ==== Sys2Proof/Machine/Deadbolt.lean ====
section
/-! DEFINITION. The deadbolt (17_deadbolt.md): seal, key store, challenges and privilege, and the meanings of the
security commands. Tamper events stand in Lintel.lean. -/
namespace Sys2Proof.Machine

/-! ### Fuses (R455, R457) -/

/-- Two of the three seal bits read blown (R455). -/
def Fuses.isSealed (f : Fuses) : Bool := b2n f.seal0 + b2n f.seal1 + b2n f.seal2 ≥ 2

/-- A burn of hash `h` that has done `k` of its 35 parts, 32 hash bytes and then the three bits; a fuse once burned
stays (R457, R481). -/
def Fuses.burn (f : Fuses) (h : List Byte) (k : Nat) : Fuses :=
  { hash := f.hash ++ (h.take (min k 32)).drop f.hash.length
    seal0 := f.seal0 || k > 32
    seal1 := f.seal1 || k > 33
    seal2 := f.seal2 || k > 34 }

/-- The fuses are read: SEALED and the key hash (R455). -/
def Dev.readFuses (d : Dev) (f : Fuses) : Dev := { d with db.sealed := f.isSealed, db.hash := f.hash }

/-! ### The key store (R458, R459) -/

/-- Write bytes into the key store. -/
def Dev.writeKeys (d : Dev) (off : Nat) (bs : List Byte) : Dev :=
  { d with lin.keys := Tab.setList (fun _ => 0) d.lin.keys off bs }

def Dev.devPub (d : Dev) : List Byte := d.keyBytes 0x020 64
def Dev.imgPub (d : Dev) : List Byte := d.keyBytes 0x060 64

/-- Restricted actions of R459: refused in ALARM and, on a sealed device, outside a privileged session. -/
def Dev.keyGate (d : Dev) : Option Byte :=
  firstFail [(d.inAlarm, stAlarmActive), (d.db.sealed && !d.db.privileged, stSecurityDenied)]

/-- KEY_PROVISION GENERATE (R459, R581): a private scalar from 1 to n - 1, whose multiple of the base point is a point of the
curve. -/
def cmdKeyGenerate (slot : Byte) (c : Cmd) (d : Dev) : Dev :=
  match d.keyGate with
  | some st => d.refuse c st
  | none =>
    if slot ≠ 0 then d.refuse c stBadParam
    else
      let (n, d) := d.draw
      let priv := scalarOf ((List.range 32).map (Config.entropy n))
      let pub := pointKey ((p256Mul 256 priv (some p256G)).getD p256G)
      (d.writeKeys 0 (beBytes 32 priv ++ pub)).reply c stOk pub

/-- KEY_PROVISION WRITE_IMAGE (R459, R581). -/
def cmdKeyWriteImage (slot : Byte) (key : List Byte) (c : Cmd) (d : Dev) : Dev :=
  if key.length ≠ 64 then d.refuse c stBadLength
  else if d.db.sealed && sha256 key != d.db.hash then d.refuse c stSecurityDenied
  else if slot ≠ 0 then d.refuse c stBadParam
  else if !p256On (keyPoint key) then d.refuse c stBadParam
  else (d.writeKeys 0x060 key).ok c

/-- KEY_PROVISION WRITE of a 16-byte key at its offset (R459, R581). -/
def writeSymKey (off : Nat) (slot : Byte) (key : List Byte) (c : Cmd) (d : Dev) : Dev :=
  match d.keyGate with
  | some st => d.refuse c st
  | none =>
    if key.length ≠ 16 then d.refuse c stBadLength
    else if slot ≠ 0 then d.refuse c stBadParam
    else (d.writeKeys off key).ok c

def cmdKeyWriteFabric (slot : Byte) (key : List Byte) : Cmd → Dev → Dev := writeSymKey 0x0A0 slot key
def cmdKeyWriteStack (slot : Byte) (key : List Byte) : Cmd → Dev → Dev := writeSymKey 0x0B0 slot key

/-- KEY_PROVISION READ_PUBLIC (R459, R581). -/
def cmdKeyReadPublic (slot : Byte) (c : Cmd) (d : Dev) : Dev :=
  if slot = 0 then (if d.hasDevKey then d.reply c stOk d.devPub else d.refuse c stKeysAbsent)
  else if slot = 1 then (if d.hasImgKey then d.reply c stOk d.imgPub else d.refuse c stKeysAbsent)
  else d.refuse c stBadParam

/-- KEY_PROVISION CLEAR (R459, R581). -/
def cmdKeyClear (slot : Byte) (c : Cmd) (d : Dev) : Dev :=
  match d.keyGate with
  | some st => d.refuse c st
  | none =>
    if slot = 0 then (d.writeKeys 0x000 (zeros 96)).ok c
    else if slot = 1 then (d.writeKeys 0x060 (zeros 64)).ok c
    else if slot = 2 then (d.writeKeys 0x0A0 (zeros 16)).ok c
    else if slot = 3 then (d.writeKeys 0x0B0 (zeros 16)).ok c
    else d.refuse c stBadParam

/-! ### SEAL (R457) -/

/-- SEAL's acceptance (R457, R475). -/
def cmdSeal (hash : List Byte) (c : Cmd) (d : Dev) : Dev :=
  match firstFail [
    (d.db.sealed, stSecurityDenied), (d.inAlarm, stAlarmActive), (hash.length != 32, stBadLength),
    (!d.hasDevKey || !d.hasImgKey, stKeysAbsent), (sha256 d.imgPub != hash, stBadParam),
    (d.db.burning.isSome, stBusy)] with
  | some st => d.refuse c st
  | none => { d with db.burning := some (c, hash) }

/-- The fuses as they are read after a burn that a reset cut: how far it came is a free value (R481). -/
def fusesRead (s : State) : State :=
  match s.dev.db.burnCut with
  | none => { s with dev := s.dev.readFuses s.fuses }
  | some h =>
    let (n, d) := s.dev.draw
    let f := s.fuses.burn h (Config.freeNat n % 36)
    { s with fuses := f, dev := { (d.readFuses f) with db := { (d.readFuses f).db with burnCut := none } } }

/-- The burn ends: the fuses are burned and read again, and SEAL replies (R457, R481). -/
def sealDone (s : State) : State :=
  match s.dev.db.burning with
  | none => s
  | some (c, h) =>
    let s := fusesRead s
    let f := s.fuses.burn h 35
    let d := { s.dev with db.burning := none }
    { s with fuses := f, dev := (d.readFuses f).ok c }

/-! ### Policies (R470, R471) -/

/-- The policy of source `s`. -/
def policyOf (policy s : Nat) : Nat := fld policy (2 * s) 2

/-- TAMPER_POLICY (R471). -/
def cmdTamperPolicy (policy : Half) (c : Cmd) (d : Dev) : Dev :=
  if d.db.sealed && (List.range 8).any (fun s => policyOf policy.toNat s < policyOf d.lin.policy s) then
    d.refuse c stSecurityDenied
  else { d with lin.policy := policy.toNat }.ok c

/-! ### DB_STATUS -/

/-- The DB_STATUS word. -/
def Dev.dbStatus (d : Dev) : Nat :=
  b2n d.db.sealed + b2n d.lin.alarm * 2 + b2n d.db.privileged * 4 + b2n d.db.challenge.isSome * 8
    + b2n d.hasDevKey * 16 + b2n d.hasImgKey * 32 + b2n d.hasFabricKey * 64 + b2n d.hasStackKey * 128
    + d.lin.active % 256 * 256 + d.lin.latched % 256 * 65536 + b2n d.lin.erased * 16777216

/-! ### Challenges (R464 to R467, R477) -/

/-- The 64-byte challenge block (R464). -/
def challengeBlock (purpose rtc : Nat) (nonce : List Byte) : List Byte :=
  leBytes 2 0x4843 ++ [1] ++ leBytes 1 purpose ++ uidBytes ++ leBytes 6 rtc ++ zeros 10 ++ padTo 32 nonce

/-- The outstanding challenge has not expired: 10 s are 327,680 lintel periods, and an answer on the tick of expiry counts
as arrived (R465). -/
def Dev.challengeLive (d : Dev) (purpose : Nat) : Option (List Byte) :=
  match d.db.challenge with
  | some (p, blk, at_) => if p = purpose ∧ d.lin.rtc ≤ at_ + 327680 then some blk else none
  | none => none

/-- AUTH_CHALLENGE REQUEST for purposes 1 and 2 (R464, R475, R582). -/
def cmdChallengeRequest (purpose : Byte) (c : Cmd) (d : Dev) : Dev :=
  if purpose = 2 ∧ d.inAlarm then d.refuse c stAlarmActive
  else if purpose = 3 then d.refuse c stBadLength
  else if purpose ≠ 1 ∧ purpose ≠ 2 then d.refuse c stBadParam
  else
    let (n, d) := d.draw
    let blk := challengeBlock purpose.toNat d.lin.rtc ((List.range 32).map (Config.entropy n))
    { d with db.challenge := some (purpose.toNat, blk, d.lin.rtc) }.reply c stOk blk

/-- AUTH_CHALLENGE REQUEST with purpose ATTEST: the block and the device's signature (R466). -/
def cmdChallengeAttest (nonce : List Byte) (c : Cmd) (d : Dev) : Dev :=
  if nonce.length ≠ 32 then d.refuse c stBadLength
  else if !d.hasDevKey then d.refuse c stKeysAbsent
  else
    let (n, d) := d.draw
    let blk := challengeBlock 3 d.lin.rtc nonce
    let sig := ecdsaSign (beNat (d.keyBytes 0 32)) (scalarOf ((List.range 32).map (Config.entropy n))) (sha256 blk)
    { d with db.challenge := none }.reply c stOk (blk ++ sig)

/-- A verification against IMG_PUB begins (R461, R465). -/
def Dev.startVerify (d : Dev) (v : Verify) : Dev := { d with db.verifs := d.db.verifs ++ [v] }

/-- AUTH_CHALLENGE ANSWER to a PRIVILEGE challenge (R465, R467, R582). -/
def cmdChallengeAnswer (sig : List Byte) (c : Cmd) (d : Dev) : Dev :=
  if d.inAlarm then d.refuse c stAlarmActive
  else if sig.length ≠ 64 then d.refuse c stBadLength
  else
    match d.db.challenge with
    | some (p, _, _) =>
      if p ≠ 2 then d.refuse c stBadParam
      else
        match d.challengeLive 2 with
        | none => { d with db.challenge := none }.refuse c stSecurityDenied
        | some blk =>
          let d := { d with db.challenge := none }
          if !d.hasImgKey then d.refuse c stKeysAbsent
          else d.startVerify { cmd := c, purpose := .privilege, digest := sha256 blk, sig := sig }
    | none => d.refuse c stSecurityDenied

/-- A source whose policy is ALARM or higher is active (R477). -/
def Dev.alarmHeld (d : Dev) : Bool := (List.range 8).any (fun s => bitOf d.lin.active s && policyOf d.lin.policy s ≥ 1)

/-- Clear the latch; STATE_CHANGE follows where the overlay changes (R474, R477). -/
def Dev.clearAlarm (d : Dev) : Dev :=
  let was := d.lin.alarm
  let d := { d with lin.alarm := false, lin.latched := 0, lin.erased := false }
  if was then d.stateChanged else d

/-- ALARM_CLEAR's outcome once its answer, if any, is right (R477, R479). -/
def Dev.finishAlarmClear (d : Dev) (c : Cmd) : Dev :=
  if d.alarmHeld then d.reply c stAlarmActive (leBytes 4 d.dbStatus) else (d.clearAlarm).ok c

/-- ALARM_CLEAR (R477, R581). -/
def cmdAlarmClear (answer : List Byte) (c : Cmd) (d : Dev) : Dev :=
  if answer.length ≠ 0 ∧ answer.length ≠ 64 then d.refuse c stBadLength
  else if !d.db.sealed then
    (if answer.length = 64 then d.refuse c stBadLength else d.finishAlarmClear c)
  else if answer.length = 0 then d.refuse c stSecurityDenied
  else if d.alarmHeld then d.reply c stAlarmActive (leBytes 4 d.dbStatus)
  else if !d.hasImgKey then d.refuse c stKeysAbsent
  else
    match d.challengeLive 1 with
    | none => d.refuse c stSecurityDenied
    | some blk =>
      { d with db.challenge := none }.startVerify
        { cmd := c, purpose := .alarmClear, digest := sha256 blk, sig := answer }

/-- Whether a verification that ends now succeeds; otherwise the status that refuses it (R461, R480). -/
def Dev.verifyStatus (d : Dev) (v : Verify) : Option Byte :=
  if !d.hasImgKey then some stKeysAbsent
  else if v.digest.length = 32 && ecdsaVerify d.imgPub v.digest v.sig then none
  else some stSecurityDenied

/-! ### Signed objects (R460 to R463) -/

/-- How an AUTH block is treated on arrival of its object's last byte (R463). -/
inductive AuthOut where
  | accept
  | verify
  | refuse (st : Byte)
  deriving DecidableEq, Repr

/-- Format of an AUTH block: MAGIC, VERSION, ALG, the zero fields and KEY_ID (R460, R462). -/
def authFormat (imgPub auth : List Byte) : Bool :=
  uAt auth 0 2 == 0x5341 && uAt auth 2 1 == 1 && uAt auth 3 1 == 1 && bytesAt auth 4 4 == (sha256 imgPub).take 4
    && allZero (bytesAt auth 8 24) && allZero (bytesAt auth 0x60 32)

/-- R463 for an AUTH block. -/
def Dev.judgeAuth (d : Dev) (auth : List Byte) : AuthOut :=
  if d.db.sealed then
    if !d.hasImgKey then .refuse stKeysAbsent
    else if authFormat d.imgPub auth then .verify else .refuse stSecurityDenied
  else if allZero auth || !d.hasImgKey then .accept
  else if authFormat d.imgPub auth then .verify else .refuse stSecurityDenied

/-- The signed bytes' digest: every byte of the object but 0x20 to 0x7F of its AUTH block at 0x80 (R461). -/
def objectDigest (obj : List Byte) : List Byte := sha256 (obj.take 0xA0 ++ obj.drop 0x100)

/-- The signature of an object's AUTH block. -/
def objectSig (obj : List Byte) : List Byte := bytesAt obj 0xA0 64

/-! ### Meanings -/

/-- KEY_PROVISION GENERATE (R459). -/
def execKeyProvisionGenerate (h : CmdHdr) (slot : Byte) (s : State) : Host.Outcome State Fault Refusal :=
  onDev s (Dev.hostCmd 0x90 [0, slot, 0, 0] h (cmdKeyGenerate slot))

/-- KEY_PROVISION WRITE_IMAGE (R459). -/
def execKeyProvisionWriteImage (h : CmdHdr) (slot : Byte) (key : List Byte) (s : State) :
    Host.Outcome State Fault Refusal :=
  onDev s (Dev.hostCmd 0x90 ([1, slot, 0, 0] ++ key) h (cmdKeyWriteImage slot key))

/-- KEY_PROVISION WRITE_FABRIC (R459). -/
def execKeyProvisionWriteFabric (h : CmdHdr) (slot : Byte) (key : List Byte) (s : State) :
    Host.Outcome State Fault Refusal :=
  onDev s (Dev.hostCmd 0x90 ([2, slot, 0, 0] ++ key) h (cmdKeyWriteFabric slot key))

/-- KEY_PROVISION WRITE_STACK (R459). -/
def execKeyProvisionWriteStack (h : CmdHdr) (slot : Byte) (key : List Byte) (s : State) :
    Host.Outcome State Fault Refusal :=
  onDev s (Dev.hostCmd 0x90 ([3, slot, 0, 0] ++ key) h (cmdKeyWriteStack slot key))

/-- KEY_PROVISION READ_PUBLIC (R581). -/
def execKeyProvisionReadPublic (h : CmdHdr) (slot : Byte) (s : State) : Host.Outcome State Fault Refusal :=
  onDev s (Dev.hostCmd 0x90 [4, slot, 0, 0] h (cmdKeyReadPublic slot))

/-- KEY_PROVISION CLEAR (R459). -/
def execKeyProvisionClear (h : CmdHdr) (slot : Byte) (s : State) : Host.Outcome State Fault Refusal :=
  onDev s (Dev.hostCmd 0x90 [5, slot, 0, 0] h (cmdKeyClear slot))

/-- SEAL (R457). -/
def execSeal (h : CmdHdr) (hash : List Byte) (s : State) : Host.Outcome State Fault Refusal :=
  onDev s (Dev.hostCmd 0x91 hash h (cmdSeal hash))

/-- SEAL_BURN_COMPLETE (R457, R455). -/
def execSealBurnComplete (s : State) : Host.Outcome State Fault Refusal := .next (sealDone s)

/-- TAMPER_POLICY (R471). -/
def execTamperPolicy (h : CmdHdr) (policy : Half) (s : State) : Host.Outcome State Fault Refusal :=
  onDev s (Dev.hostCmd 0x92 (leBytes 2 policy.toNat) h (cmdTamperPolicy policy))

/-- ALARM_CLEAR (R477). -/
def execAlarmClear (h : CmdHdr) (answer : List Byte) (s : State) : Host.Outcome State Fault Refusal :=
  onDev s (Dev.hostCmd 0x93 answer h (cmdAlarmClear answer))

/-- AUTH_CHALLENGE REQUEST (R464). -/
def execAuthChallengeRequest (h : CmdHdr) (purpose : Byte) (s : State) : Host.Outcome State Fault Refusal :=
  onDev s (Dev.hostCmd 0x94 [0, purpose] h (cmdChallengeRequest purpose))

/-- AUTH_CHALLENGE REQUEST with purpose ATTEST (R466). -/
def execAuthChallengeAttest (h : CmdHdr) (nonce : List Byte) (s : State) : Host.Outcome State Fault Refusal :=
  onDev s (Dev.hostCmd 0x94 ([0, 3] ++ nonce) h (cmdChallengeAttest nonce))

/-- AUTH_CHALLENGE ANSWER (R467). -/
def execAuthChallengeAnswer (h : CmdHdr) (sig : List Byte) (s : State) : Host.Outcome State Fault Refusal :=
  onDev s (Dev.hostCmd 0x94 ([1, 0] ++ sig) h (cmdChallengeAnswer sig))

/-- A write of 1 to DB_CTRL.DROP ends the privileged session (R467). -/
def Dev.dropSession (d : Dev) : Dev := { d with db.privileged := false }

/-- DB_CTRL_DROP (R467). -/
def execDbCtrlDrop (s : State) : Host.Outcome State Fault Refusal := onDev s Dev.dropSession

/-- CHALLENGE_EXPIRY: the challenge expires 10 s after issue on the real-time counter (R465). -/
def Dev.expireChallenge (d : Dev) : Dev :=
  match d.db.challenge with
  | some (_, _, at_) => if d.lin.rtc ≥ at_ + 327680 then { d with db.challenge := none } else d
  | none => d

/-- CHALLENGE_EXPIRY (R465). -/
def execChallengeExpiry (s : State) : Host.Outcome State Fault Refusal := onDev s Dev.expireChallenge

end Sys2Proof.Machine
end

