-- ==== Sys2Proof/Machine/SillMem.lean ====
section
/-! DEFINITION. Sill as a memory (07_sill.md R180 to R187, R192 to R197): windows, rows, error correction, table
descriptors and the write gates. -/
namespace Sys2Proof.Machine

/-! ### Address space (R180, R181) -/

def onChip (a : Nat) : Bool := 0x1000000 ≤ a && a < 0x2000000

/-- The companion window, which exists on the NQ2410-T only (R2). -/
def companion (a : Nat) : Bool := Config.partT && 0x40000000 ≤ a && a < 0xC0000000

/-- A range lies inside one sill window (R180, R181). -/
def inWindow (a n : Nat) : Bool :=
  (0x1000000 ≤ a && a + n ≤ 0x2000000) || (Config.partT && 0x40000000 ≤ a && a + n ≤ 0xC0000000)

/-- Die of a companion address: window offset bit 29 (R181). -/
def dieOf (a : Nat) : Nat := fld (a - 0x40000000) 29 1

/-- Row of a companion address within its die (R181). -/
def dieRow (a : Nat) : Nat := (fld (a - 0x40000000) 30 1 * 2 ^ 29 + (a - 0x40000000) % 2 ^ 29) / 128

/-- First window address of a die's row. -/
def dieRowAddr (die row : Nat) : Nat :=
  0x40000000 + row * 128 / 2 ^ 29 * 2 ^ 30 + die * 2 ^ 29 + row * 128 % 2 ^ 29

/-- On-chip row of an address, 0 to 131,071. -/
def chipRow (a : Nat) : Nat := (a - 0x1000000) / 128

/-- The edge router that serves an address (R180, R181). -/
def sillEdge (a : Nat) : Nat := if onChip a then (if a < 0x1800000 then 34 else 35) else 34 + dieOf a

/-- Rows of a companion die. -/
def dieRows : Nat := 8388608

/-- The zero front of a die (R197). -/
def SillState.front (s : SillState) (die : Nat) : Nat := if die = 0 then s.front0 else s.front1

/-- The row of an address was never written, or lies at or beyond its die's zero front (R196, R197). -/
def SillState.rowUnwritten (s : SillState) (a : Nat) : Bool :=
  if onChip a then !Tab.get (fun _ => false) s.written (chipRow a) else dieRow a ≥ s.front (dieOf a)

/-- A companion row at or beyond the zero front (R197). -/
def SillState.beyondFront (s : SillState) (a : Nat) : Bool := !onChip a && dieRow a ≥ s.front (dieOf a)

/-- A byte as a read sees it (R196, R197). -/
def SillState.byteAt (s : SillState) (a : Nat) : Byte := if s.rowUnwritten a then 0 else Tab.get (fun _ => 0) s.mem a

/-- Bytes of sill as a read sees them. -/
def Dev.sillBytes (d : Dev) (a n : Nat) : List Byte := (List.range n).map (fun k => d.sill.byteAt (a + k))

/-- Some row of a range satisfies `p` (a predicate of addresses that depends on the row only). -/
def anyRow (p : Nat → Bool) (a n : Nat) : Bool :=
  n != 0 && (List.range ((a + n - 1) / 128 - a / 128 + 1)).any (fun k => p ((a / 128 + k) * 128))

/-! ### Error correction (R183) -/

/-- Flipped bits of the 64-bit word at an 8-byte aligned address. -/
def SillState.flipsAt (s : SillState) (w : Nat) : Nat := Tab.get (fun _ => 0) s.flips w

/-- The 64-bit words that a range touches and that hold flipped bits, with their flips; a row at or beyond a zero front has no
cells to decode (log entry 36). A row that was never written is decoded as any other is (R183). -/
def SillState.flipped (s : SillState) (a n : Nat) : List (Nat × Nat) :=
  s.flips.filter (fun e => a / 8 * 8 ≤ e.1 && e.1 < a + n && !s.beyondFront e.1)

/-- A word meets the decoder: corrected and counted, or counted, held and logged (R183). -/
def Dev.sillWordEcc (d : Dev) (e : Nat × Nat) : Dev :=
  if e.2 = 1 then { (d.satFld 0x90008 0 16) with sill.flips := Tab.set (fun _ => 0) d.sill.flips e.1 0 }
  else ((((d.satFld 0x90008 16 16).setReg 0x9000C (BitVec.ofNat 32 e.1)).setFld 0x90000 2 1 1).faultLog 4 0 0 e.1)

/-- What a read of a range finds: its bytes, whether a word was uncorrectable, whether one was corrected, whether a row was
unwritten. -/
structure SillRead where
  bytes : List Byte
  ue : Bool
  corrected : Bool
  unwritten : Bool

/-- Read a range of sill with every effect of the read (R183, R196, R197). -/
def Dev.sillRead (d : Dev) (a n : Nat) : SillRead × Dev :=
  let fl := d.sill.flipped a n
  let r : SillRead := { bytes := d.sillBytes a n, ue := fl.any (fun e => e.2 ≥ 2), corrected := fl.any (fun e => e.2 == 1),
                        unwritten := anyRow d.sill.rowUnwritten a n }
  let d := fl.foldl (fun d e => d.sillWordEcc e) d
  (r, if r.unwritten then d.setFld 0x90000 1 1 1 else d)

/-- Addresses of the words of a range that a write covers in part only. -/
def partialWords (a n : Nat) : List Nat :=
  nodupL ((if a % 8 ≠ 0 then [a / 8 * 8] else []) ++ (if (a + n) % 8 ≠ 0 then [(a + n) / 8 * 8] else []))

/-- Store bytes, set the written bits of their rows, and give the words written right check bits (R183, R196). -/
def Dev.sillStore (d : Dev) (a : Nat) (bs : List Byte) : Dev :=
  let rows := if bs.isEmpty then 0 else (a + bs.length - 1) / 128 - a / 128 + 1
  let w := (List.range rows).foldl (fun w k =>
    let r := (a / 128 + k) * 128
    if onChip r then Tab.set (fun _ => false) w (chipRow r) true else w) d.sill.written
  { d with
    sill.mem := Tab.setList (fun _ => 0) d.sill.mem a bs
    sill.written := w
    sill.flips := d.sill.flips.filter (fun e => e.1 < a / 8 * 8 || a + bs.length ≤ e.1) }

/-- Write bytes (R183, R192): a word that is written in part and is uncorrectable refuses the write there; what lies
before it stands (R567). The answer says whether all was written. -/
def Dev.sillWrite (d : Dev) (a : Nat) (bs : List Byte) : Bool × Dev :=
  match (partialWords a bs.length).find? (fun w => d.sill.flipsAt w ≥ 2) with
  | some w =>
    let d := if a < w then d.sillStore a (bs.take (w - a)) else d
    (false, d.sillWordEcc (w, 2))
  | none =>
    let d := (partialWords a bs.length).foldl (fun d w =>
      if d.sill.flipsAt w == 1 then d.sillWordEcc (w, 1) else d) d
    (true, d.sillStore a bs)

/-- Zero a 128-byte-aligned range: contents zero, written bits clear (R194). -/
def Dev.sillZero (d : Dev) (a n : Nat) : Dev :=
  { d with
    sill.mem := Tab.dropRange a n d.sill.mem
    sill.flips := Tab.dropRange a n d.sill.flips
    sill.written := if onChip a then Tab.dropRange (chipRow a) (n / 128) d.sill.written else d.sill.written }

/-! ### Table descriptors (R185 to R187) -/

def descOf (b : List Byte) : Desc :=
  { table := uAt b 0 1, flags := uAt b 1 1, entrySize := uAt b 2 2, entries := uAt b 4 4, base := uAt b 8 4,
    assetBits := uAt b 0x0C 1, speedBits := uAt b 0x0D 1, loadBits := uAt b 0x0E 1, tempBits := uAt b 0x0F 1 }

/-- Bytes of a table. -/
def Desc.size (e : Desc) : Nat := e.entrySize * e.entries

/-- A range overlaps the table. -/
def Desc.touches (e : Desc) (a n : Nat) : Bool := a < e.base + e.size && e.base < a + n

/-- The half that an address lies in (R186): two on chip, each 512 MiB block of the companion window. -/
def halfOf (a : Nat) : Option Nat :=
  if onChip a then some (if a < 0x1800000 then 0 else 1)
  else if companion a then some (2 + (a - 0x40000000) / 2 ^ 29)
  else none

/-- Trace is on (TRACE_CTRL.EN). -/
def Dev.traceOn (d : Dev) : Bool := d.bitAt 0xC0010 0

/-- A range touches the trace region (R501). -/
def inTrace (a n : Nat) : Bool := a < 0x2000000 && 0x1F00000 < a + n

/-- Field ranges of a descriptor's 32 bytes (R185). -/
def descFormat (b : List Byte) : Bool :=
  let e := descOf b
  b.length == 32 && e.table ≤ 63 && e.flags < 4 && allZero (bytesAt b 0x10 12) && crc32 (b.take 0x1C) == uAt b 0x1C 4
    && [16, 32, 64, 128, 256].contains e.entrySize && 1 ≤ e.entries && e.entries ≤ 2 ^ 24 && e.base % 128 == 0
    && e.assetBits ≤ 24 && e.speedBits ≤ 8 && e.loadBits ≤ 8 && e.tempBits ≤ 8

/-- The bit counts and the place of a table (R186). -/
def Desc.placed (e : Desc) : Bool :=
  let n := e.assetBits + e.speedBits + e.loadBits + e.tempBits
  n ≤ 24 && e.entries ≤ 2 ^ n && (halfOf e.base).isSome && halfOf e.base == halfOf (e.base + e.size - 1)

/-- The descriptor of a table. -/
def Dev.desc (d : Dev) (t : Nat) : Option Desc := (d.sill.descs.find? (fun e => e.1 == t)).map (·.2)

/-- The conditions of R186 that depend on the other tables and on the trace. -/
def Dev.descFree (d : Dev) (e : Desc) : Bool :=
  d.sill.descs.all (fun x => x.1 == e.table || !x.2.touches e.base e.size) && !(d.traceOn && inTrace e.base e.size)

def Dev.setDesc (d : Dev) (e : Desc) : Dev :=
  { d with sill.descs := d.sill.descs.filter (fun x => x.1 != e.table) ++ [(e.table, e)] }

def Dev.dropDesc (d : Dev) (t : Nat) : Dev := { d with sill.descs := d.sill.descs.filter (fun x => x.1 != t) }

/-- The index of a key (R187); none when a field or the index is out of range. -/
def Desc.index (e : Desc) (asset speed load temp : Nat) : Option Nat :=
  if asset ≥ 2 ^ e.assetBits ∨ speed ≥ 2 ^ e.speedBits ∨ load ≥ 2 ^ e.loadBits ∨ temp ≥ 2 ^ e.tempBits then none
  else
    let i := asset * 2 ^ (e.speedBits + e.loadBits + e.tempBits) + speed * 2 ^ (e.loadBits + e.tempBits) + load * 2 ^ e.tempBits + temp
    if i ≥ e.entries then none else some i

/-! ### Write gates (R193) -/

/-- The tables that a range touches. -/
def Dev.tablesAt (d : Dev) (a n : Nat) : List Desc := (d.sill.descs.map (·.2)).filter (fun e => e.touches a n)

/-- The lease holder of a table. -/
def Dev.leaseOf (d : Dev) (t : Nat) : Option Nat := (d.sill.leases.find? (fun e => e.1 == t)).map (·.2)

def Desc.leased (e : Desc) : Bool := bitOf e.flags 0

/-- What refuses a write of a party (its router id) to a range: a casement needs the lease, the host and the door a lease
that no other holds (R193). -/
def Dev.writeGate (d : Dev) (who a n : Nat) : Option Byte :=
  let ts := d.tablesAt a n
  firstFail [
    (who < 32 && ts.any (fun e => bitOf e.flags 1), stSecurityDenied),
    (ts.any (fun e => e.leased && (match d.leaseOf e.table with
      | some h => h != who
      | none => who < 32)), stBusy)]

/-- A write to the range must wait: for the clear, which holds every request, or for a zero front (R195, R197). -/
def Dev.writeHeld (d : Dev) (a n : Nat) : Bool := d.sill.clearing || anyRow d.sill.beyondFront a n

/-- A request is held. -/
def Dev.sillHold (d : Dev) (h : SillHeld) : Dev := { d with sill.held := d.sill.held ++ [h] }

end Sys2Proof.Machine
end

