-- ==== Sys2Proof/Machine/StormProg.lean ====
section
/-! DEFINITION. Weight tensors and storm programs (08_storm.md R208 to R213): their formats and their arithmetic. -/
namespace Sys2Proof.Machine

/-! ### Storm programs (R211, R212) -/

def progPanes (b : List Byte) : Nat := uAt b 3 1
def progOps (b : List Byte) : Nat := uAt b 4 2
def progWin (b : List Byte) : Nat := uAt b 6 2

/-- The 16 bytes of operation `k`. -/
def progOp (b : List Byte) (k : Nat) : List Byte := bytesAt b (16 + 8 * progPanes b + 16 * k) 16

/-- An operand of `n` bytes at a buffer offset lies inside the region (R211). -/
def operandOk (buf off n : Nat) : Bool := off * 32 + n ≤ buf

/-- An operation's fields are in range and its operands lie inside the region (R211, R212). -/
def opOk (buf : Nat) (o : List Byte) : Bool :=
  if uAt o 0 1 = 1 then
    uAt o 1 1 < 4 && 4 ≤ uAt o 2 1 && uAt o 2 1 ≤ 15 && operandOk buf (uAt o 4 2) 1024 && operandOk buf (uAt o 6 2) 1040
      && uAt o 8 4 % 128 == 0 && uAt o 0x0C 2 % 32 == 0 && 32 ≤ uAt o 0x0C 2 && uAt o 0x0C 2 ≤ 512 && allZero (bytesAt o 14 2)
  else if uAt o 0 1 = 2 then
    let op := uAt o 1 1
    let len := uAt o 8 2
    uAt o 2 1 ≤ 15 && uAt o 3 1 ≤ 7 && auLenOk op len (uAt o 3 1) && operandOk buf (uAt o 4 2) (2 * len)
      && operandOk buf (uAt o 6 2) (2 * auOutLen op len (uAt o 3 1)) && (op != 5 || operandOk buf (uAt o 10 2) (2 * len))
      && allZero (bytesAt o 14 2)
  else if uAt o 0 1 = 3 then
    uAt o 1 1 ≤ 63 && 1 ≤ uAt o 2 1 && uAt o 2 1 ≤ 8 && operandOk buf (uAt o 4 2) 4 && operandOk buf (uAt o 6 2) 16
      && allZero (bytesAt o 11 5)
  else if uAt o 0 1 = 4 then
    2 ≤ uAt o 1 1 && allZero (bytesAt o 2 2) && operandOk buf (uAt o 4 2) (2 * uAt o 1 1) && operandOk buf (uAt o 6 2) 2
      && operandOk buf (uAt o 8 2) 2 && allZero (bytesAt o 10 6)
  else false

/-- A pane entry is in range (R210, R211). -/
def progPaneOk (e : List Byte) : Bool := uAt e 0 1 ≤ 127 && allZero (bytesAt e 1 3) && uAt e 4 4 % 128 == 0

/-- The format of a storm program section (R211, R158). -/
def progValid (b : List Byte) (streamed : Bool) (buf winLen : Nat) : Bool :=
  b.length == 16 + 8 * progPanes b + 16 * progOps b && uAt b 0 2 == 0x5350 && uAt b 2 1 == 1 && progPanes b ≤ 128
    && progOps b ≤ 1024 && allZero (bytesAt b 8 8) && (!streamed || progOps b != 0)
    && (List.range (progPanes b)).all (fun k => progPaneOk (bytesAt b (16 + 8 * k) 8))
    && (progOps b == 0 || (operandOk buf 0 32 && operandOk buf (progWin b) (2 * winLen)))
    && (List.range (progOps b)).all (fun k => opOk buf (progOp b k))

/-! ### Tensors (R208, R210) -/

/-- Whole size of a tensor of `ct` column tiles. -/
def tensorSize (ct : Nat) : Nat := 0x20 + ct * 128 + ct * 8 * 4096

/-- A tensor's MAGIC, VERSION and tile counts (R210, R217). -/
def tensorHead (h : List Byte) : Bool :=
  uAt h 0 2 == 0x5754 && uAt h 2 1 == 1 && uAt h 4 1 == 8 && 1 ≤ uAt h 5 1 && uAt h 5 1 ≤ 8

/-- The weight code of a row and column of a tensor. -/
def tensorCode (t : List Byte) (i j : Nat) : Int :=
  let ct := uAt t 5 1
  sxt 8 (uAt t (0x20 + ct * 128 + (j / 64 * 8 + i / 64) * 4096 + i % 64 * 64 + j % 64) 1)

/-- BIAS of a column: c_AUX0 + c_AUX1. -/
def tensorBias (t : List Byte) (j : Nat) : Int := sxt 16 (uAt t (0x20 + 2 * j) 2)

/-- A pane-equivalent product (R208): the codes y_j of columns below `cols` and whether one was out of range. -/
def tensorProduct (t : List Byte) (shift : Nat) (bias : Int) (x : List Int) (cols : Nat) : List Int × Bool :=
  let ys := (List.range (min cols (uAt t 5 1 * 64))).map (fun j =>
    let dj := sumI ((List.range 512).map (fun i => nthD x i 0 * tensorCode t i j)) + bias * tensorBias t j
    roundAway ((dj : Rat) / ((2 ^ shift : Nat) : Rat)))
  (ys.map (clampI (-511) 511), ys.any (fun y => y ≥ 512 || y ≤ -512))

/-- What the storm delivers of a product: 4 y_j, and no-data in every other physical column (R208). -/
def stormCodes (ys : List Int) : List Int := ((ys.map (· * 4)) ++ List.replicate 520 noData).take 520

/-- A tensor as the storm reads it from sill: its bytes, none when its header fails R210, and whether a word was
uncorrectable (R183). -/
def Dev.readTensor (d : Dev) (a : Nat) : (Option (List Byte) × Bool) × Dev :=
  if !inWindow a 0x20 then ((none, false), d)
  else
    let (h, d) := d.sillRead a 0x20
    if !tensorHead h.bytes || !inWindow a (tensorSize (uAt h.bytes 5 1)) then ((none, h.ue), d)
    else
      let (r, d) := d.sillRead a (tensorSize (uAt h.bytes 5 1))
      ((some r.bytes, r.ue), d)

/-- Input lanes of a streamed MATVEC (R130, R208): no-data is staged as 0; unsigned lanes clamp to 0 to 255, signed to
plus or minus 255. -/
def stageLane (signed : Bool) (v : Int) : Int :=
  if v = noData then 0 else if signed then clampI (-255) 255 v else clampI 0 255 v

end Sys2Proof.Machine
end

