-- ==== Sys2Proof/Machine/Container.lean ====
section
/-! DEFINITION. The image container (06_models_tickets_verdicts.md R156 to R158) and the tensor symbol table
(18_debug.md R497). -/
namespace Sys2Proof.Machine

/-- An entry of the section table (R157). -/
structure Sect where
  typ : Nat
  target : Nat
  off : Nat
  size : Nat
  crc : Nat
  zero : Bool

def sectOf (b : List Byte) (k : Nat) : Sect :=
  let o := 0x100 + 16 * k
  { typ := uAt b o 1, target := uAt b (o + 1) 1, off := uAt b (o + 4) 4, size := uAt b (o + 8) 4, crc := uAt b (o + 12) 4,
    zero := uAt b (o + 2) 2 == 0 }

/-- Header fields (R156). -/
def hdrSections (b : List Byte) : Nat := uAt b 6 2
def hdrTotal (b : List Byte) : Nat := uAt b 8 4
def hdrFlags (b : List Byte) : Nat := uAt b 0x10 4
def hdrCasements (b : List Byte) : Nat := uAt b 0x18 4
def hdrPanes (b : List Byte) : Nat := uAt b 0x1C 16
def hdrWinLen (b : List Byte) : Nat := uAt b 0x16 2
def hdrBuf (b : List Byte) : Nat := uAt b 0x34 4
def hdrStreamed (b : List Byte) : Bool := bitOf (hdrFlags b) 1
def hdrPlaced (b : List Byte) : Bool := bitOf (hdrFlags b) 0

/-- The sections of a container whose table is whole. -/
def sections (b : List Byte) : List Sect := (List.range (hdrSections b)).map (sectOf b)

/-- The bytes of a section. -/
def Sect.bytes (s : Sect) (b : List Byte) : List Byte := bytesAt b s.off s.size

/-- The header passes its format, range and CRC checks (R156, R158). -/
def headerOk (b : List Byte) : Bool :=
  0x100 ≤ b.length && uAt b 0 4 == 0x4C514D43 && uAt b 4 2 == 1 && 1 ≤ hdrSections b && hdrSections b ≤ 64
    && hdrTotal b == b.length && hdrFlags b < 16 && 1 ≤ uAt b 0x14 1 && uAt b 0x14 1 ≤ 64 && 2 ≤ uAt b 0x15 1
    && 256 ≤ hdrWinLen b && hdrWinLen b ≤ 4096 && (bytesAt b 0x2C 8).all (fun s => s.toNat ≤ 127 || s == 0xFF)
    && hdrBuf b ≤ 0x200000 && allZero (bytesAt b 0x3A 66) && crc32 (b.take 0x7C) == uAt b 0x7C 4
    && 0x100 + 16 * hdrSections b ≤ b.length

/-- A section's entry and bytes pass their common checks (R157, R158). -/
def Sect.ok (s : Sect) (b : List Byte) : Bool :=
  s.zero && s.off % 32 == 0 && 0x100 + 16 * hdrSections b ≤ s.off && s.off + s.size ≤ b.length
    && crc32 (s.bytes b) == s.crc

/-- Two sections overlap (R158). -/
def Sect.overlaps (s t : Sect) : Bool := s.off < t.off + t.size && t.off < s.off + s.size

/-- No two sections of a list overlap. -/
def noOverlap : List Sect → Bool
  | [] => true
  | s :: l => l.all (fun t => !s.overlaps t) && noOverlap l

/-- A casement code section: its copy ends at or below 0x8003_4EFF (R157). -/
def codeOk (s : List Byte) : Bool := 8 ≤ s.length && uAt s 0 4 + (s.length - 8) ≤ 0x34F00

/-- NAME is ASCII, NUL-padded (R497). -/
def nameOk : List Byte → Bool
  | [] => true
  | c :: l => if c = 0 then allZero l else c.toNat < 128 && nameOk l

/-- A symbol entry keeps its rules (R497). -/
def symbolOk (casements : Nat) (e : List Byte) : Bool :=
  let kind := uAt e 2 1
  1 ≤ kind && kind ≤ 3 && uAt e 3 1 ≤ 31 && bitOf casements (uAt e 3 1) && (if kind = 3 then uAt e 4 1 ≤ 39 else uAt e 4 1 ≤ 3)
    && uAt e 5 1 ≤ 63 && uAt e 6 2 == 0 && 1 ≤ uAt e 8 4
    && uAt e 8 4 ≤ (if kind = 1 then 1024 else if kind = 2 then 1060 else 512) && nameOk (bytesAt e 12 20)

/-- Entries of a symbol table. -/
def symbols (s : List Byte) : List (List Byte) := (List.range (uAt s 3 1)).map (fun k => bytesAt s (8 + 32 * k) 32)

/-- The tensor symbol table keeps its rules (R497). -/
def symbolsValid (casements : Nat) (s : List Byte) : Bool :=
  uAt s 0 2 == 0x5354 && uAt s 2 1 == 1 && 1 ≤ uAt s 3 1 && uAt s 4 4 == 0 && s.length == 8 + 32 * uAt s 3 1
    && (symbols s).all (symbolOk casements) && !hasDup ((symbols s).map (fun e => uAt e 0 2))

/-- A section's own format (R157, R158): type, target and content. -/
def Sect.contentOk (s : Sect) (b : List Byte) : Bool :=
  let bs := s.bytes b
  if s.typ = 3 then
    if s.target = 0x40 then progValid bs (hdrStreamed b) (hdrBuf b) (hdrWinLen b)
    else s.target ≤ 31 && bitOf (hdrCasements b) s.target && codeOk bs
  else if s.typ = 4 then descFormat bs && (descOf bs).placed && uAt bs 0 1 == s.target
  else if s.typ = 5 then s.target == 0xFF && checkValid bs (onesOf 128 (hdrPanes b))
  else if s.typ = 6 then s.target == 0xFF && symbolsValid (hdrCasements b) bs
  else false

/-- The bytes of the only section of a type and target; empty when there is none. -/
def sectBytes (b : List Byte) (typ target : Nat) : List Byte :=
  match (sections b).find? (fun s => s.typ == typ && s.target == target) with
  | some s => s.bytes b
  | none => []

/-- Every check of R158 but the signature's. -/
def containerValid (b : List Byte) : Bool :=
  headerOk b && (sections b).all (fun s => s.ok b && s.contentOk b) && noOverlap (sections b)
    && !hasDup ((sections b).map (fun s => (s.typ, s.target)))
    && (hdrPlaced b || hdrStreamed b) && !(!hdrPlaced b && hdrStreamed b && !bitOf (hdrFlags b) 2)
    && !(hdrPlaced b && hdrPanes b == 0)
    && (!hdrStreamed b || !(sectBytes b 3 0x40).isEmpty)
    && (((sections b).filter (fun s => 4 ≤ s.typ)).map (·.size)).sum ≤ 65536

/-- Descriptors of a container. -/
def containerDescs (b : List Byte) : List Desc := ((sections b).filter (fun s => s.typ == 4)).map (fun s => descOf (s.bytes b))

/-- What a validated container gives its slot. -/
def modelOf (b : List Byte) : Model :=
  { modelId := BitVec.ofNat 32 (uAt b 0x0C 4), flags := hdrFlags b, hyps := uAt b 0x14 1, classes := uAt b 0x15 1,
    winLen := hdrWinLen b, casements := hdrCasements b, panes := hdrPanes b,
    spares := ((bytesAt b 0x2C 8).map (·.toNat)).filter (· != 0xFF), stormBuf := hdrBuf b, latBudget := uAt b 0x38 2,
    code := ((sections b).filter (fun s => s.typ == 3 && s.target ≤ 31)).map (fun s =>
      (s.target, uAt (s.bytes b) 0 4, s.size - 8)),
    stormProg := sectBytes b 3 0x40, tables := (containerDescs b).map (·.table), check := sectBytes b 5 0xFF,
    symbols := sectBytes b 6 0xFF }

end Sys2Proof.Machine
end

