-- ==== Sys2Proof/Machine/CoreBase.lean ====
section
/-! DEFINITION. Starting and halting a casement's core (05_casements_and_mullion.md R123, CSM_CTRL). -/
namespace Sys2Proof.Machine

/-- The core starts fetching at CSM_ENTRY (R123). -/
def Dev.startCore (d : Dev) (c : Nat) : Dev :=
  let k := d.cas c
  if k.core = .halted && d.isPowered (quadOf c) then
    d.setCas c { k with core := .running, pc := d.reg (aCsm c 0x008), wait := .none, haltPending := false, inTrap := false
                        judged := false }
  else d.setCas c { k with haltPending := false }

/-- HALT takes effect at the next instruction boundary: a stalled instruction first completes or times out (R123). -/
def Dev.stopCore (d : Dev) (c : Nat) : Dev :=
  let k := d.cas c
  if k.core != .running then d
  else if k.wait = .none then d.setCas c { k with core := .halted } else d.setCas c { k with haltPending := true }

/-- CSM_CTRL.HALT is written (R123): clearing it starts the core at CSM_ENTRY, setting it halts the core. -/
def Dev.writeHalt (d : Dev) (c : Nat) (halt : Bool) : Dev :=
  let was := d.bitAt (aCsm c 0x000) 0
  let d := d.setFld (aCsm c 0x000) 0 1 (b2n halt)
  if halt then d.stopCore c else if was then d.startCore c else d

end Sys2Proof.Machine
end

