-- ==== Sys2Proof/Machine/DebugBase.lean ====
section
/-! DEFINITION. What other blocks use of the debug block (18_debug.md): the bolt, latch matches and tensor dumps. -/
namespace Sys2Proof.Machine

/-! ### The bolt (R489) -/

/-- The device enters BOLTED with its first cause: 1 command, 2 JTAG, 3 BOLT_IO, 4 latch point, 5 TRIG; all but BOLT_IO are
own causes (R489, R493). -/
def Dev.boltNow (d : Dev) (cause hart : Nat) : Dev :=
  let own := cause != 3
  if d.dbg.bolted then { d with dbg := { d.dbg with ownCause := d.dbg.ownCause || own } }
  else
    let d := { d with dbg := { d.dbg with bolted := true, quiet := false, ownCause := own, cause := cause, hart := hart,
                                          boltFt := d.sys.ft } }
    (d.trace 32 8 (leBytes 1 cause)).stateChanged

/-! ### The TAP (R484, R486) -/

/-- The instruction register takes a code (R484); SCAN_STATE starts at its first word. -/
def Dev.loadIr (d : Dev) (code : Nat) : Dev :=
  { d with dbg := { d.dbg with jtag := { d.dbg.jtag with
      ir := code, extest := false, scanPos := if d.dbg.jtag.ir = code then d.dbg.jtag.scanPos else 0 } } }

/-- The instructions other than BYPASS, IDCODE and SAMPLE/PRELOAD act: not on a sealed device outside a session (R486). -/
def Dev.jtagOpen (d : Dev) : Bool := !d.db.sealed || d.db.privileged

/-- A data register shifts out on TDO. -/
def Dev.shiftOut (d : Dev) (v : Nat) : Dev := { d with dbg := { d.dbg with jtag := { d.dbg.jtag with tdo := v } } }

/-! ### Latch points (R495) -/

/-- Hart `h` is halted by the debug module or a latch. -/
def Dev.hartHalted (d : Dev) (h : Nat) : Bool := bitOf d.dbg.jtag.halted h

/-- Hart `h` is halted; a custom instruction on which a casement core is stalled is abandoned and executes again on resume
(R496). -/
def Dev.haltHart (d : Dev) (h : Nat) : Dev :=
  let d := { d with dbg := { d.dbg with jtag := { d.dbg.jtag with halted := maskOfList (onesOf 33 d.dbg.jtag.halted ++ [h]) } } }
  if h < 32 && ((d.cas h).wait == .custom || (d.cas h).wait == .recv) then
    d.updCas h (fun k => { k with wait := .none, judged := true })
  else d

/-- TRIGn_MODE of DBG_CTRL. -/
def Dev.trigMode (d : Dev) (n : Nat) : Nat := d.fldAt 0xC0000 (1 + 2 * n) 2

/-- A latch point hits: its actions (R495, R579). -/
def Dev.latchHit (d : Dev) (h i : Nat) (p : LatchPoint) (pc : Word) : Dev :=
  let d := if bitOf p.actions 0 then d.haltHart h else d
  let d := if bitOf p.actions 2 && d.trigMode 0 == 3 then { d with dbg := { d.dbg with trig0Pulses := d.dbg.trig0Pulses + 1 } } else d
  let d := if bitOf p.actions 3 && d.trigMode 1 == 3 then { d with dbg := { d.dbg with trig1Pulses := d.dbg.trig1Pulses + 1 } } else d
  let d := if bitOf p.actions 4 then d.trace 32 5 (leBytes 1 h ++ leBytes 1 i ++ leBytes 4 pc.toNat) else d
  if bitOf p.actions 1 then d.boltNow 4 h else d

/-- Point `i` of hart `h` meets one match: it counts, and hits at its COUNT-th (R495, R507). -/
def Dev.latchPoint (d : Dev) (h i : Nat) (pc : Word) (cond : LatchPoint → Bool) : Dev :=
  match d.dbg.points.find? (fun e => e.1 == 4 * h + i) with
  | none => d
  | some (k, p) =>
    if !p.armed || !cond p then d
    else
      let put := fun (d : Dev) (q : LatchPoint) =>
        { d with dbg := { d.dbg with points := d.dbg.points.map (fun (e : Nat × LatchPoint) => if e.1 = k then (k, q) else e) } }
      if p.seen + 1 < p.count then put d { p with seen := p.seen + 1 }
      else (put d { p with seen := 0, armed := bitOf p.actions 5 }).latchHit h i p pc

/-- The latch points of a hart see an event; a match while the core is already halted is not counted (R495, R507). -/
def Dev.latchEvent (d : Dev) (h : Nat) (pc : Word) (cond : LatchPoint → Bool) : Dev :=
  if d.hartHalted h then d else [0, 1, 2, 3].foldl (fun d i => d.latchPoint h i pc cond) d

/-- A data address within VALUE under MASK, for MATCH 2 LOAD and 3 STORE (R495). -/
def dataMatch (mtch a : Nat) (p : LatchPoint) : Bool :=
  p.mtch == mtch && (BitVec.ofNat 32 a) &&& p.mask == p.value &&& p.mask

/-- The instruction address equals VALUE under MASK (R495). -/
def execMatch (pc : Word) (p : LatchPoint) : Bool := p.mtch == 1 && pc &&& p.mask == p.value &&& p.mask

/-- A ticket issued to a slot with a step, as hart 32's latch points see it (R495, R579). -/
def stepMatch (slot step : Nat) (p : LatchPoint) : Bool := p.mtch == 5 && wfld p.value 16 4 == slot && p.step.toNat == step

/-! ### Tensor dumps (R497, R498) -/

/-- A dump ends with a status and no data. -/
def Dev.endDump (d : Dev) (x : Dump) (st : Byte) : Dev := { d with dbg := { d.dbg with dumps := d.dbg.dumps.erase x } }.refuse x.cmd st

/-- End the dumps that satisfy `p`. -/
def Dev.endDumps (d : Dev) (p : Dump → Bool) (st : Byte) : Dev := (d.dbg.dumps.filter p).foldl (fun d x => d.endDump x st) d

/-- The header of a dump's reply (R498). -/
def Dev.dumpHeader (d : Dev) (x : Dump) (ticket path : Nat) : List Byte :=
  leBytes 2 x.symbol ++ leBytes 1 ticket ++ leBytes 1 path ++ leBytes 4 x.step ++ leBytes 8 d.now

/-- An event of a ticket at a casement's place: an armed dump captures its occurrence (R498). -/
def Dev.dumpEvent (d : Dev) (slot step ticket kind casement place path : Nat) (data : List Byte) : Dev :=
  (d.dbg.dumps.filter (fun x => x.slot == slot && x.step == step && x.kind == kind && x.casement == casement && x.place == place)).foldl
    (fun d x =>
      if x.seen < x.occurrence then
        { d with dbg := { d.dbg with dumps := d.dbg.dumps.map (fun y => if y = x then { x with seen := x.seen + 1 } else y) } }
      else
        { d with dbg := { d.dbg with dumps := d.dbg.dumps.erase x } }.reply x.cmd stOk
          (d.dumpHeader x ticket path ++ padTo x.length data)) d

end Sys2Proof.Machine
end

