-- ==== Sys2Proof/Machine/AuditCalc.lean ====
section
/-! DEFINITION. Pane images, audit records and the audit tests (03_programming_and_audit.md R61 to R63, R73 to R79, R83),
as functions of bytes and of the codes that the pane yields. -/
namespace Sys2Proof.Machine

/-! ### Pane images -/

/-- K_POS and K_NEG of a crossing of an image (R62). -/
def imageCell (img : List Byte) (r c : Nat) : Nat × Nat :=
  (uAt img (0x20 + (r * 520 + c) * 2) 1, uAt img (0x21 + (r * 520 + c) * 2) 1)

/-- The weight code of a crossing of an image (R61). -/
def imageWeight (img : List Byte) (r c : Nat) : Int :=
  ((imageCell img r c).1 : Int) - ((imageCell img r c).2 : Int)

/-- Both cells at minimum. -/
def imageZero (img : List Byte) (r c : Nat) : Bool := imageCell img r c == (0, 0)

/-- The weights an auxiliary row must have on a column (R34, R38), with `act` active data columns; none: set freely. -/
def auxRow (k act c : Nat) : Option Int :=
  if c < 512 then
    if act ≤ c then some 0
    else if k = 0 ∨ k = 1 then none
    else if k = 2 then some (if c % 2 = 0 then 127 else -127)
    else if k = 3 then some (if c % 2 = 0 then -127 else 127)
    else if k = 5 then some 32
    else some 0
  else if 514 ≤ c then (if k = 5 then some 32 else some 0)
  else if k ≤ 3 then none else some 0

/-- The weight a data row must have on a column (R36, R38); none: set freely or a checksum. -/
def dataRow (act c : Nat) : Option Int :=
  if c < 512 then (if act ≤ c then some 0 else none)
  else if c = 514 then some 0 else if c = 515 then some 127 else if c = 516 then some (-127)
  else if c = 517 then some 64 else none

/-- The checksum weights of a row follow R35 with the image's exponents. -/
def rowChecksums (img : List Byte) (ks ki r : Nat) : Bool :=
  let ws := (List.range 512).map (imageWeight img r)
  let s := sumI ws
  let i := sumI ((List.range 512).zipWith (fun j w => ((j + 1 : Nat) : Int) * w) ws)
  imageWeight img r 512 == roundAway ((s : Rat) / ((2 ^ ks : Nat) : Rat))
    && imageWeight img r 513 == roundAway ((i : Rat) / ((2 ^ ki : Nat) : Rat))

/-- A row's fixed weights. -/
def rowFixed (img : List Byte) (act r : Nat) : Bool :=
  (List.range 520).all (fun c =>
    match (if r < 512 then dataRow act c else auxRow (r - 512) act c) with
    | some w => imageWeight img r c == w
    | none => true)

/-- Validation of a pane image of 540,832 bytes (R63). -/
def imageValid (img : List Byte) : Bool :=
  let ks := uAt img 0x08 1
  let ki := uAt img 0x09 1
  let act := (uAt img 0x0A 1 + 1) * 32
  img.length == 540832 && uAt img 0 2 == 0x4950 && uAt img 2 1 == 1 && uAt img 3 1 == 0
    && uAt img 0x0C 2 == 520 && uAt img 0x0E 2 == 520 && uAt img 0x0B 1 == 0 && allZero (bytesAt img 0x10 12)
    && uAt img 0x04 2 != 0 && uAt img 0x1C 4 == crc32 (img.drop 0x20)
    && (img.drop 0x20).all (fun b => b.toNat < 128)
    && (2 ≤ ks && ks ≤ 9) && (10 ≤ ki && ki ≤ 18) && uAt img 0x0A 1 ≤ 15
    && (List.range 520).all (rowFixed img act)
    && [516, 518, 519].all (fun r => (List.range 520).all (imageZero img r))
    && (List.range 516).all (rowChecksums img ks ki)

/-! ### Audit records (R73, R74) -/

/-- Expectation `k` of vector `v`: none when not checked. -/
def expectation (rec : List Byte) (v k : Nat) : Option Int :=
  let e := uAt rec (0x18 + v * 8 + k) 1
  if e = 0x80 then none else some (sxt 8 e)

/-- The column of expectation `k` of vector `v` (R73). -/
def expCol (rec : List Byte) (v k : Nat) : Nat :=
  if k = 0 then 512 else if k = 1 then 513 else if k = 2 then 518 else if k = 3 then 519
  else (uAt rec 0x14 2 + v + 128 * (k - 4)) % 512

/-- PANE of a record. -/
def recPane (rec : List Byte) : Nat := uAt rec 3 1

/-- Active data columns by a record's COL_GROUPS. -/
def recAct (rec : List Byte) : Nat := (uAt rec 0x0D 1 + 1) * 32

/-- Format, range and CRC checks of a 256-byte record (R73, R74). -/
def recordValid (rec : List Byte) : Bool :=
  rec.length == 256 && uAt rec 0 2 == 0x4E41 && uAt rec 2 1 == 1 && recPane rec ≤ 127 && uAt rec 4 2 != 0
    && (4 ≤ uAt rec 8 1 && uAt rec 8 1 ≤ 15) && (2 ≤ uAt rec 9 1 && uAt rec 9 1 ≤ 9)
    && (10 ≤ uAt rec 0x0A 1 && uAt rec 0x0A 1 ≤ 18) && (1 ≤ uAt rec 0x0B 1 && uAt rec 0x0B 1 ≤ 127)
    && (uAt rec 0x0B 1 ≤ uAt rec 0x0C 1 && uAt rec 0x0C 1 ≤ 127) && uAt rec 0x0D 1 ≤ 15 && uAt rec 0x0E 2 ≥ 1
    && uAt rec 0x10 4 != 0 && uAt rec 0x14 2 ≤ 511 && uAt rec 0x16 2 == 0 && uAt rec 0xF8 4 == 0
    && uAt rec 0xFC 4 == crc32 (rec.take 0xFC)
    && (List.range 28).all (fun v => (List.range 8).all (fun k =>
        k < 4 || expCol rec v k < recAct rec || (expectation rec v k).isNone))

/-! ### Audit vectors (R75, R76) -/

/-- One step of the xorshift generator. -/
def xorshift (x : Word) : Word :=
  let x := x ^^^ (x <<< 13)
  let x := x ^^^ (x >>> 17)
  x ^^^ (x <<< 5)

/-- `n` inputs from a generator state, and the state after. -/
def xsVector : Nat → Word → List Int × Word
  | 0, x => ([], x)
  | n + 1, x =>
    let x := xorshift x
    let (l, y) := xsVector n x
    (((wfld x 24 8 : Nat) : Int) :: l, y)

/-- The inputs of vectors 0 to 27 in order (R75). -/
def xsVectors : Nat → Word → List (List Int)
  | 0, _ => []
  | n + 1, x =>
    let (l, y) := xsVector 512 x
    l :: xsVectors n y

/-- Auxiliary drives of vector `v` below 28 (R75): AUX0 and AUX1 with BIAS_IN, AUX2 on even and AUX3 on odd vectors. -/
def auditAux (v : Nat) : List Int := [255, 255, if v % 2 = 0 then 255 else 0, if v % 2 = 0 then 0 else 255, 0, 0, 0, 0]

/-- What an audit captures: codes and OVR bits of vectors 0 to 27, averages and OVR of vectors 28 to 31, inputs. -/
structure Capture where
  inputs : List (List Int)
  codes : List (List (Int × Bool))
  avg : List (List Rat)
  avgOvr : List (List Bool)

/-- The average code and the OVR of 16 runs of one vector, draws from `n` on (R76). -/
def averageRuns (n p shift : Nat) (act : Nat → Bool) (ds : List Int) : List (Rat × Bool) :=
  let runs := (List.range 16).map (fun k => convertAll (n + k) p shift act ds)
  (List.range 520).map (fun j =>
    let ys := runs.map (fun r => nthD r j ((0 : Int), false))
    ((sumI (ys.map (fun y => y.1)) : Rat) / 16, ys.any (fun y => y.2)))

/-- The test vectors 28 to 31 of a pane (R76), draws from `n` on. -/
def testRuns (n p : Nat) (cells : Tab (Nat × Nat)) (act : Nat → Bool) : List (List (Rat × Bool)) :=
  let aux := fun (k : Nat) => dots cells (drives [] ((List.range 8).map (fun i => if i = k then (255 : Int) else 0)))
  [averageRuns n p 7 act (aux 2), averageRuns (n + 16) p 7 act (aux 3), averageRuns (n + 32) p 5 act (aux 5),
   averageRuns (n + 48) p 4 act (List.replicate 520 0)]

/-- The whole capture of an audit: 92 draws from `n` on. -/
def capture (n p : Nat) (cells : Tab (Nat × Nat)) (rec : List Byte) : Capture :=
  let act := fun j => j < recAct rec || 512 ≤ j
  let xs := xsVectors 28 (BitVec.ofNat 32 (uAt rec 0x10 4))
  let codes := (List.range 28).zipWith (fun v x =>
    convertAll (n + v) p (uAt rec 8 1) act (dots cells (drives x (auditAux v)))) xs
  let t := testRuns (n + 28) p cells act
  { inputs := xs, codes := codes, avg := t.map (fun l => l.map (fun e => e.1)), avgOvr := t.map (fun l => l.map (fun e => e.2)) }

/-- Draws that an audit takes. -/
def auditDraws : Nat := 92

/-- Mean code of vector `v` (28 to 31) on a column. -/
def Capture.mean (c : Capture) (v j : Nat) : Rat := nthD (nthD c.avg (v - 28) []) j 0

/-- The measured gain of a column (R76): data columns from vectors 28 and 29, reference columns from vector 30 with its
ideal code +255 (DEDUCED), checksum columns 1. -/
def Capture.gain (c : Capture) (j : Nat) : Rat :=
  if j < 512 then (c.mean 28 j - c.mean 29 j) / (if j % 2 = 0 then 506 else -506)
  else if j < 514 then 1
  else (c.mean 30 j - c.mean 31 j) / 255

/-- The measured offset of a column (R76). -/
def Capture.offset (c : Capture) (j : Nat) : Rat := c.mean 31 j

/-- An audit's outcome: PASS, CORRECTED, or FAIL with reason, vector and column (PANE_AUDIT_RES). -/
inductive AuditOut where
  | pass
  | corrected
  | fail (reason vector column : Nat)
  deriving DecidableEq, Repr

/-- The columns an audit looks at, ascending. -/
def auditCols (act : Nat) : List Nat := (List.range 520).filter (fun j => j < act || 512 ≤ j)

/-- Step 2: the first vector and column with OVR (R78). -/
def Capture.ovrAt (c : Capture) (act : Nat) : Option (Nat × Nat) :=
  ((List.range 32).map (fun v =>
    ((auditCols act).find? (fun j =>
      if v < 28 then (nthD (nthD c.codes v []) j ((0 : Int), false)).2 else nthD (nthD c.avgOvr (v - 28) []) j false)).map
        (fun j => (v, j)))).findSome? id

/-- One deviation test of step 5 on vector `v`: the columns with their ideal values (R73, R78). -/
def stepTests (rec : List Byte) (v : Nat) (x : List Int) : List (Nat × Rat) :=
  ((List.range 8).filterMap (fun k => (expectation rec v k).map (fun e => (expCol rec v k, (e : Rat)))))
    ++ (List.range 4).map (fun k =>
        (514 + k, ((refWeight k * sumI x : Int) : Rat) / ((2 ^ uAt rec 8 1 : Nat) : Rat)))

/-- The first test of vectors 0 to 27 whose value `val v col` lies beyond `tol` of its ideal, or whose residual lies
beyond TAU_AUDIT: reason, vector, column (R78). -/
def stepFail (rec : List Byte) (c : Capture) (tol : Nat) (residual : Bool) (val : Nat → Nat → Rat) :
    Option (Nat × Nat × Nat) :=
  ((List.range 28).map (fun v =>
    match (stepTests rec v (nthD c.inputs v [])).find? (fun t => absR (val v t.1 - t.2) > (tol : Rat)) with
    | some t => some (5, v, t.1)
    | none =>
      let rs := ((List.range (recAct rec)).foldl (fun a j => a + val v j) 0) - ((2 ^ uAt rec 9 1 : Nat) : Rat) * val v 512
      if residual && absR rs > (uAt rec 0x0E 2 : Rat) then some (6, v, 512) else none)).findSome? id

/-- The audit tests of R78, from the jamb tag, the record and the capture. -/
def auditOutcome (tag : Option Nat) (rec : List Byte) (c : Capture) : AuditOut :=
  let act := recAct rec
  let raw := fun v j => (((nthD (nthD c.codes v []) j ((0 : Int), false)).1 : Int) : Rat)
  let cor := fun v j => (raw v j - c.offset j) / (if c.gain j = 0 then 1 else c.gain j)
  let gainCol := (auditCols act).find? (fun j => j != 512 && j != 513 && absR (c.gain j - 1) > 8 / 100)
  let offCol := (auditCols act).find? (fun j => absR (c.offset j) > 16)
  if tag ≠ some (uAt rec 4 2) then .fail 1 0 0
  else
    match c.ovrAt act, gainCol, offCol with
    | some (v, j), _, _ => .fail 2 v j
    | none, some j, _ => .fail 3 (if j < 512 then 28 else 30) j
    | none, none, some j => .fail 4 31 j
    | none, none, none =>
      match stepFail rec c (uAt rec 0x0B 1) true raw with
      | none => .pass
      | some _ =>
        match stepFail rec c (uAt rec 0x0C 1) false raw with
        | some (_, v, j) => .fail 5 v j
        | none =>
          match stepFail rec c (uAt rec 0x0B 1) true cor with
          | none => .corrected
          | some (r, v, j) => .fail r v j

/-- PANE_AUDIT_RES of an outcome. -/
def AuditOut.word : AuditOut → Nat
  | .pass => 1
  | .corrected => 2
  | .fail r v j => 3 + r * 16 + v * 256 + j * 65536

/-- Seeding of the ledger from an audit (R76, R79, R101, R112), with A0 from vectors 0 to 27. -/
def seedLedger (rec : List Byte) (c : Capture) (temp : Int) (now : Nat) : Ledger :=
  let cols := (List.range 520).map (fun j =>
    let act := j < recAct rec || 512 ≤ j
    let c0 := (c.mean 30 j - c.mean 31 j) / 255
    ({ g0 := if act then c.gain j else 1, c0 := if act then c0 else 1, c := if act then c0 else 1,
       o := if act then c.offset j else 0, temp := temp, at_ := now, stale := false, calOvr := 0 } : LedgerCol))
  let l : Ledger := { cols := cols, a0 := 0, h := 1, spread := 0, updates := 0, n := 0, acc := zeroTerms, arrayTemp := temp,
                      arrayStale := false, refreshDue := false, limit := false, cause := 0 }
  let terms := (List.range 28).filterMap (fun v =>
    arrayTerm (uAt rec 8 1) (sumI (nthD c.inputs v [])) ((nthD c.codes v []).map (fun y => y.1))
      (fun j => (nthD (nthD c.codes v []) j ((0 : Int), false)).2))
  if terms.isEmpty then l else { l with a0 := meanR (l.arrayAs (terms.foldl addTerms zeroTerms)) }

/-! ### Self-test (R83) -/

/-- The self-test's verdict: corrected gain within 1 % and offset within 0.5 LSB on every active column, and leakage
within 2 LSB; 65 draws from `n` on. The leakage product is judged on corrected values of the active columns: R83 says
neither (DESIGN CHOICE, log entry 199). -/
def selftestPass (n p : Nat) (cells : Tab (Nat × Nat)) (cfg : Word) (l : Ledger) : Bool :=
  let t := testRuns n p cells (colActive cfg)
  let c : Capture := { inputs := [], codes := [], avg := t.map (fun l => l.map (fun e => e.1)), avgOvr := [] }
  let leak := convertAll (n + 64) p 4 (colActive cfg)
    (dots cells (drives [] ((List.range 8).map (fun i => if i = 4 then (255 : Int) else 0))))
  (auditCols (activeCols cfg)).all (fun j =>
    match l.cols[j]? with
    | none => false
    | some e =>
      let g := if e.gain l.h j = 0 then 1 else e.gain l.h j
      (j == 512 || j == 513 || absR (c.gain j / g - 1) ≤ 1 / 100) && absR ((c.offset j - e.o) / g) ≤ 1 / 2
        && absR (((((nthD leak j ((0 : Int), false)).1 : Int) : Rat) - e.o) / g) ≤ 2)

end Sys2Proof.Machine
end

