-- ==== Sys2Proof/Machine/SurveyBase.lean ====
section
/-! DEFINITION. The survey converter's scheduling (11_survey.md R295 to R307, R313): what starts a conversion, the sequence,
and urgent requests. -/
namespace Sys2Proof.Machine

/-- SVY_CTRL and SVY_STATUS. -/
def aSvyCtrl : Nat := 0x40000
def aSvyStatus : Nat := 0x40004

/-- The mains frequency asked for is 60 Hz (R296). -/
def Dev.wants60 (d : Dev) : Bool :=
  match d.fldAt aSvyCtrl 2 2 with
  | 0 => bitOf d.rst.straps 3
  | 2 => true
  | _ => false

/-- Periods of VCLK in an integration (R295). -/
def svyPeriods (period : Nat) (hz60 : Bool) : Nat :=
  match period, hz60 with
  | 0, false => 64000
  | 0, true => 53333
  | 1, false => 8000
  | 1, true => 6667
  | _, false => 128000
  | _, true => 106666

/-- The pre-delay of the entry in progress, in 10 microseconds (R301). -/
def SurveyState.preDelay (v : SurveyState) : Nat := match v.latched with | some w => wfld w 10 10 | none => 0

/-- TAINT of a conversion that starts now (R313); `entry` is 48 for an urgent or single conversion. -/
def SurveyState.taints (v : SurveyState) (what : ConvFor) (ch entry : Nat) : Bool :=
  match what, v.last with
  | .cal, _ => false
  | _, none => false
  | w, some (e, c, ovr) => ovr && !(w == .seq && v.preDelay ≥ 10) && (if e = 48 then c != ch else e != entry)

/-- A conversion starts its reset (R295): a changed MAINS or power mode takes effect and sets UNCAL (R296, R309, R311),
and makes a calibration in progress one of mixed settings (R321). -/
def Dev.convStart (d : Dev) (what : ConvFor) (ch period entry : Nat) : Dev :=
  let v := d.svy
  let hz := d.wants60
  let lp := d.bitAt aSvyCtrl 4
  let mains := d.fldAt aSvyCtrl 2 2
  let changed := mains != v.mains || lp != v.lowpwr
  let uncal := v.uncal || changed
  let first := v.summed == 0
  let no := v.convNo + 1
  { d with svy := { v with
      conv := some { what := what, ch := ch, period := period, uncal := uncal, start := d.now, taint := v.taints what ch entry,
                     no := no }
      predelay := false, hz60 := hz, mains := mains, lowpwr := lp, uncal := uncal, convNo := no
      sumUncal := if what == .seq && first then uncal else v.sumUncal
      sumStart := if what == .seq && first then d.now else v.sumStart
      sumNo := if what == .seq && first then no else v.sumNo
      cal := v.cal.map (fun c => (c.1, c.2.1, c.2.2.1, c.2.2.2.1, c.2.2.2.2 || (changed && c.2.1 != 0))) } }

/-- SVY_SEQLEN.LENGTH. -/
def Dev.seqLen (d : Dev) : Nat := d.fldAt 0x40008 0 6

/-- The running result is back at its first conversion (R301, R307). -/
def Dev.svyRerun (d : Dev) : Dev :=
  { d with svy := { d.svy with summed := 0, sum := 0, sumOvr := false, sumTaint := false } }

/-- The entry in progress begins its pre-delay, at its start or when it resumes (R301, R307). -/
def Dev.enterDelay (d : Dev) : Dev :=
  match d.svy.latched with
  | none => d
  | some w =>
    if wfld w 10 10 = 0 then d.convStart .seq (wfld w 0 6) (wfld w 29 2) d.svy.entry
    else { d with svy.predelay := true }

/-- The first entry of the list that is not skipped starts, its fields latched (R301, R302); the mark says that the entry
opens a new pass. -/
def Dev.takeEntry : List (Nat × Bool) → Dev → Dev
  | [], d => { d with svy := { d.svy with latched := none, entry := 0 } }
  | (e, wrap) :: l, d =>
    let d := if wrap then { d with svy.passes := (d.svy.passes + 1) % 65536 } else d
    let w := d.reg (0x40100 + 4 * e)
    if wfld w 0 6 ≥ 48 then Dev.takeEntry l (d.setFld aSvyStatus 5 1 1)
    else ({ d with svy := { d.svy with entry := e, latched := some w, results := 0 } }).svyRerun.enterDelay

/-- Entries in the order in which they come from entry `p`; the return to entry 0 completes a pass (R302, R303). -/
def seqFrom (p len : Nat) : List (Nat × Bool) :=
  ((List.range len).drop p).map (fun e => (e, false)) ++ ((List.range len).take p).map (fun e => (e, e == 0))

/-- With no conversion or pre-delay running, the next work starts (R302, R304, R307, R310, R317): calibration, then urgent
requests, then the interrupted or next sequence or single work. -/
def Dev.svyPump (d : Dev) : Dev :=
  if !d.isOpen 2 || d.svy.conv.isSome || d.svy.predelay then d
  else if d.svy.cal.isSome then d.convStart .cal 47 0 48
  else
    match d.svy.urgents with
    | u :: rest => { d with svy := { d.svy with serving := some u, urgents := rest } }.convStart .urgent u.ch 0 48
    | [] =>
      let mode := d.fldAt aSvyCtrl 0 2
      if mode = 2 then
        (if d.svy.single then d.convStart .single (d.fldAt aSvyCtrl 8 6) (d.fldAt aSvyCtrl 14 2) 48 else d)
      else if mode = 1 then
        (if d.svy.latched.isSome then d.enterDelay else d.takeEntry (seqFrom d.svy.entry d.seqLen))
      else d

/-- The running sequence or single work is abandoned, its partial result discarded; urgent and calibration work is not
(R305, R307). -/
def Dev.svyAbandon (d : Dev) : Dev :=
  let keep : Bool := match d.svy.conv with | some c => c.what == .urgent || c.what == .cal | none => false
  if keep then d
  else { d with svy := { d.svy with conv := none, predelay := false } }.svyRerun

/-- A conversion of the sequence has begun on this tick: the one before it completed on it (R314). -/
def Dev.convFresh (d : Dev) : Bool :=
  match d.svy.conv with | some c => c.what == .seq && c.start == d.now | none => false

/-- An urgent request joins the queue, or is merged with one of its channel that waits (R306). -/
def addUrgent (l : List Urgent) (ch : Nat) (cmds : List Cmd) : List Urgent :=
  if l.any (fun u => u.ch == ch) then l.map (fun u => if u.ch = ch then { u with cmds := u.cmds ++ cmds } else u)
  else l ++ [{ ch := ch, cmds := cmds }]

/-- An urgent request (R306, R307, R316): with no urgent conversion or calibration running, the running work is abandoned and
the urgent conversion starts. A conversion that ended on this tick counts, and its averaging goes on from the following one
(R314). -/
def Dev.urgentRequest (d : Dev) (ch : Nat) (cmds : List Cmd) : Dev :=
  let d := { d with svy.urgents := addUrgent d.svy.urgents ch cmds }
  (if d.convFresh then { d with svy.conv := none } else d.svyAbandon).svyPump

end Sys2Proof.Machine
end

