-- ==== Sys2Proof/Machine/Panes.lean ====
section
/-! DEFINITION. Products on panes (02_panes.md R42 to R60) and the drift ledger's events (04_drift_ledger.md). -/
namespace Sys2Proof.Machine

/-! ### Quadrant temperature (R106) -/

/-- Survey channel of a quadrant's temperature. -/
def tempChan (q : Nat) : Nat := 40 + (q - 6)

/-- The latest temperature of a quadrant that the ledger has read, in whole degrees, and when: it stays while FRONT is
shuttered (R106, R108). -/
def Dev.quadTemp (d : Dev) (q : Nat) : Option (Int × Nat) := (d.pctl.temps.find? (fun e => e.1 == q)).map (·.2)

/-- The temperature in whole degrees, 0 before the first reading. -/
def Dev.tempNow (d : Dev) (q : Nat) : Int := match d.quadTemp q with | some (t, _) => t | none => 0

/-- With no result newer than 1 s, the ledger asks for its quadrant's temperature (R106). -/
def Dev.wantTemp (d : Dev) (q : Nat) : Dev :=
  let fresh := match d.quadTemp q with | some (_, t) => d.now < t + 800000000 | none => false
  if fresh || !d.isOpen 2 then d else d.urgentRequest (tempChan q) []

/-- Temperatures more than 4 degrees apart (R107). -/
def tempApart (t u : Int) : Bool := t - u > 4 || u - t > 4

/-- A new temperature of the quadrant makes the pane's entries and array factor stale that were last updated more than 4
degrees from it, and a stale entry schedules a pair (R107). -/
def Pane.atTemp (v : Pane) (t : Int) : Pane :=
  match v.ledger with
  | none => v
  | some l =>
    let hit := l.cols.any (fun e => tempApart t e.temp)
    { v with
      ledger := some { l with
        cols := l.cols.map (fun e => { e with stale := e.stale || tempApart t e.temp })
        arrayStale := l.arrayStale || tempApart t l.arrayTemp }
      calDue := v.calDue || hit }

/-- The latest temperature of a survey channel in whole degrees (R106, R213), a half rounded away from zero (DESIGN CHOICE,
log entry 193). -/
def Dev.degrees (d : Dev) (ch : Nat) : Int := roundAway (((sxt 22 (d.fldAt (0x40300 + ch * 8) 0 22) : Int) : Rat) / 8192)

/-- The ledger reads the temperature that the survey converter has written for a quadrant (R106): channels 40 to 43. -/
def Dev.readTemp (d : Dev) (ch : Nat) : Dev :=
  if ch < 40 ∨ ch > 43 then d
  else
    let q := ch - 34
    let t := d.degrees ch
    let d := { d with pctl.temps := d.pctl.temps.filter (fun e => e.1 != q) ++ [(q, (t, d.now))] }
    (panesOfQuad q).foldl (fun d p => d.updPane p (fun v => v.atTemp t)) d

/-! ### Delivery of results (R42, R130, R131) -/

/-- A result reaches its casement's result buffer; one no longer awaited is discarded (R131). -/
def Dev.deliver (d : Dev) (c id : Nat) (r : ProdResult) : Dev :=
  d.updCas c (fun k => { k with fires := k.fires.map (fun f => if f.id = id then { f with result := some r } else f) })

/-- A product's result goes to the casement that fired it: its own buffer, or an RSP from the spare's casement under the TAG of its PANE_FWD (R142). -/
def Dev.answerProduct (d : Dev) (p : Nat) (x : Product) (r : ProdResult) : Dev :=
  if x.dest.remote then
    d.netSend { src := p / 4, dst := x.dest.casement, typ := tyRsp, len := 15, tag := x.dest.id, ticket := x.ticket,
                status := r.status, notify := false, payload := r.bytes ++ [r.flagByte] }
  else d.deliver x.dest.casement x.dest.id r

/-! ### Products (R46, R52) -/

/-- The entries in force on a pane (R104); none without a ledger. -/
def Pane.corr (v : Pane) : List (Nat × Int) := match v.ledger with | some l => l.stored | none => []

/-- The refusal that a pane's state gives a product (R46). -/
def Pane.refusal (v : Pane) : Option Byte :=
  match v.st with
  | .trusted | .selftest => none
  | .unverified | .auditing => some stPaneUnverified
  | .suspect | .retired => some stPaneSuspect
  | .programming => some stBusy
  | .shuttered => some stPartnerGone

/-- The ledger takes a ticket product's contribution to the array factor (R99, R101); a pane in SELFTEST makes none
(R114). -/
def Pane.contribute (v : Pane) (shift : Nat) (s : Int) (y : List Int) (ovr : Nat → Bool) : Pane :=
  match v.ledger with
  | some l =>
    if v.st = .selftest then v
    else
      match arrayTerm shift s y ovr with
      | some t => { v with ledger := some { l with n := l.n + 1, acc := addTerms l.acc t } }
      | none => v
  | none => v

/-- The registers of a completed ticket product: counters, events, residuals and location (R37, R48, R49). Where the location
is not valid COLUMN reads 0, and an r_idx beyond the 28 bits of RIDX keeps its low 28 bits, since the spec says neither
(DESIGN CHOICE, log entries 194 and 195). -/
def Dev.productRegs (d : Dev) (p : Nat) (r : ProdResult) : Dev :=
  let d := d.setReg (aPane p 0x20) (d.reg (aPane p 0x20) + 1)
  let d := if r.ovr then (d.setFld (aPane p 0x18) 0 1 1).satFld (aPane p 0x1C) 0 16 else d
  let d := if r.ckSkip then d.setFld (aPane p 0x18) 1 1 1 else d
  let d := if r.refOvr then d.setFld (aPane p 0x18) 2 1 1 else d
  if r.ckSkip then d
  else
    let d := d.setReg (aPane p 0x0C) (BitVec.ofNat 32 (tc 32 (sxt 20 (tc 20 r.rsum))))
    let d := d.setReg (aPane p 0x10) (BitVec.ofNat 32 (tc 32 (sxt 28 (tc 28 r.ridx))))
    d.setReg (aPane p 0x14) (match r.loc with | some c => BitVec.ofNat 32 (c + 32768) | none => 0)

/-- The raw codes and OVR bits of a ticket product (R45), draw `n`. -/
def productCodes (n p : Nat) (cells : Tab (Nat × Nat)) (cfg : Word) (x : List Int) : List (Int × Bool) :=
  convertAll n p (cfgShift cfg) (colActive cfg) (dots cells (drives (x.map (pulse cfg)) (biasAux cfg)))

/-- The result of a ticket product (R37, R48 to R50, R103). -/
def productResult (cfg : Word) (ck : Word) (bypass : Bool) (corr : List (Nat × Int)) (yo : List (Int × Bool)) : ProdResult :=
  let y := yo.map (·.1)
  let act := activeCols cfg
  let ovr := (yo.take act).any (·.2) || (nthD yo 512 (0, false)).2 || (nthD yo 513 (0, false)).2
  let ref := (yo.drop 514).any (·.2)
  let skip := ovr || !wbit cfg 5
  let rs := rSum (wfld ck 0 4) act y
  let ri := rIdx (wfld ck 8 5) act y
  { codes := correctAll bypass corr y, rsum := if skip then 0 else rs, ridx := if skip then 0 else ri,
    loc := if skip then none else located rs ri, status := stOk, ovr := ovr, ckSkip := skip, refOvr := ref }

/-- PRODUCT_COMPLETE: the oldest running product of the pane reaches its result buffer (R42, R43). -/
def Dev.productComplete (d : Dev) (p : Nat) : Dev :=
  let v := d.pane p
  match v.running with
  | [] => d
  | x :: rest =>
    let cfg := x.cfg.getD (d.reg (aPane p 0x00))
    let (n, d) := d.draw
    let yo := productCodes n p v.cells cfg x.x
    let r := productResult cfg (d.reg (aPane p 0x08)) x.bypass x.corr yo
    let v : Pane := { v with running := rest }
    let v := v.contribute (cfgShift cfg) (sumI (x.x.map (pulse cfg))) (yo.map (fun z => z.1))
      (fun j => (nthD yo j (0, false)).2)
    ((d.setPane p v).productRegs p r).answerProduct p x r

/-! ### The ledger's thresholds (R109 to R111) -/

/-- The ledger checks a pane against its thresholds (R109): at a refresh threshold REFRESH_DUE is set once, noted and
logged (R110); at a limit the pane becomes SUSPECT (R111). R81 names the refresh threshold for that change, and R110 keeps
the pane TRUSTED there: the model follows R110 and R111 (DESIGN CHOICE, log entry 196). -/
def Dev.ledgerCheck (d : Dev) (p : Nat) : Dev :=
  match (d.pane p).ledger with
  | none => d
  | some l =>
    let cfg := d.reg (aPane p 0x3C)
    let act := activeCols (d.reg (aPane p 0x00))
    let lim := ledgerCause act l (8 / 100) 16 (30 / 1000) true
    let rfr := ledgerCause act l (refreshGain cfg) (refreshOffset cfg) (15 / 1000) false
    let d := match rfr with
      | some c =>
        if l.refreshDue then d
        else
          let d := d.updPane p (fun v => { v with ledger := some { l with refreshDue := true, cause := c } })
          (d.noteState 3 p c).faultLog 3 p c 0
      | none => d
    match lim, (d.pane p).ledger with
    | some c, some l =>
      if l.limit then d
      else
        let d := d.updPane p (fun v => { v with ledger := some { l with limit := true, cause := c } })
        if (d.pane p).st = .trusted then d.makeSuspect p 2 none 0 else d
    | _, _ => d

/-! ### Calibration pairs (R97 to R100) -/

/-- The drives of a product of auxiliary rows only. -/
def auxDrives (k : Nat) : List Int :=
  drives [] ((List.range 8).map (fun i => if i = k then 255 else 0))

/-- Codes of a CAL product (R97). -/
def calCodes (n p : Nat) (cells : Tab (Nat × Nat)) (cfg : Word) : List (Int × Bool) :=
  convertAll n p 5 (colActive cfg) (dots cells (auxDrives 5))

/-- Codes of a ZERO product (R97). -/
def zeroCodes (n p : Nat) (cfg : Word) : List (Int × Bool) :=
  convertAll n p 4 (colActive cfg) (List.replicate 520 0)

/-- A calibration pair runs: every active column is updated (R100). -/
def Dev.pairUpdate (d : Dev) (p : Nat) : Dev :=
  let v := d.pane p
  match v.ledger with
  | none => d
  | some l =>
    let (n1, d) := d.draw
    let (n2, d) := d.draw
    let cfg := d.reg (aPane p 0x00)
    let cal := calCodes n1 p v.cells cfg
    let zer := zeroCodes n2 p cfg
    let d := d.wantTemp (quadOfPane p)
    let t := d.tempNow (quadOfPane p)
    let cols := (List.range l.cols.length).zipWith (fun j e =>
      if colActive cfg j then e.pair j (nthD cal j (0, false)) (nthD zer j (0, false)) t d.now else e) l.cols
    d.setPane p { v with ledger := some { l with cols := cols }, calDue := false, calFirst := false }

/-- A calibration pair with the check that follows it (R100, R109). -/
def Dev.calPair (d : Dev) (p : Nat) : Dev := if (d.pane p).ledger.isSome then (d.pairUpdate p).ledgerCheck p else d

/-- PRODUCT_START: the oldest queued product's first row pulse would begin (R46, R52, R54). Its inputs are in the row drivers
and stay there, whether it runs or is refused (R59). A pane that kept its entries through a DOZE runs one calibration pair
first (R113). -/
def Dev.productStart (d : Dev) (p : Nat) : Dev :=
  let d := if (d.pane p).calFirst && (d.pane p).st == .trusted && !(d.pane p).queue.isEmpty then d.calPair p else d
  let v := d.pane p
  match v.queue with
  | [] => d
  | x :: rest =>
    let v : Pane := { v with drivers := x.x }
    match v.refusal with
    | some st =>
      let d := d.setPane p { v with queue := rest }
      let d := if st = stPartnerGone then d else d.setFld (aPane p 0x18) 3 1 1
      d.answerProduct p x (refusedResult st)
    | none =>
      let x := { x with cfg := some (d.reg (aPane p 0x00)), corr := v.corr, bypass := d.bitAt (aPane p 0x3C) 14 }
      d.setPane p { v with queue := rest, running := v.running ++ [x] }

/-- The pane is idle: no product queued or running. -/
def Pane.idle (v : Pane) : Bool := v.queue.isEmpty && v.running.isEmpty

/-- CALIBRATION_PAIR: a scheduled pair runs in an idle pane cycle of a TRUSTED pane (R98, R114, R116). -/
def Dev.calibrationPair (d : Dev) (p : Nat) : Dev :=
  let v := d.pane p
  if v.st = .trusted && v.calDue && v.idle then d.calPair p else d

/-- CAL_INSERT: with no idle cycle, a scheduled pair is inserted at a ticket boundary (R98, R107). -/
def Dev.calInsert (d : Dev) (p : Nat) : Dev :=
  let v := d.pane p
  if v.st = .trusted && v.calDue then d.calPair p else d

/-- CAL_PERIOD_EXPIRY schedules a pair on a pane with entries (R98). -/
def Dev.calPeriodExpiry (d : Dev) (p : Nat) : Dev :=
  if (d.pane p).ledger.isSome then d.updPane p (fun v => { v with calDue := true }) else d

/-- An array update is due: after 1,024 contributions, or after 10 ms, or with a stale array factor, with at least 64
(R101, R107). -/
def Ledger.updateDue (l : Ledger) (tenMs : Bool) : Bool := l.n ≥ 1024 || ((tenMs || l.arrayStale) && l.n ≥ 64)

/-- ARRAY_UPDATE (R101), on the tick of a calibration pair's end with `withPair`: the pair's update comes first, then the
array's, then one check (R117). A pane in SELFTEST makes no update (R114). -/
def Dev.arrayUpdate (d : Dev) (p : Nat) (tenMs withPair : Bool) : Dev :=
  let v := d.pane p
  let paired := withPair && v.st = .trusted && v.calDue && v.idle && v.ledger.isSome
  let d := if paired then d.pairUpdate p else d
  match (d.pane p).ledger with
  | none => d
  | some l =>
    if v.st != .selftest && l.updateDue tenMs then
      let d := d.wantTemp (quadOfPane p)
      let t := d.tempNow (quadOfPane p)
      (d.updPane p (fun v => { v with ledger := some (l.arrayUpdate t) })).ledgerCheck p
    else if paired then d.ledgerCheck p
    else d

/-- The entry of a column has become stale (R107): by temperature, or by 10 CAL_PERIODs without an update. -/
def Dev.entryStale (d : Dev) (p : Nat) (e : LedgerCol) : Bool :=
  d.now ≥ e.at_ + 10 * calPeriod (d.reg (aPane p 0x3C))
    || (match d.quadTemp (quadOfPane p) with | some (t, _) => tempApart t e.temp | none => false)

/-- LEDGER_ENTRY_STALE: the entry is marked and a pair is scheduled (R107); the ledger asks for a temperature where it has
none newer than 1 s (R106). -/
def Dev.ledgerStale (d : Dev) (p col : Nat) : Dev :=
  match (d.pane p).ledger with
  | none => d
  | some l =>
    match l.cols[col]? with
    | none => d
    | some e =>
      if d.entryStale p e then
        let l := { l with cols := setAt l.cols col { e with stale := true } }
        (d.updPane p (fun v => { v with ledger := some l, calDue := true })).wantTemp (quadOfPane p)
      else d

/-! ### LEDGER_READ (R115) -/

/-- LEDGER_STATUS of a pane. -/
def Dev.ledgerStatus (d : Dev) (p : Nat) : Nat :=
  match (d.pane p).ledger with
  | none => 0
  | some l =>
    let noTemp := match d.quadTemp (quadOfPane p) with | some (_, t) => d.now ≥ t + 8000000000 | none => true
    1 + 2 * b2n (l.cols.any (·.stale)) + 4 * b2n (noTemp || !d.isOpen 2) + 8 * b2n l.refreshDue + 16 * b2n l.limit
      + 32 * l.cause

/-- H and SPREAD of LEDGER_H. -/
def Ledger.hWord (l : Ledger) : Nat :=
  (clampI 0 65535 (roundAway (l.h * 16384))).toNat + (clampI 0 65535 (roundAway (l.spread * 65536))).toNat * 65536

/-- An 8-byte entry of R115. -/
def Dev.ledgerEntry (d : Dev) (p j : Nat) (l : Ledger) (e : LedgerCol) : List Byte :=
  let (g, o) := e.stored l.h j
  let age := (d.now - e.at_) / 8000000
  leBytes 2 g ++ leBytes 2 (tc 16 o) ++ leBytes 1 (tc 8 e.temp) ++ leBytes 1 (min age 255)
    ++ leBytes 2 (b2n e.stale + 2 * b2n (colRefresh (d.reg (aPane p 0x3C)) l.h j e) + 4 * b2n (colLimit l.h j e)
        + 8 * b2n (j == 512 || j == 513))

/-- LEDGER_READ (R115, R121). -/
def cmdLedgerRead (pane : Byte) (first count : Half) (c : Cmd) (d : Dev) : Dev :=
  let p := pane.toNat
  let f := first.toNat
  let n := count.toNat
  if p > 127 ∨ n < 1 ∨ n > 256 ∨ f + n > 520 then d.refuse c stBadParam
  else if (d.pane p).st = .shuttered then d.refuse c stPartnerGone
  else
    match (d.pane p).ledger with
    | none => d.refuse c stPaneUnverified
    | some l =>
      let hdr := [pane] ++ leBytes 1 (d.pane p).st.code ++ leBytes 2 f ++ leBytes 2 n ++ leBytes 4 l.hWord
        ++ leBytes 1 (tc 8 (d.tempNow (quadOfPane p))) ++ leBytes 1 (d.ledgerStatus p) ++ leBytes 4 l.updates
      let es := (List.range n).map (fun k => match l.cols[f + k]? with | some e => d.ledgerEntry p (f + k) l e | none => zeros 8)
      d.reply c stOk (hdr ++ es.flatten)

/-! ### Meanings -/

/-- A write of 1 to PANE_EVENTS.CLR_COUNTS (R53). -/
def Dev.clrCounts (d : Dev) (p : Nat) : Dev := (d.setReg (aPane p 0x1C) 0).setReg (aPane p 0x20) 0

/-- PANE_CLR_COUNTS (R53). -/
def execPaneClrCounts (pane : Nat) (s : State) : Host.Outcome State Fault Refusal :=
  onDev s (fun d => if pane < 128 && d.isPowered (quadOfPane pane) then d.clrCounts pane else d)

/-- PRODUCT_START (R46). -/
def execProductStart (pane : Nat) (s : State) : Host.Outcome State Fault Refusal := onRun s (fun d => d.productStart pane)

/-- CALIBRATION_PAIR (R97, R100). -/
def execCalibrationPair (pane : Nat) (s : State) : Host.Outcome State Fault Refusal :=
  onRun s (fun d => d.calibrationPair pane)

/-- CAL_PERIOD_EXPIRY (R98). -/
def execCalPeriodExpiry (pane : Nat) (s : State) : Host.Outcome State Fault Refusal :=
  onRun s (fun d => d.calPeriodExpiry pane)

/-- CAL_INSERT (R98). -/
def execCalInsert (pane : Nat) (s : State) : Host.Outcome State Fault Refusal := onRun s (fun d => d.calInsert pane)

/-- ARRAY_UPDATE (R101). -/
def execArrayUpdate (pane : Nat) (at_ : UpdateTick) (s : State) : Host.Outcome State Fault Refusal :=
  onRun s (fun d => d.arrayUpdate pane at_.tenMs at_.withPair)

/-- LEDGER_ENTRY_STALE (R107). -/
def execLedgerEntryStale (pane col : Nat) (s : State) : Host.Outcome State Fault Refusal :=
  onRun s (fun d => d.ledgerStale pane col)

/-- LEDGER_READ (R115). -/
def execLedgerRead (h : CmdHdr) (pane : Byte) (first count : Half) (s : State) : Host.Outcome State Fault Refusal :=
  onDev s (Dev.hostCmd 0x26 ([pane, 0] ++ leBytes 2 first.toNat ++ leBytes 2 count.toNat) h (cmdLedgerRead pane first count))

/-- GRAFT_RELEASE (R85). -/
def execGraftRelease (pane : Nat) (s : State) : Host.Outcome State Fault Refusal := onDev s (fun d => d.graftRelease pane)

end Sys2Proof.Machine
end

