-- ==== Sys2Proof/Machine/Program.lean ====
section
/-! DEFINITION. Programs, audits, self-tests, retirement and grafts of panes (03_programming_and_audit.md), with the
meanings of the pane commands and the end of jamb commits. -/
namespace Sys2Proof.Machine

/-! ### Programs (R64 to R72) -/

def isProgramming (v : Pane) : Bool := v.st == .programming

/-- Panes PROGRAMMING or with their first commit under way (R66). -/
def Dev.programming (d : Dev) : Nat :=
  ((List.range 128).filter (fun p => isProgramming (d.pane p))).length + d.pctl.committing.length + d.pctl.counted.length

/-- The pane is queued to program, or its first commit is under way. -/
def Dev.progQueued (d : Dev) (p : Nat) : Bool :=
  d.pctl.progQueue.any (fun r => r.pane == p) || d.pctl.committing.any (fun r => r.pane == p)
    || d.pctl.counted.any (fun r => r.pane == p)

/-- The conditions of R65, in its order. -/
def Dev.progRefusal (d : Dev) (p : Nat) (force : Bool) : Option Byte :=
  let st := (d.pane p).st
  let count := match d.progEntry p with | some (c, _) => c | none => 0
  firstFail [
    (d.bound p, stBusy),
    (st == .programming || d.progQueued p, stBusy),
    (st == .auditing || st == .selftest, stBusy),
    (st == .retired, stPaneSuspect),
    (st == .shuttered, stPartnerGone),
    (count ≥ 10000 && !force, stBadParam),
    (d.pctl.progQueue.length ≥ 8, stQueueFull)]

/-- PANE_PROGRAM (R63 to R66, R558). The image is read as any request reads sill: an uncorrectable word is reported as
INTERNAL_FAULT (R183), and an unwritten row sets UNWR_READ (R196). -/
def cmdPaneProgram (pane flags : Byte) (addr : Word) (c : Cmd) (d : Dev) : Dev :=
  let p := pane.toNat
  let a := addr.toNat
  if p > 127 ∨ flags.toNat > 1 then d.refuse c stBadParam
  else if a % 128 ≠ 0 || !inWindow a 540832 then d.refuse c stBadParam
  else
    match d.progRefusal p (flags = 1) with
    | some st => d.refuse c st
    | none =>
      if !d.isOpen 4 then d.refuse c stPartnerGone
      else if d.sill.clearing then d.sillHold (.program c pane flags addr)
      else
        let (r, d) := d.sillRead a 540832
        if r.ue then d.refuse c stInternalFault
        else if !imageValid r.bytes then d.refuse c stBadImage
        else { d with pctl.progQueue := d.pctl.progQueue ++ [{ cmd := c, pane := p, addr := a }] }

/-- A pane of the casement is AUDITING or in SELFTEST, so no program starts there (R66). -/
def Dev.casTesting (d : Dev) (c : Nat) : Bool :=
  [0, 1, 2, 3].any (fun k => (d.pane (4 * c + k)).st == .auditing || (d.pane (4 * c + k)).st == .selftest)

/-- The request that may start: the first whose casement is not under test. That a later request may pass one that waits for
its casement is the model's choice; R66 gives the queue's order and the wait, and not which prevails (DESIGN CHOICE, log
entry 197). -/
def Dev.progReady (d : Dev) : Option ProgReq := d.pctl.progQueue.find? (fun r => !d.casTesting (r.pane / 4))

/-- Conditions of a queued request judged again as it starts. -/
def Dev.restartRefusal (d : Dev) (p : Nat) : Option Byte :=
  let st := (d.pane p).st
  firstFail [(d.named p, stBusy), (st == .retired, stPaneSuspect), (st == .shuttered, stPartnerGone)]

/-- PROGRAM_START: an accepted program starts with the commit of its count (R66, R67, R71). -/
def Dev.programStart (d : Dev) (p : Nat) : Dev :=
  match d.progReady with
  | none => d
  | some r =>
    if r.pane ≠ p ∨ d.programming ≥ 4 then d
    else
      let d := { d with pctl.progQueue := d.pctl.progQueue.erase r }
      match d.restartRefusal p with
      | some st => d.refuse r.cmd st
      | none => { d with pctl.committing := d.pctl.committing ++ [r] }.queueJob (.progCount p)

/-- PGM_EN follows the panes that are programming (R67). -/
def Dev.pgmEnUpdate (d : Dev) : Dev :=
  { d with pctl.pgmEn := (List.range 128).any (fun p => isProgramming (d.pane p)) }

/-- The first commit is done: the pane enters PROGRAMMING, its record, entries and IMAGE_ID go, a graft that it serves ends,
PGM_EN rises, and the command is answered (R67, R71, R80, R92, R113). -/
def Dev.enterProgramming (d : Dev) (r : ProgReq) : Dev :=
  let p := r.pane
  let prog : Program := { addr := r.addr, tag := uAt (d.sillBytes r.addr 8) 4 2, cmd := none, row := 0, iter := 0,
                          failed := 0, failedCk := false, good := bitOf d.pwr.pgmGood (quadOfPane p - 6) }
  let d := (d.updPane p (fun v => { v with record := none, ledger := none, calDue := false,
                                           program := some prog })).setPaneSt p .programming
  let d := d.spareLost p
  let d := (d.setReg (aPane p 0x28) 0).setReg (aPane p 0x2C) 0
  { d with pctl.pgmEn := true }.ok r.cmd

/-- Programs whose count is committed enter PROGRAMMING in a casement that is no longer under test (R66). -/
def Dev.resumeCounted (d : Dev) (c : Nat) : Dev :=
  if d.casTesting c then d
  else
    let go := d.pctl.counted.filter (fun r => r.pane / 4 == c)
    go.foldl (fun d r => match d.restartRefusal r.pane with | some st => d.refuse r.cmd st | none => d.enterProgramming r)
      { d with pctl.counted := d.pctl.counted.filter (fun r => r.pane / 4 != c) }

/-- A first commit ends (R71): the program begins, or is refused with NVM_UNCORRECTABLE; while a pane of its casement is
AUDITING or in SELFTEST it waits for that pane (R66). -/
def Dev.progCounted (d : Dev) (p : Nat) (ok : Bool) : Dev :=
  match d.pctl.committing.find? (fun r => r.pane == p) with
  | none => d
  | some r =>
    let d := { d with pctl.committing := d.pctl.committing.erase r }
    if !ok then d.refuse r.cmd stNvmUncorrectable
    else
      { d with pctl.counted := d.pctl.counted ++ [r] }.resumeCounted (p / 4)

/-- JAMB_COMMIT_COMPLETE: the commit in progress ends, with its owner's consequences (R435, R439, R71, R441). -/
def Dev.jambCommitComplete (d : Dev) (readBackOk : Bool) : Dev :=
  match d.jamb.commit with
  | none => d
  | some c =>
    let ok := d.jamb.commitOk c readBackOk
    let d := (d.commitEnd c readBackOk).commitReply c ok
    match c.owner with
    | .dev (.progCount p) => d.progCounted p ok
    | _ => d

/-- Set the outcome field of PANE_PROG_RES. -/
def Dev.progRes (d : Dev) (p : Nat) (g : Program) (outcome : Nat) : Dev :=
  d.setReg (aPane p 0x2C) (BitVec.ofNat 32 (min g.failed 1023 + min g.row 520 * 1024 + outcome * 1048576))

/-- A program ends with a pane state (R69). -/
def Dev.programDone (d : Dev) (p : Nat) (g : Program) (outcome : Nat) (st : PaneSt) : Dev :=
  (((d.updPane p (fun v => { v with program := none })).setPaneSt p st).progRes p g outcome).pgmEnUpdate

/-- PROGRAM_SUPPLY_TIMEOUT: VDD_PGM not good for 10 ms ends the program with SUPPLY_FAIL (R67, R69, R91). -/
def Dev.programSupplyTimeout (d : Dev) (p : Nat) : Dev :=
  match (d.pane p).program with
  | some g => if g.good then d else d.programDone p g 3 .unverified
  | none => d

/-- Target conductances of a row's cells, in eighths of g_lsb above 1 microsiemens (R61). -/
def rowTargets (row : List Byte) : List (Nat × Nat) :=
  (List.range 520).map (fun c => (8 * uAt row (2 * c) 1, 8 * uAt row (2 * c + 1) 1))

/-- Within target: within an eighth of g_lsb (R68). -/
def within (v t : Nat) : Bool := v ≤ t + 1 && t ≤ v + 1

/-- A cell outside its target takes a pulse, whose result is a free value (R68). -/
def pulsed (n i v t : Nat) : Nat := if within v t then v else min (Config.pulse n i) 1016

/-- A row of a program's image as the device reads it (R64), with the effects of the read (R183, R196). A word that cannot be
corrected is used as read: R183 reports it to the requester, and the command has been answered (DEDUCED, log entry 209). -/
def Dev.imageRow (d : Dev) (g : Program) : List Byte × Dev :=
  let a := g.addr + 0x20 + g.row * 1040
  if d.isOpen 4 then
    let (r, d) := d.sillRead a 1040
    (r.bytes, d)
  else (d.sillBytes a 1040, d)

/-- One program-and-verify iteration of a row (R68): the read, and, where a cell is outside target, its pulse. The first
iteration first pulses the whole row to minimum. -/
def Dev.programIteration (d : Dev) (p : Nat) : Dev :=
  let v := d.pane p
  match v.program with
  | none => d
  | some g =>
    if !g.good || g.row ≥ 520 || v.st != .programming then d
    else
      let (row, d) := d.imageRow g
      let cells := if g.iter = 0 then Tab.dropRange (520 * g.row) 520 v.cells else v.cells
      let tg := rowTargets row
      let cur := Tab.getList (fun _ => ((0, 0) : Nat × Nat)) cells (520 * g.row) 520
      let ok := (List.zip cur tg).all (fun e => within e.1.1 e.2.1 && within e.1.2 e.2.2)
      if ok then
        d.setPane p { v with cells := cells, program := some { g with row := g.row + 1, iter := 0 } }
          |>.setFld (aPane p 0x2C) 10 10 (g.row + 1)
      else
        let (n, d) := d.draw
        let new := (List.range 520).map (fun c =>
          let e := nthD cur c (0, 0)
          let t := nthD tg c (0, 0)
          (pulsed n (2 * c) e.1 t.1, pulsed n (2 * c + 1) e.2 t.2))
        let cells := Tab.setList (fun _ => ((0, 0) : Nat × Nat)) cells (520 * g.row) new
        if g.iter + 1 < 320 then
          d.setPane p { v with cells := cells, program := some { g with iter := g.iter + 1 } }
        else
          let bad := fun c => b2n (!within (nthD new c (0, 0)).1 (nthD tg c (0, 0)).1)
            + b2n (!within (nthD new c (0, 0)).2 (nthD tg c (0, 0)).2)
          let nb := ((List.range 520).map bad).sum
          let ck := ((List.range 520).drop 512).any (fun c => bad c > 0)
          d.setPane p { v with cells := cells, program := some { g with
              row := g.row + 1, iter := 0, failed := g.failed + nb, failedCk := g.failedCk || ck } }
            |>.setFld (aPane p 0x2C) 10 10 (g.row + 1)

/-- PROGRAM_END: every row is done; the outcome is OK or CELLS_FAILED (R69, R71). -/
def Dev.programEnd (d : Dev) (p : Nat) : Dev :=
  match (d.pane p).program with
  | none => d
  | some g =>
    if g.row < 520 then d
    else if g.failed ≤ 16 && !g.failedCk then (d.programDone p g 1 .unverified).queueJob (.progTag p g.tag)
    else (d.programDone p g 2 .suspect).makeSuspect p 3 none 0

/-- VDD_PGM good or lost in a quadrant: its programs run or pause (R67, R91). -/
def Dev.pgmSupply (d : Dev) (q : Nat) (good : Bool) : Dev :=
  if q < 6 ∨ q > 9 then d
  else
    let d := { d with pwr.pgmGood := maskOfList ((onesOf 4 d.pwr.pgmGood).filter (· != q - 6) ++ if good then [q - 6] else []) }
    (panesOfQuad q).foldl (fun d p =>
      match (d.pane p).program with
      | some g => d.updPane p (fun v => { v with program := some { g with good := good } })
      | none => d) d

/-! ### Audits (R77 to R82, R559) -/

/-- The refusal that a pane's state gives an audit (R77, R90), with whether the pane counts as bound; a pane whose quadrant is
opening waits. BUSY for a pane that is AUDITING or in SELFTEST is the model's choice: R77 names no status for it (DESIGN
CHOICE, log entry 198). -/
def Dev.auditRefusalFor (d : Dev) (p : Nat) (bound : Bool) : Option Byte :=
  let st := (d.pane p).st
  firstFail [
    (st == .programming || st == .selftest || st == .auditing, stBusy),
    (st == .retired, stPaneSuspect),
    (st == .trusted && bound, stBusy),
    (st == .shuttered && (match d.dom (quadOfPane p) with | .opening _ | .waitRail | .waitSpacing => false | _ => true),
      stPartnerGone)]

/-- The refusal of an audit as its command is executed (R77). -/
def Dev.auditRefusal (d : Dev) (p : Nat) : Option Byte := d.auditRefusalFor p (d.bound p)

/-- One pane of a PANE_AUDIT: refused on its own, or queued with its record. A record that the command brings ends the life of
the retained one, and is itself retained only when its audit passes (R79, R80). -/
def Dev.auditPane (d : Dev) (no p : Nat) (rec : Option (List Byte)) : (Nat × Option Byte) × Dev :=
  match d.auditRefusal p with
  | some st => ((p, some st), d)
  | none =>
    match rec.or (d.pane p).record with
    | none => ((p, some stBadParam), d)
    | some r =>
      let d := if rec.isSome then d.updPane p (fun v => { v with record := none }) else d
      ((p, none), { d with pctl.audits := d.pctl.audits ++ [{ pane := p, record := r, cmdNo := some no }] })

/-- Handle every pane of a PANE_AUDIT in parameter order. -/
def Dev.auditPanes : Dev → Nat → List (Nat × Option (List Byte)) → List (Nat × Option Byte) × Dev
  | d, _, [] => ([], d)
  | d, no, (p, rec) :: l =>
    let (e, d) := d.auditPane no p rec
    let (es, d) := Dev.auditPanes d no l
    (e :: es, d)

/-- The reply of a PANE_AUDIT whose panes all have their status (R559). -/
def Dev.auditReply (d : Dev) (a : AuditCmd) : Dev :=
  if a.panes.all (fun e => e.2.isSome) then
    let data := (a.panes.map (fun e => leBytes 1 e.1 ++ [e.2.getD 0, 0, 0] ++ wordBytes (d.reg (aPane e.1 0x24)))).flatten
    { d with pctl.cmds := d.pctl.cmds.filter (fun x => x.no != a.no) }.reply a.cmd stOk data
  else d

/-- Accept a PANE_AUDIT's panes. -/
def Dev.auditAccept (d : Dev) (c : Cmd) (l : List (Nat × Option (List Byte))) : Dev :=
  let no := d.pctl.nextNo
  let (es, d) := { d with pctl.nextNo := no + 1 }.auditPanes no l
  let a : AuditCmd := { no := no, cmd := c, panes := es }
  { d with pctl.cmds := d.pctl.cmds ++ [a] }.auditReply a

/-- PANE_AUDIT with records (R74, R559). -/
def cmdPaneAudit (records : List Byte) (c : Cmd) (d : Dev) : Dev :=
  let rs := chunks 17 256 records
  if records.length % 256 ≠ 0 ∨ rs.length < 1 ∨ rs.length > 16 then d.refuse c stBadLength
  else if rs.any (fun r => !recordValid r) then d.refuse c stBadImage
  else if hasDup (rs.map recPane) then d.refuse c stBadParam
  else d.auditAccept c (rs.map (fun r => (recPane r, some r)))

/-- PANE_AUDIT without records (R80, R559). -/
def cmdPaneAuditRetained (panes : List Byte) (c : Cmd) (d : Dev) : Dev :=
  let ps := panes.map (fun b => b.toNat)
  if ps.length < 1 ∨ ps.length > 16 then d.refuse c stBadLength
  else if ps.any (fun p => p > 127) || hasDup ps then d.refuse c stBadParam
  else d.auditAccept c (ps.map (fun p => (p, none)))

/-- A pane of a PANE_AUDIT has its status. -/
def Dev.auditStatus (d : Dev) (r : AuditReq) (st : Byte) : Dev :=
  match r.cmdNo with
  | none => d
  | some no =>
    match d.pctl.cmds.find? (fun a => a.no == no) with
    | none => d
    | some a =>
      let a : AuditCmd := { a with panes := a.panes.map (fun e => if e.1 = r.pane ∧ e.2.isNone then (e.1, some st) else e) }
      { d with pctl.cmds := d.pctl.cmds.map (fun (b : AuditCmd) => if b.no = no then a else b) }.auditReply a

/-- AUDIT_START: the casement's next requested audit starts (R77, R90); a graft that its pane serves ends (R92). -/
def Dev.auditStart (d : Dev) (c : Nat) : Dev :=
  if d.pctl.auditing.any (fun r => r.pane / 4 == c) || !d.isOpen (quadOf c)
      || [0, 1, 2, 3].any (fun k => isProgramming (d.pane (4 * c + k))) then d
  else
    match d.pctl.audits.find? (fun r => r.pane / 4 == c) with
    | none => d
    | some r =>
      let d := { d with pctl.audits := d.pctl.audits.erase r }
      match d.auditRefusalFor r.pane (d.named r.pane) with
      | some st => d.auditStatus r st
      | none =>
        { (d.updPane r.pane (fun v => { v with ledger := none })).setPaneSt r.pane .auditing with
          pctl.auditing := d.pctl.auditing ++ [r] }.spareLost r.pane

/-- What an audit's outcome does to its pane (R79, R112). -/
def Dev.auditApply (d : Dev) (r : AuditReq) (out : AuditOut) (cap : Capture) : Dev :=
  let p := r.pane
  let d := d.setReg (aPane p 0x24) (BitVec.ofNat 32 out.word)
  match out with
  | .fail .. => (d.updPane p (fun v => { v with ledger := none, record := none })).setPaneSt p .unverified
  | _ =>
    let d := d.wantTemp (quadOfPane p)
    let l := seedLedger r.record cap (d.tempNow (quadOfPane p)) d.now
    let d := d.setReg (aPane p 0x08) (BitVec.ofNat 32 (uAt r.record 9 1 + uAt r.record 0x0A 1 * 256 + 0x80000000))
    let d := d.setReg (aPane p 0x28) (BitVec.ofNat 32 (uAt r.record 4 4))
    let d := (d.updPane p (fun v => { v with ledger := some l, record := some r.record, calDue := false,
                                             calFirst := false })).setPaneSt p .trusted
    d.ledgerCheck p

/-- Draw `k` free values: the first one's number. -/
def Dev.drawMany (d : Dev) (k : Nat) : Nat × Dev := (d.free, { d with free := d.free + k })

/-- AUDIT_COMPLETE: the casement's audit ends with its outcome (R78, R79). -/
def Dev.auditComplete (d : Dev) (c : Nat) : Dev :=
  match d.pctl.auditing.find? (fun r => r.pane / 4 == c) with
  | none => d
  | some r =>
    let (n, d) := d.drawMany auditDraws
    let cap := capture n r.pane (d.pane r.pane).cells r.record
    let out := auditOutcome ((d.progEntry r.pane).map (fun e => e.2)) r.record cap
    let d := { d with pctl.auditing := d.pctl.auditing.erase r }
    ((d.auditApply r out cap).auditStatus r stOk).resumeCounted c

/-- An audit in progress ends ABORTED (R81, R89), with REASON 7 when its quadrant closes. -/
def Dev.auditAbort (d : Dev) (p reason : Nat) : Dev :=
  match d.pctl.auditing.find? (fun r => r.pane == p) with
  | none => d
  | some r =>
    let d := { d with pctl.auditing := d.pctl.auditing.erase r }
    (d.setReg (aPane p 0x24) (BitVec.ofNat 32 (4 + reason * 16))).auditStatus r stOk

/-! ### Self-test, retirement, graft, status -/

/-- PANE_SELFTEST (R83, R560); a graft that the pane serves ends, since it is TRUSTED no longer (R92). -/
def cmdPaneSelftest (pane : Byte) (c : Cmd) (d : Dev) : Dev :=
  let p := pane.toNat
  if p > 127 then d.refuse c stBadParam
  else
    match (d.pane p).st with
    | .unverified | .auditing => d.refuse c stPaneUnverified
    | .suspect | .retired => d.refuse c stPaneSuspect
    | .programming | .selftest => d.refuse c stBusy
    | .shuttered => d.refuse c stPartnerGone
    | .trusted => ((d.updPane p (fun v => { v with selftest := some { cmd := c, step := 0 } })).setPaneSt p .selftest).spareLost p

/-- SELFTEST_SUBSTEP: the next 2 microsecond sub-step while the pane is idle; the last decides (R83, R57). -/
def Dev.selftestSubstep (d : Dev) (p : Nat) : Dev :=
  let v := d.pane p
  match v.selftest with
  | none => d
  | some t =>
    if !v.running.isEmpty || v.st != .selftest then d
    else if t.step + 1 < 64 then d.setPane p { v with selftest := some { t with step := t.step + 1 } }
    else
      let (n, d) := d.drawMany 65
      let pass := match v.ledger with
        | some l => selftestPass n p v.cells (d.reg (aPane p 0x00)) l
        | none => false
      let d := d.setPane p { v with selftest := none }
      let d := if pass then d.setPaneSt p .trusted else d.makeSuspect p 4 none 0
      (d.reply t.cmd stOk (leBytes 1 (d.pane p).st.code ++ [if pass then 0 else 1, 0, 0])).resumeCounted (p / 4)

/-- PANE_RETIRE (R81, R560, R113). -/
def cmdPaneRetire (pane : Byte) (c : Cmd) (d : Dev) : Dev :=
  let p := pane.toNat
  if p > 127 then d.refuse c stBadParam
  else
    match (d.pane p).st with
    | .programming => d.refuse c stBusy
    | .shuttered => d.refuse c stPartnerGone
    | .retired => d.ok c
    | _ =>
      let d := d.auditAbort p 0
      let d := match (d.pane p).selftest with
        | some t => d.refuse t.cmd stPaneSuspect
        | none => d
      let d := (d.updPane p (fun v => { v with ledger := none, calDue := false, selftest := none })).setPaneSt p .retired
      (((d.faultLog 2 p 0 0).spareLost p).ok c).resumeCounted (p / 4)

/-- PANE_GRAFT (R84, R85, R560). -/
def cmdPaneGraft (target spare : Byte) (c : Cmd) (d : Dev) : Dev :=
  let t := target.toNat
  let x := spare.toNat
  if t > 127 ∨ x > 127 then d.refuse c stBadParam
  else if !d.isPowered (quadOfPane t) then d.refuse c stPartnerGone
  else if (d.originOf t).isNone || !d.eligible t x then d.refuse c stBadParam
  else (d.doGraft t x).ok c

/-- A PANE_STATUS entry (R561). -/
def Dev.paneStatus (d : Dev) (p : Nat) : List Byte :=
  let v := d.pane p
  let e := d.progEntry p
  let due := match v.ledger with | some l => b2n l.refreshDue * 32 + b2n l.limit * 64 | none => 0
  leBytes 1 p ++ leBytes 1 v.st.code ++ leBytes 1 (if v.st = .shuttered then v.prior.code else 0)
    ++ leBytes 1 (b2n (d.bound p) + 2 * b2n (d.pctl.progQueue.any (fun r => r.pane == p)) + 4 * b2n (d.bitAt (aPane p 0x30) 7)
        + 8 * b2n (d.bitAt (aPane p 0x30) 8) + 16 * b2n v.record.isSome + due + 128 * b2n e.isNone)
    ++ leBytes 2 (match e with | some (n, _) => n | none => 0xFFFF)
    ++ leBytes 1 (if d.bitAt (aPane p 0x30) 7 then d.fldAt (aPane p 0x30) 0 7 else 0xFF)
    ++ leBytes 1 (d.fldAt (aPane p 0x2C) 20 3) ++ wordBytes (d.reg (aPane p 0x28)) ++ wordBytes (d.reg (aPane p 0x24))

/-- PANE_STATUS (R561). -/
def cmdPaneStatus (first count : Byte) (c : Cmd) (d : Dev) : Dev :=
  let f := first.toNat
  let n := count.toNat
  if n < 1 ∨ n > 128 ∨ f + n > 128 then d.refuse c stBadParam
  else d.reply c stOk ((List.range n).map (fun k => d.paneStatus (f + k))).flatten

/-! ### Meanings -/

/-- PANE_PROGRAM (R65). -/
def execPaneProgram (h : CmdHdr) (pane flags : Byte) (addr : Word) (s : State) : Host.Outcome State Fault Refusal :=
  onDev s (Dev.hostCmd 0x20 ([pane, flags, 0, 0] ++ wordBytes addr) h (cmdPaneProgram pane flags addr))

/-- PANE_AUDIT with records (R559). -/
def execPaneAudit (h : CmdHdr) (records : List Byte) (s : State) : Host.Outcome State Fault Refusal :=
  onDev s (Dev.hostCmd 0x21 records h (cmdPaneAudit records))

/-- PANE_AUDIT against retained records (R80). -/
def execPaneAuditRetained (h : CmdHdr) (panes : List Byte) (s : State) : Host.Outcome State Fault Refusal :=
  onDev s (Dev.hostCmd 0x21 panes h (cmdPaneAuditRetained panes))

/-- PANE_SELFTEST (R83). -/
def execPaneSelftest (h : CmdHdr) (pane : Byte) (s : State) : Host.Outcome State Fault Refusal :=
  onDev s (Dev.hostCmd 0x22 [pane] h (cmdPaneSelftest pane))

/-- PANE_RETIRE (R560). -/
def execPaneRetire (h : CmdHdr) (pane : Byte) (s : State) : Host.Outcome State Fault Refusal :=
  onDev s (Dev.hostCmd 0x23 [pane] h (cmdPaneRetire pane))

/-- PANE_GRAFT (R84). -/
def execPaneGraft (h : CmdHdr) (target spare : Byte) (s : State) : Host.Outcome State Fault Refusal :=
  onDev s (Dev.hostCmd 0x24 [target, spare] h (cmdPaneGraft target spare))

/-- PANE_STATUS (R561). -/
def execPaneStatus (h : CmdHdr) (first count : Byte) (s : State) : Host.Outcome State Fault Refusal :=
  onDev s (Dev.hostCmd 0x25 [first, count] h (cmdPaneStatus first count))

/-- PROGRAM_START (R67). -/
def execProgramStart (pane : Nat) (s : State) : Host.Outcome State Fault Refusal := onRun s (fun d => d.programStart pane)

/-- VDD_PGM_GOOD (R67). -/
def execVddPgmGood (quadrant : Nat) (s : State) : Host.Outcome State Fault Refusal :=
  onAny s (fun d => d.pgmSupply quadrant true)

/-- VDD_PGM_LOST (R91). -/
def execVddPgmLost (quadrant : Nat) (s : State) : Host.Outcome State Fault Refusal :=
  onAny s (fun d => d.pgmSupply quadrant false)

/-- PROGRAM_SUPPLY_TIMEOUT (R67). -/
def execProgramSupplyTimeout (pane : Nat) (s : State) : Host.Outcome State Fault Refusal :=
  onRun s (fun d => d.programSupplyTimeout pane)

/-- PROGRAM_ITERATION (R68). -/
def execProgramIteration (pane : Nat) (s : State) : Host.Outcome State Fault Refusal :=
  onRun s (fun d => d.programIteration pane)

/-- PROGRAM_END (R69). -/
def execProgramEnd (pane : Nat) (s : State) : Host.Outcome State Fault Refusal := onRun s (fun d => d.programEnd pane)

/-- AUDIT_START (R77). -/
def execAuditStart (c : Nat) (s : State) : Host.Outcome State Fault Refusal := onRun s (fun d => d.auditStart c)

/-- AUDIT_COMPLETE (R78). -/
def execAuditComplete (c : Nat) (s : State) : Host.Outcome State Fault Refusal := onRun s (fun d => d.auditComplete c)

/-- SELFTEST_SUBSTEP (R83). -/
def execSelftestSubstep (pane : Nat) (s : State) : Host.Outcome State Fault Refusal :=
  onRun s (fun d => d.selftestSubstep pane)

/-- JAMB_COMMIT_COMPLETE (R435). -/
def execJambCommitComplete (readBackOk : Bool) (s : State) : Host.Outcome State Fault Refusal :=
  onDev s (fun d => d.jambCommitComplete readBackOk)

end Sys2Proof.Machine
end

