-- ==== Sys2Proof/Machine/Records.lean ====
section
/-! DEFINITION. Verdict records (06_models_tickets_verdicts.md R171, R172), their check states, sources, resolutions and
retractions (09_silent_errors.md R238 to R261), and how a record leaves (R167, R407, R420). -/
namespace Sys2Proof.Machine

/-! ### The record's bytes (R171) -/

/-- A status with which a record carries a verdict (R171). -/
def hasVerdict (st : Byte) : Bool := st == stOk || st == stUnwritten

/-- Four 14-bit references in seven bytes. -/
def lineageBytes (l : List Nat) : List Byte :=
  leBytes 7 (((l ++ List.replicate 4 0x3FFF).take 4).foldr (fun r a => r % 16384 + 16384 * a) 0)

/-- The 32 bytes of a record (R171), with SEQ 0 until it leaves; a record without a verdict holds what R171 says it
holds. -/
def recordBytes (slot ch : Nat) (ticket : Option Nat) (v : VerdictIn) (step check wend : Nat) (lineage : List Nat) : List Byte :=
  let y := hasVerdict v.status
  leBytes 1 (slot % 16 + ch % 16 * 16) ++ leBytes 1 (match ticket with | some t => t % 128 | none => 128) ++ [v.status]
    ++ leBytes 1 (if y then v.hyp % 64 + b2n v.valid * 64 else 0) ++ leBytes 4 step ++ [0, 0]
    ++ leBytes 1 (if y then v.class1 else 255) ++ leBytes 1 (if y then v.class2 else 255)
    ++ leBytes 2 (tc 16 (if y then v.score1 else -32768)) ++ leBytes 2 (tc 16 (if y then v.score2 else -32768))
    ++ leBytes 2 (tc 16 (if y then v.anomaly else -32768)) ++ leBytes 2 check ++ leBytes 5 wend ++ lineageBytes lineage

/-- Its fields. -/
def recSlot (b : List Byte) : Nat := uAt b 0 1 % 16
def recStatus (b : List Byte) : Byte := nthD b 2 0
def recStep (b : List Byte) : Nat := uAt b 4 4
def recSeq (b : List Byte) : Nat := uAt b 8 2
def recCheck (b : List Byte) : Nat := uAt b 0x12 2
def recRef (b : List Byte) (k : Nat) : Nat := fld (uAt b 0x19 7) (14 * k) 14

/-- Replace bytes from an offset. -/
def patch (b : List Byte) (o : Nat) (v : List Byte) : List Byte := b.take o ++ v ++ b.drop (o + v.length)

/-- CHECK with a state and a reason, its flag bits kept (R171, R244). -/
def checkWith (check state reason : Nat) : Nat := check / 64 * 64 + state + reason * 4

/-- The record without its verdict (R171), under a status. -/
def dropVerdict (b : List Byte) (st : Byte) : List Byte :=
  let b := patch (patch b 2 [st]) 3 [0]
  patch b 0x0A ([0xFF, 0xFF] ++ leBytes 2 0x8000 ++ leBytes 2 0x8000 ++ leBytes 2 0x8000 ++ leBytes 2 (checkWith (recCheck b) 0 0))

/-! ### Sources (R245, R246) -/

/-- A node address as the source tables have it: the device's own is 0x0000 (R235). -/
def Dev.nodeOf (d : Dev) (n : Nat) : Nat := if n = d.fab.addr then 0 else n

/-- The references of a record's lineage through its slot's source entries; one that no entry answers finds nothing. -/
def Dev.refsOf (d : Dev) (b : List Byte) : List SrcRef :=
  let src := (d.ckOf (recSlot b)).sources
  (List.range 4).filterMap (fun k =>
    let r := recRef b k
    if r = 0x3FFF then none
    else
      match src[fld r 11 3]? with
      | some (n, s, i) => some { node := d.nodeOf n, stackId := s, slot := i, seq := r % 2048 }
      | none => some { node := 0xFFFF, stackId := 0, slot := 0, seq := r % 2048 })

/-- The newest held record whose SEQ[10:0] a reference of a lineage gives (R246). -/
def Dev.lookSrc (d : Dev) (r : SrcRef) : Option Source :=
  (d.chk.src.filter (fun e => e.node == r.node && e.stackId == r.stackId && e.slot == r.slot && e.seq % 2048 == r.seq)).getLast?

/-- The reference to a held record, by its whole SEQ. -/
def Source.ref (e : Source) : SrcRef := { node := e.node, stackId := e.stackId, slot := e.slot, seq := e.seq }

/-- The held record is the one that a reference found at assembly (R246, R247). -/
def Source.is (e : Source) (r : SrcRef) : Bool := e.ref == r

/-- The held record that a reference found at assembly. -/
def Dev.findSrc (d : Dev) (r : SrcRef) : Option Source := (d.chk.src.filter (fun e => e.is r)).getLast?

/-- The resolution is still to come. -/
def SrcSt.unresolved : SrcSt → Bool
  | .provisional => true
  | _ => false

/-- A STARTED instance names the source (R246). -/
def Dev.namesSource (d : Dev) (node stackId slot : Nat) : Bool :=
  d.startedSlots.any (fun i => (d.ckOf i).sources.any (fun e => d.nodeOf e.1 == node && e.2.1 == stackId && e.2.2 == slot))

/-! ### Where records and resolutions go (R167, R243, R407, R420) -/

/-- Partners that a route reaches (R404). -/
def Dev.partners (d : Dev) : List Nat := (List.range 4).filter (fun i => i != d.stackId && (d.stkRoute i).isSome)

/-- Send a payload in a frame to each of some partners. -/
def Dev.toPartners (d : Dev) (typ : Nat) (ids : List Nat) (payload : List Byte) : Dev :=
  ids.foldl (fun d i => (d.stkSend i typ 1 payload).2) d

/-- The device's own host queue takes host records: it is master or acting master, or its master cannot be reached and
nothing else would (R405, R407). -/
def Dev.ownHost (d : Dev) : Bool := d.stk.role == 0 || d.stk.role == 3

/-- A record enters the host result queue of 256, or is lost to it (R172, R532). -/
def Dev.resqPush (d : Dev) (stackId : Nat) (b : List Byte) : Dev :=
  let key := (stackId, recSlot b)
  if d.mdl.resq.length < 256 then
    let b := if d.mdl.lossOf.contains key then patch b 3 (leBytes 1 (uAt b 3 1 % 128 + 128)) else b
    let q := d.mdl.resq ++ [(stackId, b)]
    { d with mdl := { d.mdl with resq := q, high := max d.mdl.high q.length, lossOf := d.mdl.lossOf.filter (· != key) } }.noteVerdict
  else
    let d := if stackId = d.stackId then (d.satFld (aSlot (recSlot b) 0x0C) 0 16).incCounter (0x107 + 16 * recSlot b) else d
    { d with
      mdl.lossOf := if d.mdl.lossOf.contains key then d.mdl.lossOf else d.mdl.lossOf ++ [key]
      hl.lostSinceVerdict := true }

/-- A record leaves for its destinations (R167, R407, R420, R563): [0] host, [1] every reachable partner, [2] the gateway. -/
def Dev.deliverRecord (d : Dev) (dest : Nat) (b : List Byte) : Dev :=
  let d := if bitOf dest 0 && d.ownHost then d.resqPush d.stackId b else d
  let ids := d.partners.filter (fun i => bitOf dest 1 || (bitOf dest 0 && !d.ownHost && i == d.stk.masterId))
  let d := d.toPartners 7 ids b
  if bitOf dest 2 then (d.siteSend 6 d.gateway false b none).2 else d

/-- A resolution follows its record (R243, R407). -/
def Dev.deliverResol (d : Dev) (dest : Nat) (b : List Byte) (retract : Bool) : Dev :=
  let d := if bitOf dest 0 && d.ownHost then d.queueResol { retract := retract, data := b } else d
  let ids := d.partners.filter (fun i => bitOf dest 1 || (bitOf dest 0 && !d.ownHost && i == d.stk.masterId))
  let d := d.toPartners 8 ids b
  if bitOf dest 2 then (d.siteSend 7 d.gateway false b none).2 else d

/-! ### Resolution (R242 to R249) -/

/-- A resolution record (R244). -/
def Dev.resolBytes (d : Dev) (p : Pend) (retract : Bool) (check : Nat) : List Byte :=
  leBytes 1 p.slot ++ leBytes 1 (b2n retract) ++ leBytes 2 p.seq ++ leBytes 4 p.step ++ leBytes 2 check
    ++ leBytes 1 d.stackId ++ [0] ++ leBytes 2 d.fab.addr ++ [0, 0]

/-- The own record's entry in the source table takes its resolution (R246). -/
def Dev.ownSourceIs (d : Dev) (p : Pend) (st : SrcSt) : Dev :=
  { d with chk.src := d.chk.src.map (fun e =>
      if e.node == 0 && e.stackId == d.stackId && e.slot == p.slot && e.seq == p.seq then { e with st := st } else e) }

/-- An emitted record is resolved: CONFIRM in a state, or RETRACT with a reason (R243, R247). It stays while its sources
may still retract it. -/
def Dev.resolve (d : Dev) (p : Pend) (retract : Bool) (state reason : Nat) : Dev :=
  let check := checkWith p.check state reason
  let p' : Pend := { p with provisional := false, retracted := p.retracted || retract, check := check }
  let keep := !p'.retracted && !p'.sources.isEmpty
  let d := { d with chk.pend := d.chk.pend.filterMap (fun q => if q = p then (if keep then some p' else none) else some q) }
  let d := d.ownSourceIs p (if retract then .retracted else if state = 0 then .confirmedFirm else .confirmedFlagged)
  let d := d.incCounter (0x100 + 16 * p.slot + (if retract then 2 else 3))
  let d := d.trace 32 4 (leBytes 1 p.slot ++ leBytes 1 (b2n retract) ++ leBytes 2 p.seq ++ leBytes 2 p.step)
  d.deliverResol p.dest (d.resolBytes p retract check) retract

/-- States of a pending record's sources that are still held. -/
def Dev.srcStates (d : Dev) (p : Pend) : List SrcSt := p.sources.filterMap (fun r => (d.findSrc r).map (·.st))

/-- What can now be settled of an emitted record: RETRACT by a source (R247), or CONFIRM once its own checks and every
source are resolved (R242, R248); the answer is (retract, state, reason). -/
def Dev.verdictOn (d : Dev) (p : Pend) : Option (Bool × Nat × Nat) :=
  let ss := d.srcStates p
  if !p.retracted && ss.contains .retracted then some (true, 2, 6)
  else if p.provisional && (p.past || (d.samplesOf p.slot p.step).isEmpty) && !ss.any SrcSt.unresolved then
    if p.abandoned then some (false, 2, 3)
    else if p.srcFlagged || ss.contains .confirmedFlagged then some (false, 2, 6)
    else some (false, 0, 0)
  else none

/-- Settle everything that can be settled; a retraction of an own record may settle others in turn (R247). Each record
settles at most twice. -/
def Dev.settleN : Nat → Dev → Dev
  | 0, d => d
  | n + 1, d =>
    match d.chk.pend.find? (fun p => (d.verdictOn p).isSome) with
    | none => d
    | some p =>
      match d.verdictOn p with
      | none => d
      | some (r, st, why) => Dev.settleN n (d.resolve p r st why)

/-- Resolutions stop while BOLTED (R490). -/
def Dev.settle (d : Dev) : Dev := if d.dbg.bolted then d else Dev.settleN (2 * d.chk.pend.length) d

/-- A source is declared lost (R249): it counts as confirmed FLAGGED. -/
def Dev.loseSource (d : Dev) (e : Source) : Dev :=
  if e.st.unresolved then
    ({ d with chk.src := d.chk.src.map (fun x => if x = e then { x with st := .confirmedFlagged } else x) }.satFld 0x714 16 16).settle
  else d

/-- A record leaves the source table. What derived records still need of it is kept with them. -/
def Dev.dropSource (d : Dev) (e : Source) : Dev :=
  let flagged := e.st == .confirmedFlagged || e.st == .flagged
  let pend : List Pend := d.chk.pend.map (fun p =>
    if p.sources.any (fun r => e.is r && d.findSrc r == some e) then
      { p with sources := p.sources.filter (fun r => !e.is r), srcFlagged := p.srcFlagged || flagged } else p)
  let done : List DoneRec := d.mdl.done.map (fun r =>
    if r.refs.any (fun x => e.is x) then { r with refs := r.refs.filter (fun x => !e.is x), srcFlagged := r.srcFlagged || flagged } else r)
  { d with chk.src := d.chk.src.erase e, chk.pend := pend.filter (fun p => p.provisional || !p.sources.isEmpty), mdl.done := done }

/-- Hold a source's record (R246); a full table loses its oldest entry (R260). -/
def Dev.holdSource (d : Dev) (node stackId slot seq : Nat) (st : SrcSt) : Dev :=
  let d := if d.chk.src.length ≥ 2048 then
      match d.chk.src.head? with
      | some e =>
        let d := (d.loseSource e).setFld 0x718 1 1 1
        (match d.chk.src.head? with | some e => d.dropSource e | none => d)
      | none => d
    else d
  { d with chk.src := d.chk.src ++ [{ node := node, stackId := stackId, slot := slot, seq := seq, st := st, at_ := d.now }] }

/-- The state of a record as a source. -/
def srcOfCheck (check : Nat) : SrcSt := match check % 4 with | 1 => .provisional | 2 => .flagged | _ => .firm

/-- A record of a source arrives (R246): it is held when a STARTED instance names the source and it carries a verdict. -/
def Dev.sourceRecord (d : Dev) (node stackId : Nat) (b : List Byte) : Dev :=
  if hasVerdict (recStatus b) && d.namesSource node stackId (recSlot b) then
    d.holdSource node stackId (recSlot b) (recSeq b) (srcOfCheck (recCheck b))
  else d

/-- Core ticks of the 1.98 ms of R249. -/
def lossTicks : Nat := 1584000

/-- A source's resolution arrives (R243, R247, R430): a RETRACT at any time, a CONFIRM while unresolved. On the tick of
loss the arrival wins and is counted (R257). -/
def Dev.sourceResolved (d : Dev) (node stackId slot seq : Nat) (retract : Bool) (check : Nat) : Dev :=
  match (d.chk.src.filter (fun e => e.node == node && e.stackId == stackId && e.slot == slot && e.seq == seq)).getLast? with
  | none => d
  | some e =>
    if e.st == .retracted || (!retract && !e.st.unresolved) then d
    else
      let d := if e.st.unresolved && d.now == e.at_ + lossTicks then d.satFld 0x718 16 16 else d
      let st : SrcSt := if retract then .retracted else if check % 4 = 0 then .confirmedFirm else .confirmedFlagged
      { d with chk.src := d.chk.src.map (fun x => if x = e then { x with st := st } else x) }.settle

/-- SOURCE_LOSS (R249). -/
def Dev.sourceLoss (d : Dev) (node stackId slot seq : Nat) : Dev :=
  match (d.chk.src.filter (fun e => e.node == node && e.stackId == stackId && e.slot == slot && e.seq == seq)).getLast? with
  | some e => d.loseSource e
  | none => d

/-- Every unresolved source of a partner that is reported gone is lost at once (R249). -/
def Dev.loseSourcesOf (d : Dev) (p : Source → Bool) : Dev :=
  (d.chk.src.filter p).foldl (fun d e => d.loseSource e) d

/-- SOURCE_HOLD_EXPIRY (R246). -/
def Dev.sourceExpiry (d : Dev) (node stackId slot seq : Nat) : Dev :=
  match d.chk.src.find? (fun e => e.node == node && e.stackId == stackId && e.slot == slot && e.seq == seq) with
  | some e =>
    let d := d.loseSource e
    (match d.chk.src.find? (fun x => x.node == node && x.stackId == stackId && x.slot == slot && x.seq == seq) with
     | some x => d.dropSource x
     | none => d)
  | none => d

/-! ### Shadow outcomes (R222, R242, R254) -/

/-- The emitted record of a step of a slot's present instance. -/
def Dev.pendOf (d : Dev) (i step : Nat) : Option Pend :=
  (d.chk.pend.filter (fun p => p.slot == i && p.step == step && !p.past)).getLast?

/-- The record of a slot's step has left. -/
def Dev.emitted (d : Dev) (i step : Nat) : Bool := (step + 2 ^ 32 - (d.slot i).nextEmit) % 2 ^ 32 ≥ 2 ^ 31

/-- A shadow failure of a record is decided (R242, R254): RETRACT if it has left, FLAGGED if it has not. -/
def Dev.shadowFailed (d : Dev) (i step : Nat) : Dev :=
  match d.pendOf i step with
  | some p => if p.provisional then (d.resolve p true 2 4).settle else d
  | none => if d.emitted i step then d else { d with chk.failSteps := d.chk.failSteps ++ [(i, step)] }

/-- A record can no longer be checked in full (R222, R223, R259). -/
def Dev.checkerLost (d : Dev) (i step : Nat) : Dev :=
  match d.pendOf i step with
  | some p => ({ d with chk.pend := d.chk.pend.map (fun q => if q = p then { q with abandoned := true } else q) }).settle
  | none => if d.emitted i step then d else { d with chk.lostSteps := d.chk.lostSteps ++ [(i, step)] }

/-- Index of an item in a slot's list. -/
def Dev.itemIndex (d : Dev) (s : Sample) : Option Nat := ((d.items s.slot).findIdx? (fun e => e == (s.path, s.n)))

/-- A sample is abandoned (R222): the lane takes its item again at its next move. -/
def Dev.abandon (d : Dev) (s : Sample) : Dev :=
  let k := d.itemIndex s
  let d := { d with
    storm.samples := d.storm.samples.erase s
    storm.lanes := d.storm.lanes.map (fun (l : Lane) => if l.slot = s.slot ∧ l.lane = s.lane then { l with again := k } else l) }
  (d.satFld 0x80010 0 16).checkerLost s.slot s.step

/-- Every sample is abandoned (R223, R224). -/
def Dev.abandonAll (d : Dev) : Dev := d.storm.samples.foldl (fun d s => d.abandon s) d

/-- SAMPLE_ABANDON (R222). -/
def Dev.sampleAbandon (d : Dev) (i step path n : Nat) : Dev :=
  match d.storm.samples.find? (fun s => s.slot == i && s.step == step && s.path == path && s.n == n) with
  | some s => d.abandon s
  | none => d

/-! ### Emission (R167, R238, R240) -/

/-- A record is assembled (R238, R246): its references find their sources, one of which may have been RETRACTED, and it takes
its state and reason. -/
def Dev.assemble (d : Dev) (r : DoneRec) : DoneRec :=
  let found := if r.verdict then (d.refsOf r.bytes).map d.lookSrc else []
  let refs := found.filterMap (fun s => s.map Source.ref)
  let ss : List (Option SrcSt) := found.map (fun s => s.map (·.st))
  if ss.contains (some .retracted) then
    { r with verdict := false, gone := true, bytes := dropVerdict r.bytes stRetracted, refs := [] }
  else if !r.verdict then r
  else
    let fail := d.chk.failSteps.contains (r.slot, r.step)
    let lost := d.chk.lostSteps.contains (r.slot, r.step)
    let badSrc := ss.any (fun s => match s with | none => true | some .flagged => true | some .confirmedFlagged => true | _ => false)
    let why := firstFail [
      (r.reason == some 1, 1), (r.reason == some 5, 5), (fail, 4), (r.reason == some 2, 2), (r.reason == some 3 || lost, 3),
      (badSrc, 6)]
    match why with
    | some w => { r with state := 2, why := w, refs := refs }
    | none =>
      let open_ := !(d.samplesOf r.slot r.step).isEmpty || ss.contains (some .provisional)
      { r with state := if open_ then 1 else 0, refs := refs }

/-- State and reason with which an assembled record leaves: a shadow failure decided since its assembly FLAGS it (R254), and a
PROVISIONAL one that finds the pending table full is FLAGGED (R240). -/
def Dev.stateAtEmission (d : Dev) (r : DoneRec) (full : Bool) : Nat × Nat :=
  if !r.verdict then (0, 0)
  else if d.chk.failSteps.contains (r.slot, r.step) && !(r.state == 2 && (r.why == 1 || r.why == 5)) then (2, 4)
  else if r.state = 1 && full then (2, 3)
  else (r.state, r.why)

/-- Records awaiting their resolution (CHK_PENDING). -/
def Dev.pendingCount (d : Dev) : Nat := (d.chk.pend.filter (·.provisional)).length

/-- The record of the next step leaves (R167, R172, R238, R240): it takes its SEQ, goes to its destinations, and its ticket is
free. What has been decided of it since its assembly follows it (R242, R247). -/
def Dev.emit (d : Dev) (r : DoneRec) : Dev :=
  let sl := d.slot r.slot
  let full := decide (d.pendingCount ≥ 8192)
  let (state, reason) := d.stateAtEmission r full
  let d := if r.verdict && r.state == 1 && full && reason == 3 then d.setFld 0x718 0 1 1 else d
  let b := patch r.bytes 8 (leBytes 2 sl.seq)
  let check := checkWith (recCheck b) state reason
  let b := patch b 0x12 (leBytes 2 check)
  let p : Pend := { slot := r.slot, seq := sl.seq, step := r.step, dest := r.dest, check := check, provisional := state == 1,
                    abandoned := d.chk.lostSteps.contains (r.slot, r.step), srcFlagged := r.srcFlagged, sources := r.refs,
                    retracted := false }
  let d := { d with
    mdl.done := d.mdl.done.erase r
    chk.failSteps := d.chk.failSteps.filter (· != (r.slot, r.step))
    chk.lostSteps := d.chk.lostSteps.filter (· != (r.slot, r.step)) }
  let d := d.setSlot r.slot { sl with seq := (sl.seq + 1) % 65536, nextEmit := (sl.nextEmit + 1) % 2 ^ 32 }
  let d := match r.ticket with | some t => d.setTicket t (ticketDefault t) | none => d
  let d := if r.verdict && (state == 1 || !r.refs.isEmpty) then { d with chk.pend := d.chk.pend ++ [p] } else d
  let d := d.sourceRecord 0 d.stackId b
  let base := 0x100 + 16 * r.slot
  let d := d.incCounter base
  let d := if state = 2 then d.incCounter (base + 1) else d
  let d := if r.gone then d.incCounter (base + 2) else d
  let d := if bitOf check 8 then d.incCounter (base + 4) else d
  let d := d.trace 32 3 (leBytes 1 r.slot ++ leBytes 2 sl.seq ++ leBytes 2 r.step ++ leBytes 2 check)
  let d := d.deliverRecord r.dest b
  if r.verdict && (state == 1 || !r.refs.isEmpty) then d.settle else d

/-- The DONE record whose turn it is in a slot (R167). -/
def Dev.nextDone (d : Dev) (i : Nat) : Option DoneRec :=
  d.mdl.done.find? (fun r => r.slot == i && r.step == (d.slot i).nextEmit)

/-! ### Commands and register writes -/

/-- A write of LIN_SET (R245). -/
def Dev.linSet (d : Dev) (t pos ref : Nat) : Dev :=
  let k := d.ticket t
  if k.st != .running || (ref % 16384 != 0x3FFF && fld ref 11 3 ≥ (d.ckOf k.slot).sources.length) then d.setFld 0x718 2 1 1
  else d.setTicket t { k with lineage := setAt ((k.lineage ++ List.replicate 4 0x3FFF).take 4) (pos % 4) (ref % 16384) }

/-- CHECK_CONFIG (R236, R565). -/
def cmdCheckConfig (slot : Byte) (sect : List Byte) (c : Cmd) (d : Dev) : Dev :=
  let i := slot.toNat
  if sect.length < 16 ∨ sect.length > 1352 then d.refuse c stBadLength
  else if i > 15 then d.refuse c stBadParam
  else
    match (d.slot i).st, (d.slot i).model with
    | .started, _ | .stopping, _ => d.refuse c stBusy
    | .loaded, some m =>
      if checkValid sect (onesOf 128 m.panes) then (d.updSlot i (fun s => { s with model := some { m with check := sect } })).ok c
      else d.refuse c stBadImage
    | _, _ => d.refuse c stBadParam

/-- An entry of RESULT_READ (R566). -/
def resqEntry (e : Nat × List Byte) : List Byte := leBytes 1 e.1 ++ [0, 0, 0] ++ e.2

/-- RESULT_READ (R566, R590). -/
def cmdResultRead (max : Byte) (c : Cmd) (d : Dev) : Dev :=
  let n := max.toNat
  if n < 1 ∨ n > 64 then d.refuse c stBadParam
  else
    let out := d.mdl.resq.take n
    let rest := d.mdl.resq.drop n
    let prov := out.any (fun e => hasVerdict (recStatus e.2) && recCheck e.2 % 4 == 1)
    let red := out.any (fun e => bitOf (recCheck e.2) 8)
    { d with mdl.resq := rest }.reply c (if prov then stProvisional else if red then stReduced else stOk)
      (leBytes 1 out.length ++ leBytes 2 rest.length ++ [0] ++ (out.map resqEntry).flatten)

/-- RESQ_STATUS.CLR_HIGH (R172). -/
def Dev.clrHigh (d : Dev) : Dev := { d with mdl.high := d.mdl.resq.length }

/-! ### Meanings -/

/-- SOURCE_LOSS (R249). -/
def execSourceLoss (node stackId slot seq : Nat) (s : State) : Host.Outcome State Fault Refusal :=
  onRun s (fun d => d.sourceLoss node stackId slot seq)

/-- SOURCE_HOLD_EXPIRY (R246). -/
def execSourceHoldExpiry (node stackId slot seq : Nat) (s : State) : Host.Outcome State Fault Refusal :=
  onDev s (fun d => d.sourceExpiry node stackId slot seq)

/-- LIN_SET (R245). -/
def execLinSet (ticket pos ref : Nat) (s : State) : Host.Outcome State Fault Refusal :=
  onDev s (fun d => if ticket < 128 then d.linSet ticket pos ref else d)

/-- SAMPLE_ABANDON (R222). -/
def execSampleAbandon (slot step path n : Nat) (s : State) : Host.Outcome State Fault Refusal :=
  onRun s (fun d => d.sampleAbandon slot step path n)

/-- CHECK_CONFIG (R236). -/
def execCheckConfig (h : CmdHdr) (slot : Byte) (sect : List Byte) (s : State) : Host.Outcome State Fault Refusal :=
  onDev s (Dev.hostCmd 0x36 ([slot, 0, 0, 0] ++ sect) h (cmdCheckConfig slot sect))

/-- RESULT_READ (R172, R566). -/
def execResultRead (h : CmdHdr) (max : Byte) (s : State) : Host.Outcome State Fault Refusal :=
  onDev s (Dev.hostCmd 0x35 [max] h (cmdResultRead max))

/-- RESQ_CLR_HIGH (R172). -/
def execResqClrHigh (s : State) : Host.Outcome State Fault Refusal := onDev s Dev.clrHigh

end Sys2Proof.Machine
end

