-- ==== Sys2Proof/Machine/Sill.lean ====
section
/-! DEFINITION. Sill in motion (07_sill.md): requests of casements, lookups and pooling, leases, the scrubbers, and the
sill commands of the host. -/
namespace Sys2Proof.Machine

/-! ### Pooling (R190) -/

/-- One entry as the pool unit reads it: its INT16 lanes, the lanes of uncorrectable words, and its masks' bits. -/
structure PoolEntry where
  lanes : List Int
  bad : List Bool
  ue : Bool
  corrected : Bool
  unwritten : Bool

/-- Read the entry at an address. -/
def Dev.poolEntry (d : Dev) (a size : Nat) : PoolEntry × Dev :=
  let ueWords := ((d.sill.flipped a size).filter (fun e => e.2 ≥ 2)).map (·.1)
  let (r, d) := d.sillRead a size
  ({ lanes := (List.range (size / 2)).map (fun k => sxt 16 (uAt r.bytes (2 * k) 2))
     bad := (List.range (size / 2)).map (fun k => ueWords.contains ((a + 2 * k) / 8 * 8))
     ue := r.ue, corrected := r.corrected, unwritten := r.unwritten }, d)

/-- Read entries one after another. -/
def Dev.poolEntries : Dev → List Nat → Nat → List PoolEntry × Dev
  | d, [], _ => ([], d)
  | d, a :: l, size =>
    let (e, d) := d.poolEntry a size
    let (es, d) := Dev.poolEntries d l size
    (e :: es, d)

/-- The pooled reply of a lookup. -/
structure Pooled where
  lanes : List Int
  unwritten : Nat
  corrected : Nat
  ue : Nat
  sat : Bool
  nodata : Bool

/-- Bits of a list as a mask. -/
def maskBits (l : List Bool) : Nat := maskOfList ((List.range l.length).filter (fun k => nthD l k false))

/-- Sum the entries lane by lane (R190). -/
def poolSum (es : List PoolEntry) (n : Nat) : Pooled :=
  let col := fun k => es.map (fun e => nthD e.lanes k 0)
  let bad := fun k => es.any (fun e => nthD e.bad k false)
  let nd := fun k => (col k).contains (-32768)
  let sum := fun k => sumI (col k)
  { lanes := (List.range n).map (fun k => if bad k || nd k then -32768 else clampI (-32767) 32767 (sum k))
    unwritten := maskBits (es.map (·.unwritten)), corrected := maskBits (es.map (·.corrected)), ue := maskBits (es.map (·.ue))
    sat := (List.range n).any (fun k => !bad k && !nd k && (sum k > 32767 || sum k < -32767))
    nodata := (List.range n).any nd }

/-- Status of a lookup's reply (R190). -/
def Pooled.status (p : Pooled) : Byte :=
  if p.ue ≠ 0 then stInternalFault else if p.unwritten ≠ 0 then stUnwritten else stOk

/-- The reply's payload (R190): the header, then the pooled entry in whole flits. -/
def Pooled.payload (p : Pooled) (n : Nat) : List Byte :=
  let body := (p.lanes.map (fun v => leBytes 2 (tc 16 v))).flatten
  padTo 32 (leBytes 1 p.unwritten ++ leBytes 1 p.corrected ++ leBytes 1 p.ue ++ leBytes 1 (b2n p.sat + 2 * b2n p.nodata) ++ leBytes 1 n)
    ++ padTo ((body.length + 31) / 32 * 32) body

/-- Look up entries of a table by index and pool them. -/
def Dev.poolLookup (d : Dev) (e : Desc) (idx : List Nat) : Pooled × Dev :=
  let (es, d) := d.poolEntries (idx.map (fun i => e.base + i * e.entrySize)) e.entrySize
  (poolSum es (e.entrySize / 2), d.setReg 0x90024 (d.reg 0x90024 + 1))

/-! ### Requests of casements -/

/-- The lookup descriptor's keys as indexes (R187, R189); none when N or a key is out of range. -/
def lookupKeys (e : Desc) (b : List Byte) : Option (List Nat) :=
  let n := uAt b 0 1
  if n < 1 ∨ n > 8 then none
  else
    let ks := (List.range n).map (fun k => e.index (uAt b 4 4) (uAt b (8 + 3 * k) 1) (uAt b (9 + 3 * k) 1) (uAt b (10 + 3 * k) 1))
    if ks.all (·.isSome) then some (ks.filterMap id) else none

/-- A SILL_RD is served (R183, R196). -/
def Dev.serveRd (d : Dev) (m : Msg) : Dev :=
  let a := uAt m.payload 0 4
  let n := uAt m.payload 4 1
  if !inWindow a n then d.respond m stBadParam []
  else
    let (r, d) := d.sillRead a n
    d.respond m (if r.ue then stInternalFault else if r.unwritten then stUnwritten else stOk) (padTo 32 r.bytes)

/-- An accepted SILL_WR is applied and answered (R183, R204). -/
def Dev.applyWr (d : Dev) (m : Msg) : Dev :=
  let (ok, d) := d.sillWrite (uAt m.payload 0 4) (m.payload.drop 4)
  d.respond m (if ok then stOk else stInternalFault) []

/-- A SILL_WR is served: refused by its gate, applied, or accepted and held until its rows may be written (R183, R192, R193,
R204). -/
def Dev.serveWr (d : Dev) (m : Msg) : Dev :=
  let a := uAt m.payload 0 4
  let bs := m.payload.drop 4
  if !inWindow a bs.length then d.respond m stBadParam []
  else
    match d.writeGate m.src a bs.length with
    | some st => d.respond m st []
    | none =>
      if d.writeHeld a bs.length then d.sillHold (.wr m) else d.applyWr m

/-- A SILL_LOOKUP is accepted at its edge with the descriptor in force (R189, R205). -/
def Dev.serveLookup (d : Dev) (m : Msg) : Dev :=
  match d.desc (uAt m.payload 32 1) with
  | none => d.respond m stBadParam []
  | some e =>
    match lookupKeys e m.payload with
    | none => d.respond m stBadParam []
    | some _ =>
      if m.dst = 34 then { d with sill.lookups0 := d.sill.lookups0 ++ [{ msg := m, desc := e }] }
      else { d with sill.lookups1 := d.sill.lookups1 ++ [{ msg := m, desc := e }] }

def Dev.setLease (d : Dev) (t who : Nat) : Dev :=
  { d with sill.leases := d.sill.leases.filter (fun e => e.1 != t) ++ [(t, who)] }

def Dev.freeLease (d : Dev) (t : Nat) : Dev := { d with sill.leases := d.sill.leases.filter (fun e => e.1 != t) }

/-- A SILL_LEASE is served (R193, R199, R200). `rival` is the router id of another party whose request for the lease arrives on
the same tick. -/
def Dev.serveLease (d : Dev) (m : Msg) (onExpiryTick : Bool) (rival : Option Nat) : Dev :=
  let t := uAt m.payload 0 1
  let release := bitOf (uAt m.payload 1 1) 0
  match d.desc t with
  | none => d.respond m stBadParam []
  | some e =>
    if !e.leased then d.respond m stBadParam []
    else
      match d.leaseOf t with
      | some h =>
        if h != m.src then d.respond m stBusy []
        else if release then (d.freeLease t).respond m stOk []
        else ((if onExpiryTick then d.satFld 0x90020 0 16 else d).setLease t m.src).respond m stOk []
      | none =>
        if release then d.respond m stOk []
        else if rival.any (fun r => r < m.src) then d.respond m stBusy []
        else (d.setLease t m.src).respond m stOk []

/-- A request that arrives during the clear is held (R195). -/
def Dev.sillArrive (d : Dev) (m : Msg) (onExpiryTick : Bool) (rival : Option Nat) : Dev :=
  if d.sill.clearing then d.sillHold (.msg m)
  else if m.typ = tySillRd then d.serveRd m
  else if m.typ = tySillWr then d.serveWr m
  else if m.typ = tySillLookup then d.serveLookup m
  else d.serveLease m onExpiryTick rival

/-- LOOKUP_REPLY: the oldest lookup of an edge completes (R190, R191, R202). -/
def Dev.lookupReply (d : Dev) (edge : Nat) : Dev :=
  let q := if edge = 0 then d.sill.lookups0 else d.sill.lookups1
  match q with
  | [] => d
  | l :: rest =>
    let d := if edge = 0 then { d with sill.lookups0 := rest } else { d with sill.lookups1 := rest }
    match lookupKeys l.desc l.msg.payload with
    | none => d.respond l.msg stBadParam []
    | some ks =>
      let (p, d) := d.poolLookup l.desc ks
      d.respond l.msg p.status (p.payload ks.length)

/-! ### Host commands -/

/-- The host takes the leases of the tables a held write touches, until it ends (R193, R567). -/
def Dev.hostLeases (d : Dev) (who a n : Nat) : Dev :=
  ((d.tablesAt a n).filter Desc.leased).foldl (fun d e => d.setLease e.table who) d

/-- The range that a held write of the host or the door will write, with its party's router id. -/
def SillHeld.lease : SillHeld → Option (Nat × Nat × Nat)
  | .write _ a bs => some (32, a, bs.length)
  | .zero _ a n => some (32, a, n)
  | .reg a bs => some (32, a, bs.length)
  | .door a bs => some (37, a, bs.length)
  | _ => none

/-- A party's write command ends, and with it its leases but those of its writes still held (R193). -/
def Dev.endLeases (d : Dev) (who : Nat) : Dev :=
  (d.sill.held.filterMap SillHeld.lease).foldl (fun d e => if e.1 = who then d.hostLeases who e.2.1 e.2.2 else d)
    { d with sill.leases := d.sill.leases.filter (fun e => e.2 != who) }

/-- A held write of the host or the door takes the leases of the tables it touches. -/
def Dev.holdWrite (d : Dev) (h : SillHeld) : Dev :=
  match h.lease with
  | some (who, a, n) => (d.hostLeases who a n).sillHold h
  | none => d.sillHold h

/-- A host write takes effect and is answered (R567). -/
def Dev.hostWrite (d : Dev) (c : Cmd) (a : Nat) (bs : List Byte) : Dev :=
  let (ok, d) := (d.endLeases 32).sillWrite a bs
  d.refuse c (if ok then stOk else stInternalFault)

/-- SILL_WRITE (R192, R567). -/
def cmdSillWrite (addr : Word) (data : List Byte) (c : Cmd) (d : Dev) : Dev :=
  let a := addr.toNat
  if data.isEmpty ∨ data.length > 4092 then d.refuse c stBadLength
  else if !inWindow a data.length then d.refuse c stBadParam
  else if !d.isOpen 4 then d.refuse c stPartnerGone
  else if d.traceOn && inTrace a data.length then d.refuse c stBusy
  else
    match d.writeGate 32 a data.length with
    | some st => d.refuse c st
    | none =>
      if d.writeHeld a data.length then d.holdWrite (.write c a data) else d.hostWrite c a data

/-- A host read is answered (R567). -/
def Dev.hostRead (d : Dev) (c : Cmd) (a n : Nat) : Dev :=
  let (r, d) := d.sillRead a n
  d.reply c (if r.ue then stInternalFault else if r.unwritten then stUnwritten else stOk) r.bytes

/-- SILL_READ (R567). -/
def cmdSillRead (addr : Word) (len : Half) (c : Cmd) (d : Dev) : Dev :=
  let a := addr.toNat
  let n := len.toNat
  if n < 1 ∨ n > 4096 ∨ !inWindow a n then d.refuse c stBadParam
  else if !d.isOpen 4 then d.refuse c stPartnerGone
  else if d.sill.clearing then d.sillHold (.read c a n)
  else d.hostRead c a n

/-- A STARTED slot uses a table: by its container's descriptors or its storm program's lookups (R186). -/
def Dev.tableUsed (d : Dev) (t : Nat) : Bool :=
  (d.busySlots.filter (fun i => (d.slot i).st == .started)).any (fun i => match (d.slot i).model with
    | some m => m.tables.contains t || (List.range (uAt m.stormProg 4 2)).any (fun k =>
        let o := 16 + 8 * uAt m.stormProg 3 1 + 16 * k
        uAt m.stormProg o 1 == 3 && uAt m.stormProg (o + 1) 1 == t)
    | none => false)

/-- A descriptor that deletes its table (R185). -/
def descDelete (b : List Byte) : Bool :=
  b.length == 32 && uAt b 0 1 ≤ 63 && uAt b 1 1 < 4 && uAt b 2 2 == 0 && allZero (bytesAt b 0x10 12) && crc32 (b.take 0x1C) == uAt b 0x1C 4

/-- SILL_TABLE_DEFINE (R185, R186, R188, R205). -/
def cmdTableDefine (desc : List Byte) (c : Cmd) (d : Dev) : Dev :=
  let e := descOf desc
  if desc.length ≠ 32 then d.refuse c stBadLength
  else if descDelete desc then
    if d.tableUsed e.table then d.refuse c stBusy else (d.dropDesc e.table).ok c
  else if !(descFormat desc && e.placed && d.descFree e) then d.refuse c stBadParam
  else if d.tableUsed e.table then d.refuse c stBusy
  else (d.setDesc e).ok c

/-- SILL_ZERO (R194, R568, R585). -/
def cmdSillZero (addr len : Word) (c : Cmd) (d : Dev) : Dev :=
  let a := addr.toNat
  let n := len.toNat
  if a % 128 ≠ 0 ∨ n % 128 ≠ 0 ∨ n = 0 ∨ !inWindow a n then d.refuse c stBadParam
  else if !d.isOpen 4 then d.refuse c stPartnerGone
  else
    match d.writeGate 32 a n with
    | some st => d.refuse c st
    | none =>
      if d.sill.clearing then d.holdWrite (.zero c a n) else (d.sillZero a n).ok c

/-! ### The scrubbers (R184) -/

/-- Correct a row. -/
def Dev.scrubRow (d : Dev) (a : Nat) : Dev := (d.sill.flipped a 128).foldl (fun d e => d.sillWordEcc e) d

/-- SCRUB_READ: unit 0 takes the next row of every bank, units 1 and 2 the next row of die 0 and die 1 (R184, R206). -/
def Dev.scrubRead (d : Dev) (u : Nat) : Dev :=
  if !d.bitAt 0x90004 0 ∨ !d.isPowered 4 then d
  else if u = 0 then
    if d.sill.clearing then d else
    let r := d.sill.scrubBank
    let d := (List.range 16).foldl (fun d b => d.scrubRow (0x1000000 + b * 0x100000 + r * 128)) d
    { d with sill.scrubBank := (r + 1) % 8192 }
  else if !Config.partT ∨ d.sill.selfRefresh then d
  else if u = 1 then
    { (d.scrubRow (dieRowAddr 0 d.sill.scrubDie0)) with sill.scrubDie0 := (d.sill.scrubDie0 + 1) % dieRows }
  else if u = 2 then
    { (d.scrubRow (dieRowAddr 1 d.sill.scrubDie1)) with sill.scrubDie1 := (d.sill.scrubDie1 + 1) % dieRows }
  else d

/-- LEASE_EXPIRY of a casement's lease (R193). -/
def Dev.leaseExpiry (d : Dev) (t : Nat) : Dev :=
  match d.leaseOf t with
  | some h => if h < 32 then d.freeLease t else d
  | none => d

/-! ### Meanings -/

/-- SILL_WRITE (R192, R567). -/
def execSillWrite (h : CmdHdr) (addr : Word) (data : List Byte) (s : State) : Host.Outcome State Fault Refusal :=
  onDev s (Dev.hostCmd 0x40 (leBytes 4 addr.toNat ++ data) h (cmdSillWrite addr data))

/-- SILL_READ (R567). -/
def execSillRead (h : CmdHdr) (addr : Word) (len : Half) (s : State) : Host.Outcome State Fault Refusal :=
  onDev s (Dev.hostCmd 0x41 (leBytes 4 addr.toNat ++ leBytes 2 len.toNat) h (cmdSillRead addr len))

/-- SILL_TABLE_DEFINE (R185, R186). -/
def execSillTableDefine (h : CmdHdr) (desc : List Byte) (s : State) : Host.Outcome State Fault Refusal :=
  onDev s (Dev.hostCmd 0x42 desc h (cmdTableDefine desc))

/-- SILL_ZERO (R194, R568). -/
def execSillZero (h : CmdHdr) (addr len : Word) (s : State) : Host.Outcome State Fault Refusal :=
  onDev s (Dev.hostCmd 0x43 (leBytes 4 addr.toNat ++ leBytes 4 len.toNat) h (cmdSillZero addr len))

/-- SILL_RD (R139, R183). -/
def execSillRd (src dst : Nat) (s : State) : Host.Outcome State Fault Refusal :=
  onRun s (fun d => d.arrive src dst tySillRd (fun m d => d.sillArrive m false none))

/-- SILL_WR (R139, R192). -/
def execSillWr (src dst : Nat) (s : State) : Host.Outcome State Fault Refusal :=
  onRun s (fun d => d.arrive src dst tySillWr (fun m d => d.sillArrive m false none))

/-- SILL_LOOKUP (R139, R189). -/
def execSillLookup (src dst : Nat) (s : State) : Host.Outcome State Fault Refusal :=
  onRun s (fun d => d.arrive src dst tySillLookup (fun m d => d.sillArrive m false none))

/-- SILL_LEASE (R139, R193, R199, R200). -/
def execSillLease (src dst : Nat) (at_ : LeaseTick) (s : State) : Host.Outcome State Fault Refusal :=
  onRun s (fun d => d.arrive src dst tySillLease (fun m d => d.sillArrive m at_.onExpiryTick at_.rival))

/-- LOOKUP_REPLY (R191). -/
def execLookupReply (edge : Nat) (s : State) : Host.Outcome State Fault Refusal := onRun s (fun d => d.lookupReply edge)

/-- LEASE_EXPIRY (R193). -/
def execLeaseExpiry (table : Nat) (s : State) : Host.Outcome State Fault Refusal := onRun s (fun d => d.leaseExpiry table)

/-- SCRUB_READ (R184). -/
def execScrubRead (u : Nat) (s : State) : Host.Outcome State Fault Refusal := onRun s (fun d => d.scrubRead u)

end Sys2Proof.Machine
end

