-- ==== Sys2Proof/Machine/Models.lean ====
section
/-! DEFINITION. Model slots and tickets (06_models_tickets_verdicts.md): loading, starting, stopping and unloading a model,
the issue of a ticket, the assembly of its record, and host-supplied windows. -/
namespace Sys2Proof.Machine

/-! ### Loading (R160, R161, R562) -/

/-- CASEMENTS of a slot, once known. -/
def Slot.casements (s : Slot) : Nat :=
  match s.model with
  | some m => m.casements
  | none => if 0x1C ≤ s.recv.length then hdrCasements s.recv else 0

/-- A casement of the mask runs code of another loaded slot: one that holds a model (R159, R161). -/
def Dev.casInUse (d : Dev) (i m : Nat) : Bool :=
  (List.range 16).any (fun j => j != i && (d.slot j).model.isSome && Nat.land (d.slot j).casements m != 0)

/-- A quadrant holding a casement of the mask is not open (R161). -/
def Dev.casClosed (d : Dev) (m : Nat) : Bool := (onesOf 32 m).any (fun c => !d.isOpen (quadOf c))

/-- The casement code sections of a container whose section table has arrived. -/
def codeSects (b : List Byte) : List Sect :=
  if 0x100 ≤ b.length && 0x100 + 16 * hdrSections b ≤ b.length && hdrSections b ≤ 64 then
    (sections b).filter (fun s => s.typ == 3 && s.target ≤ 31 && bitOf (hdrCasements b) s.target && 8 ≤ s.size)
  else []

/-- Code that has arrived of a section: casement, SRAM offset and bytes, from container offset `lo` on; only what lies below
SRAM offset 0x34F00. -/
def codeArrived (b : List Byte) (lo : Nat) (s : Sect) : Nat × Nat × List Byte :=
  let base := uAt b s.off 4
  let start := max (s.off + 8) lo
  let bytes := bytesAt b start (s.off + s.size - start)
  (s.target, base + (start - (s.off + 8)), bytes.take (0x34F00 - (base + (start - (s.off + 8)))))

/-- Write the code that a packet brought, and ENTRY once its section's head has arrived (R157, R160). -/
def Dev.writeCode (d : Dev) (old new : List Byte) : Dev :=
  let lo := if (codeSects old).isEmpty then 0 else old.length
  (codeSects new).foldl (fun d s =>
    if new.length < s.off + 8 || !d.isPowered (quadOf s.target) then d
    else
      let (c, o, bs) := codeArrived new lo s
      let d := d.updCas c (fun k => k.store o bs)
      if lo < s.off + 8 then d.regWritePlain (aCsm c 0x008) (BitVec.ofNat 32 (uAt new (s.off + 4) 4)) else d) d

/-- Zero the SRAM that a load has written (R160, R562). -/
def Dev.zeroArrived (d : Dev) (b : List Byte) : Dev :=
  (codeSects b).foldl (fun d s =>
    let (c, o, bs) := codeArrived b 0 s
    d.updCas c (fun k => { k with sram := Tab.dropRange o bs.length k.sram })) d

/-- The verification of a slot's container is for nothing: its command is refused. -/
def Dev.dropVerify (d : Dev) (i : Nat) : Dev :=
  let hit := d.db.verifs.filter (fun v => v.purpose == .container i)
  hit.foldl (fun d v => d.refuse v.cmd stBadImage)
    { d with db.verifs := d.db.verifs.filter (fun v => !(v.purpose == .container i)) }

/-- A load ends without a model: the slot is EMPTY and the SRAM written for it is zeroed (R160). -/
def Dev.abandonLoad (d : Dev) (i : Nat) : Dev := (d.zeroArrived (d.slot i).recv).setSlot i (slotDefault i)

/-- Refuse a load. -/
def Dev.loadFail (d : Dev) (i : Nat) (c : Cmd) (st : Byte) : Dev := (d.abandonLoad i).refuse c st

/-- The container's descriptors against those in force (R186): the status that refuses them, or none; each is judged with
those before it in place, a range that is not free gives BAD_PARAM. -/
def Dev.takeDescs : Dev → List Desc → Option Byte × Dev
  | d, [] => (none, d)
  | d, e :: l =>
    match d.desc e.table with
    | some x => if x = e then Dev.takeDescs d l else (some stBusy, d)
    | none => if d.descFree e then Dev.takeDescs (d.setDesc e) l else (some stBadParam, d)

/-- The container is accepted: its descriptors take effect, the cores of its casements are halted and the slot is LOADED
(R159, R160). -/
def Dev.loadAccept (d : Dev) (i : Nat) (c : Cmd) : Dev :=
  let b := (d.slot i).recv
  match d.takeDescs (containerDescs b) with
  | (some st, _) => d.loadFail i c st
  | (none, d) =>
    let d := (onesOf 32 (hdrCasements b)).foldl (fun d c => d.writeHalt c true) d
    (d.setSlot i { slotDefault i with st := .loaded, model := some (modelOf b) }).ok c

/-- ENTRY_SIZE of a table as a container's lookups will find it: its own descriptor, else the one in force, else none. -/
def Dev.entrySizeFor (d : Dev) (b : List Byte) (t : Nat) : Nat :=
  match (containerDescs b).find? (fun e => e.table == t), d.desc t with
  | some e, _ => e.entrySize
  | none, some e => e.entrySize
  | none, none => 16

/-- Every LOOKUP of a container's storm program stores its pooled entry inside the region (R190, R211). -/
def Dev.lookupsFit (d : Dev) (b : List Byte) : Bool :=
  let p := (modelOf b).stormProg
  (List.range (progOps p)).all (fun k =>
    let o := progOp p k
    uAt o 0 1 != 3 || operandOk (modelOf b).stormBuf (uAt o 6 2) (d.entrySizeFor b (uAt o 1 1)))

/-- The last packet of a container has arrived (R158, R463). -/
def Dev.loadComplete (d : Dev) (i : Nat) (c : Cmd) : Dev :=
  let b := (d.slot i).recv
  if !containerValid b || !d.lookupsFit b then d.loadFail i c stBadImage
  else
    match d.judgeAuth (bytesAt b 0x80 128) with
    | .accept => d.loadAccept i c
    | .refuse st => d.loadFail i c st
    | .verify => d.startVerify { cmd := c, purpose := .container i, digest := objectDigest b, sig := objectSig b }

/-- What refuses a packet of a container, with no side effect (R161, R562): `old` has arrived before it. -/
def Dev.packetRefusal (d : Dev) (i : Nat) (old data : List Byte) : Option Byte :=
  let b := old ++ data
  let judged := old.length < 0x1C && 0x1C ≤ b.length
  firstFail [
    (b.length > 0x800000 || (12 ≤ b.length && b.length > hdrTotal b), stBadParam),
    (judged && d.casInUse i (hdrCasements b), stBusy),
    (judged && d.casClosed (hdrCasements b), stPartnerGone)]

/-- A packet of a container is taken in (R160, R562). -/
def Dev.loadPacket (d : Dev) (i : Nat) (old data : List Byte) (c : Cmd) : Dev :=
  let b := old ++ data
  let d := (d.updSlot i (fun s => { s with st := .loading, recv := b })).writeCode old b
  if 12 ≤ b.length && b.length = hdrTotal b then d.loadComplete i c else d.ok c

/-- A packet that is not refused is taken in; one at offset 0 of a LOADING slot abandons the load before it (R562). -/
def Dev.takePacket (d : Dev) (i : Nat) (old data : List Byte) (c : Cmd) : Dev :=
  match d.packetRefusal i old data with
  | some st => d.refuse c st
  | none =>
    let d := if old.isEmpty && (d.slot i).st == .loading then (d.dropVerify i).abandonLoad i else d
    d.loadPacket i old data c

/-- MODEL_LOAD (R161, R562). -/
def cmdModelLoad (slot : Byte) (offset : Nat) (data : List Byte) (c : Cmd) (d : Dev) : Dev :=
  let i := slot.toNat
  let s := d.slot i
  if data.isEmpty ∨ data.length > 4092 then d.refuse c stBadLength
  else if i > 15 then d.refuse c stBadParam
  else if s.st = .loading then
    (if offset = 0 then d.takePacket i [] data c
     else if offset = s.recv.length ∧ !d.db.verifs.any (fun v => v.purpose == .container i) then d.takePacket i s.recv data c
     else d.refuse c stBadParam)
  else if s.st != .empty then d.refuse c stBusy
  else if offset ≠ 0 then d.refuse c stBadParam
  else d.takePacket i [] data c

/-! ### Unloading (R163, R564) -/

/-- Another slot that is not EMPTY names a table. -/
def Dev.tableElsewhere (d : Dev) (i t : Nat) : Bool :=
  (List.range 16).any (fun j => j != i && (match (d.slot j).model with | some m => m.tables.contains t | none => false))

/-- A LOADED slot becomes EMPTY: its code regions are zeroed and its table descriptors removed (R163, R188). -/
def Dev.unload (d : Dev) (i : Nat) : Dev :=
  match (d.slot i).model with
  | none => d.setSlot i (slotDefault i)
  | some m =>
    let d := m.code.foldl (fun d (e : Nat × Nat × Nat) =>
      d.updCas e.1 (fun k => { k with sram := Tab.dropRange e.2.1 e.2.2 k.sram })) d
    let d := m.tables.foldl (fun d t => if d.tableElsewhere i t then d else d.dropDesc t) d
    d.setSlot i (slotDefault i)

/-- MODEL_UNLOAD (R163, R564). -/
def cmdModelUnload (slot : Byte) (c : Cmd) (d : Dev) : Dev :=
  let i := slot.toNat
  if i > 15 then d.refuse c stBadParam
  else
    match (d.slot i).st with
    | .empty => d.ok c
    | .loading => ((d.dropVerify i).abandonLoad i).ok c
    | .loaded => (d.unload i).ok c
    | .started => d.refuse c stBusy
    | .stopping => d.refuse c stBusy

/-! ### Starting (R162, R563) -/

/-- The reserve that RESERVE selects. -/
def reserveOf (reserve : Nat) : Nat := if reserve = 0 then 8 else reserve

/-- Reserved tickets of the started and stopping slots. -/
def Dev.reserves (d : Dev) : Nat := (d.busySlots.map (fun i => (d.slot i).reserve)).sum

/-- A pane of a ticket map cannot be bound (R162): PROGRAMMING, queued for it, or bound to another started slot (R81, R85). -/
def Dev.paneTaken (d : Dev) (p : Nat) : Bool := (d.pane p).st == .programming || d.progQueued p || d.bound p

/-- What refuses a MODEL_START (R162, R563). -/
def Dev.startRefusal (d : Dev) (i policy reserve dest mask : Nat) : Option Byte :=
  let s := d.slot i
  firstFail [
    (i > 15 || policy > 3 || dest > 15 || !(reserve == 0 || (4 ≤ reserve && reserve ≤ 32)), stBadParam),
    (bitOf dest 3 && mask != 0, stBadParam),
    (s.st != .loaded || d.busySlots.length ≥ 4 || d.reserves + reserveOf reserve > 128, stBusy),
    (match s.model with | some m => (onesOf 128 m.panes).any d.paneTaken | none => false, stBusy),
    (match s.model with | some m => (onesOf 16 mask).any (fun ch => d.fldAt (aAcq ch 0x00) 16 7 * 64 != m.winLen) | none => false,
      stBadParam)]

/-- MODE as an instance starts (R23, R179). An instance with both mappings whose policy forbids reduced service waits in mode
3 for its panes (DESIGN CHOICE, log entry 200), and one with only a streamed mapping runs streamed whatever its policy
(DESIGN CHOICE, log entry 41): the spec gives neither. -/
def Dev.startMode (d : Dev) (i : Nat) : Nat :=
  let s := d.slot i
  if s.hasPlaced && d.allTrusted i then 2 else if s.hasStreamed && (s.reducedOk || !s.hasPlaced) then 1 else 3

/-- Tolerances are computed for every path of the map (R233). -/
def Dev.startTaus (d : Dev) (i : Nat) (panes : List Nat) : Dev := panes.foldl (fun d p => d.setTau i p p) d

/-- The instance starts (R162). -/
def Dev.startModel (d : Dev) (i policy reserve dest mask : Nat) : Dev :=
  match (d.slot i).model with
  | none => d
  | some m =>
    let d := (d.storm.samples.filter (fun x => x.slot == i)).foldl (fun d x => d.abandon x) d
    let d := { d with chk := { d.chk with
      pend := d.chk.pend.map (fun (p : Pend) => if p.slot = i then { p with past := true } else p)
      failSteps := d.chk.failSteps.filter (fun e => e.1 != i), lostSteps := d.chk.lostSteps.filter (fun e => e.1 != i) } }
    let d := d.setSlot i { slotDefault i with
      st := .started, model := some m, policy := Nat.land policy (fld m.flags 2 2), reserve := reserveOf reserve,
      dest := dest, mask := mask }
    let d := { d with mdl.lossOf := d.mdl.lossOf.filter (fun e => e != (d.stackId, i)) }
    let d := d.startTaus i (onesOf 128 m.panes)
    let d := (onesOf 32 m.casements).foldl (fun d c => d.writeHalt c false) d
    let mode : Nat := d.startMode i
    if mode = 2 then d.enterPlaced i else d.updSlot i (fun s => { s with mode := mode })

/-- MODEL_START (R162, R563). -/
def cmdModelStart (slot policy reserve dest : Byte) (mask : Half) (c : Cmd) (d : Dev) : Dev :=
  let i := slot.toNat
  match d.startRefusal i policy.toNat reserve.toNat dest.toNat mask.toNat with
  | some st => d.refuse c st
  | none =>
    let d := d.startModel i policy.toNat reserve.toNat dest.toNat mask.toNat
    d.reply c stOk ([slot] ++ leBytes 1 (d.slot i).mode ++ leBytes 1 (d.slot i).reserve ++ [0])

/-! ### Stopping (R163, R564) -/

/-- Tickets that a slot holds. -/
def Dev.heldBy (d : Dev) (i : Nat) : List Nat :=
  (List.range 128).filter (fun t => (d.ticket t).st != .free && (d.ticket t).slot == i)

/-- Grafts of a slot's ticket map end (R85, R163). -/
def Dev.endGrafts (d : Dev) (i : Nat) (panes : List Nat) : Dev :=
  panes.foldl (fun d o =>
    ((d.setFld (aPane (d.servingIn i o) 0x30) 8 1 0).setFld (aPane o 0x30) 8 1 0).dropGraft i o) d

/-- The last record of a stopping slot has left: it is LOADED, its command is answered, and, after a quadrant lost its code,
it is emptied (R163, R177). The last placed slot to stop leaves the device AJAR (R379). -/
def Dev.stopDone (d : Dev) (i : Nat) : Dev :=
  let s := d.slot i
  if s.st != .stopping || !(d.heldBy i).isEmpty || d.mdl.done.any (fun r => r.slot == i) then d
  else
    let panes := match s.model with | some m => onesOf 128 m.panes | none => []
    let cas := match s.model with | some m => onesOf 32 m.casements | none => []
    let wasPlaced := s.mode = 2
    let d := d.endGrafts i panes
    let d := { d with
      storm.lanes := d.storm.lanes.filter (fun (l : Lane) => l.slot != i)
      chk.tau := d.chk.tau.filter (fun e => e.2.1 != i)
      chk.flags := d.chk.flags.filter (fun e => e.2.1 != i)
      chk.flagged := d.chk.flagged.filter (fun e => e.1 != i)
      mdl.tickets := Tab.dropRange (128 * (i + 1)) 128 d.mdl.tickets }
    let d := cas.foldl (fun d c => d.writeHalt c true) d
    let d := d.setSlot i { slotDefault i with st := .loaded, model := s.model, step := s.step, seq := s.seq, nextEmit := s.nextEmit }
    let d := match s.stopCmd with | some c => d.reply c stOk (leBytes 4 s.step) | none => d
    let d := if s.unloadAfter then (d.unload i).noteState 7 i 0 else d
    if wasPlaced && d.sys.main = .opened && !(d.busySlots.any (fun j => (d.slot j).placed)) then d.setMain .ajar else d

/-- Window acceptance stops at once (R163). -/
def Dev.stopModel (d : Dev) (i : Nat) (c : Option Cmd) : Dev :=
  let d := d.updSlot i (fun s => { s with st := .stopping, stopCmd := c })
  (d.endDumps (fun x => x.slot == i) stPartnerGone).stopDone i

/-- A quadrant holding code of a loaded slot reopens with its SRAM zeroed (R177). -/
def Dev.codeLost (d : Dev) (i : Nat) : Dev :=
  match (d.slot i).st with
  | .empty => d
  | .loading => (d.dropVerify i).abandonLoad i
  | .loaded => (d.unload i).noteState 7 i 0
  | .started => (d.updSlot i (fun s => { s with unloadAfter := true })).stopModel i none
  | .stopping => d.updSlot i (fun s => { s with unloadAfter := true })

/-- MODEL_STOP (R163, R564). -/
def cmdModelStop (slot : Byte) (c : Cmd) (d : Dev) : Dev :=
  let i := slot.toNat
  if i > 15 then d.refuse c stBadParam
  else
    match (d.slot i).st with
    | .loaded => d.reply c stOk (leBytes 4 (d.slot i).step)
    | .stopping => d.refuse c stBusy
    | .started => d.stopModel i (some c)
    | .empty => d.refuse c stBadParam
    | .loading => d.refuse c stBadParam

/-! ### Records of tickets (R166, R170, R171, R238) -/

/-- A record range test of the check configuration fails (R235, R237). -/
def recordRange (cfg : CheckCfg) (v : VerdictIn) : Bool :=
  cfg.ranges.any (fun r => r.target == 0xFF &&
    (let x := if r.column = 0 then v.score1 else v.anomaly
     x < r.lo || x > r.hi))

/-- The reason that the ticket's own products give its record (R221, R238), in the numbers of CHECK. -/
def Dev.ownReason (d : Dev) (k : Ticket) (v : VerdictIn) : Option Nat :=
  firstFail [
    (k.evidence.any (·.ckFail), 1),
    (k.evidence.any (·.range) || recordRange (d.ckOf k.slot) v, 5),
    (k.evidence.any (·.ckSkip), 2),
    (k.mode == 2 && k.fired.any (fun p => (d.tensorOf k.slot p).isNone), 3)]

/-- CHECK's flag bits (R171, R238, R283). -/
def checkFlags (k : Ticket) (reduced : Bool) : Nat :=
  maskOfList (onesOf 16 k.wflags ++ (if k.evidence.any (·.ovr) then [6] else []) ++ (if reduced then [8] else [])
    ++ (if k.evidence.any (·.ckSkip) then [11] else []))

/-- The status of a ticket's record (R28, R170): the first product's refusal, then what its code gives, then UNWRITTEN. -/
def Ticket.status (k : Ticket) (v : VerdictIn) : Byte :=
  match k.evidence.find? (fun e => e.status != stOk) with
  | some e => e.status
  | none => if v.status = stOk && k.unwritten then stUnwritten else v.status

/-- No verdict, under a status. -/
def noVerdict (st : Byte) : VerdictIn :=
  { status := st, hyp := 0, valid := false, class1 := 255, class2 := 255, score1 := -32768, score2 := -32768, anomaly := -32768 }

/-- Products of a ticket that has ended are discarded, with their buffers (R131, R166); a sample staged from one that was not
collected is abandoned (R222). -/
def Dev.dropTicketFires (d : Dev) (t : Nat) : Dev :=
  let hit := d.csm.filter (fun e => e.2.fires.any (fun f => f.ticket == t))
  let ids := (hit.map (fun e => (e.2.fires.filter (fun f => f.ticket == t)).map (·.id))).flatten
  let d := hit.foldl (fun d e => d.updCas e.1 (fun k => { k with fires := k.fires.filter (fun f => f.ticket != t) })) d
  (d.storm.samples.filter (fun s => s.st == .fired && ids.contains s.fire)).foldl (fun d s => d.abandon s) d

/-- The record of a ticket is assembled, under a status of its own or a forced one, and the ticket is DONE (R164, R171). A
record that EMIT forms carries REDUCED also without a verdict (R216). -/
def Dev.endTicket (d : Dev) (t : Nat) (v : VerdictIn) (forced : Option Byte) (emit : Bool) : Dev :=
  let k := d.ticket t
  let st := forced.getD (k.status v)
  let y := hasVerdict st
  let reduced := emit || (y && (k.streamed || k.evidence.any (·.storm)))
  let lin := if y then k.lineage else []
  let r : DoneRec := {
    slot := k.slot, step := k.step, verdict := y, reason := if y then d.ownReason k v else none,
    ticket := some t, dest := (d.slot k.slot).dest,
    bytes := recordBytes k.slot k.channel (some t) { v with status := st } k.step (checkFlags k reduced) k.wend lin }
  let d := { (d.setTicket t { k with st := .done }) with
    mul.dispatch := d.mul.dispatch.filter (fun m => m.ticket != t) }.dropTicketFires t
  let d := { d with mdl.done := d.mdl.done ++ [d.assemble r] }
  d.endDumps (fun x => x.slot == k.slot && x.step == k.step) stTimeout

/-- A placed ticket is to be completed by the model's streamed program (R24, R27): what it has computed so far is dropped. -/
def Dev.streamTicket (d : Dev) (t : Nat) : Dev :=
  let d := d.updTicket t (fun k => { k with byStorm := true, st := .issued, evidence := [], fired := [], lineage := [] })
  { d with mul.dispatch := d.mul.dispatch.filter (fun m => m.ticket != t) }.dropTicketFires t

/-- A ticket ends otherwise than by EMIT. -/
def Dev.finishTicket (d : Dev) (t : Nat) (v : VerdictIn) (forced : Option Byte) : Dev := d.endTicket t v forced false

/-- A record without a ticket (R25, R165, R285). -/
def Dev.recordOnly (d : Dev) (i ch step wflags wend : Nat) (st : Byte) : Dev :=
  let r : DoneRec := {
    slot := i, step := step, verdict := false, reason := none, ticket := none, dest := (d.slot i).dest,
    bytes := recordBytes i ch none (noVerdict st) step wflags wend [] }
  { d with mdl.done := d.mdl.done ++ [r] }

/-! ### Issue (R22, R23, R164, R165) -/

/-- A window as it is offered to an instance. -/
structure WinIn where
  ch : Nat
  xs : List Int
  wflags : Nat
  wend : Nat
  /-- Not classified, under this status (R285). -/
  gap : Option Byte
  host : Bool

/-- The ticket that a slot may take: from its reserve, else from the pool left unreserved; the lowest FREE one (R164). -/
def Dev.freeTicket (d : Dev) (i : Nat) : Option Nat :=
  let held := fun j => (d.heldBy j).length
  let used := (d.busySlots.map (fun j => held j - (d.slot j).reserve)).sum
  if held i < (d.slot i).reserve || used + d.reserves < 128 then (List.range 128).find? (fun t => (d.ticket t).st == .free) else none

/-- A window of the instance is not classified because its panes are not TRUSTED (R23, R25). -/
def Dev.unready (d : Dev) (i : Nat) : Bool :=
  let s := d.slot i
  s.mode == 3 || (s.mode == 2 && !s.hasStreamed && (d.mapOf i).any (fun o =>
    let st := (d.pane (d.servingIn i o)).st
    st == .unverified || st == .auditing))

/-- The window as it travels: INT16 samples in messages of at most 16 flits (R139, R283). -/
def windowChunks (xs : List Int) : List (List Byte) := chunks 32 512 ((xs.map (fun x => leBytes 2 (tc 16 x))).flatten)

/-- The window's messages join the dispatch, for every casement of the model that grants the front a quota (R141, R164). -/
def Dev.dispatchWindow (d : Dev) (i t : Nat) (xs : List Int) : Dev :=
  let dests := (onesOf 32 (d.slot i).casements).filter (fun c => d.quota c 36 > 0)
  let ms : List Msg := (dests.map (fun c => (windowChunks xs).map (fun p =>
    { src := 36, dst := c, typ := tyData, len := (p.length + 31) / 32 - 1, tag := 0, ticket := t, status := 0, notify := false,
      payload := p }))).flatten
  { d with mul.dispatch := d.mul.dispatch ++ ms }.pumpWindows

/-- Grafts of a slot's ticket map in force (R85). -/
def Dev.graftsOf (d : Dev) (i : Nat) : List (Nat × Nat) :=
  (d.mapOf i).filterMap (fun o => (d.graftOf i o).map (fun x => (o, x)))

/-- Panes of a slot's ticket map whose products the storm engine takes over for a ticket that is issued now (R24, R170). -/
def Dev.stormPanes (d : Dev) (i : Nat) : List Nat :=
  let s := d.slot i
  if s.reducedOk && d.stormOpen then (d.mapOf i).filter (fun o => !d.canCompute (d.servingIn i o)) else []

/-- Casements of an instance, of its code and of the panes that serve it, that are shuttered or fenced (R21, R27, R147). -/
def Dev.missing (d : Dev) (i : Nat) : List Nat :=
  (List.range 32).filter (fun c => !d.casUp c && (bitOf (d.slot i).casements c
    || (d.mapOf i).any (fun o => d.servingIn i o / 4 == c)))

/-- A placed ticket is issued while casements of its instance are gone (R21, R27, R147, R170): the streamed program completes
it if the model carries one and the policy permits; a pane that is lost without code of the model is the storm's (R24);
otherwise the record carries PARTNER_GONE. -/
def Dev.issueLost (d : Dev) (i t : Nat) (gone : List Nat) : Dev :=
  let s := d.slot i
  if s.hasStreamed && s.reducedOk && d.stormOpen then d.streamTicket t
  else if s.reducedOk && d.stormOpen && !gone.any (fun c => bitOf s.casements c) then d
  else d.finishTicket t (noVerdict stPartnerGone) (some stPartnerGone)

/-- A ticket is issued for a window (R164), in the instance's mode (R22). -/
def Dev.issueTicket (d : Dev) (i t step : Nat) (w : WinIn) : Dev :=
  let s := d.slot i
  let d := d.setTicket t { ticketDefault t with
    st := .issued, slot := i, channel := w.ch, step := step, mode := s.mode, window := w.xs,
    wflags := w.wflags, wend := w.wend, issuedAt := d.now, grafts := d.graftsOf i, viaStorm := if s.mode = 2 then d.stormPanes i else [] }
  let d := d.trace 32 2 (leBytes 1 i ++ leBytes 1 t ++ leBytes 4 step)
  let d := d.highWater (0x106 + 16 * i) (d.heldBy i).length
  let d := d.latchEvent 32 0 (stepMatch i step)
  match w.gap with
  | some st => d.finishTicket t (noVerdict st) (some st)
  | none =>
    if s.mode = 1 then
      (if d.isOpen 3 && d.isOpen 4 then d else d.finishTicket t (noVerdict stPartnerGone) (some stPartnerGone))
    else
      let gone := d.missing i
      let d := if gone.isEmpty then d else d.issueLost i t gone
      if (d.ticket t).live then (d.takeSamples t).dispatchWindow i t w.xs else d

/-- A window is accepted (R165): it takes the instance's next step, and a ticket or a record without one. The answer is the
ticket and the step. For a window with a gap whose instance also waits for its panes the spec gives no order of R25 and R285:
PANE_UNVERIFIED goes first (DESIGN CHOICE, log entry 201). -/
def Dev.acceptWindow (d : Dev) (i : Nat) (w : WinIn) : (Option Nat × Nat) × Dev :=
  let step := (d.slot i).step
  let free := d.freeTicket i
  let unready := d.unready i
  let d := d.updSlot i (fun s => { s with step := (s.step + 1) % 2 ^ 32 })
  if unready then ((none, step), d.recordOnly i w.ch step w.wflags w.wend stPaneUnverified)
  else if w.gap.isSome && !w.host then ((none, step), d.recordOnly i w.ch step w.wflags w.wend (w.gap.getD 0))
  else
    match free with
    | none => ((none, step), d.recordOnly i w.ch step w.wflags w.wend stQueueFull)
    | some t => ((some t, step), d.issueTicket i t step w)

/-! ### RUN_WINDOW (R173, R565) -/

/-- A word of a host window as an INT16 sample, and whether it carries OVR (R173, R283). -/
def hostSample (shift : Nat) (v : Int) : Int × Bool :=
  if v = -8388608 then (-32768, false)
  else
    let x := clampI (-8388607) 8388607 v
    let y := roundAway ((x : Rat) / ((2 ^ shift : Nat) : Rat))
    (clampI (-32767) 32767 y, x != v || y > 32767 || y < -32767)

/-- A host window's samples and CHECK bits. -/
def hostWindow (shift wflags : Nat) (words : List Int) : List (Int × Bool) × Nat :=
  let xs := words.map (hostSample shift)
  (xs, maskOfList ((if xs.any (·.2) then [6] else []) ++ (if words.contains (-8388608) then [7] else [])
    ++ (if bitOf wflags 0 then [9] else []) ++ (if bitOf wflags 1 then [10] else []) ++ [12]))

/-- RUN_WINDOW (R173, R565). -/
def cmdRunWindow (slot channel wshift wflags : Byte) (addr : Word) (c : Cmd) (d : Dev) : Dev :=
  let i := slot.toNat
  let a := addr.toNat
  if i > 15 ∨ channel.toNat > 15 ∨ wshift.toNat > 8 ∨ wflags.toNat > 3 ∨ a % 4 ≠ 0 then d.refuse c stBadParam
  else if (d.slot i).st != .started then d.refuse c stBusy
  else
    match (d.slot i).model with
    | none => d.refuse c stBusy
    | some m =>
      if !inWindow a (4 * m.winLen) then d.refuse c stBadParam
      else if !d.isOpen 4 then d.refuse c stPartnerGone
      else if !d.unready i && (d.freeTicket i).isNone then d.refuse c stQueueFull
      else if d.sill.clearing then d.sillHold (.window c slot channel wshift wflags addr)
      else
        let (r, d) := d.sillRead a (4 * m.winLen)
        if r.ue then d.refuse c stInternalFault
        else
          let words := (List.range m.winLen).map (fun k => sxt 32 (uAt r.bytes (4 * k) 4))
          let (xs, fl) := hostWindow wshift.toNat wflags.toNat words
          let w : WinIn := { ch := channel.toNat, xs := xs.map (·.1), wflags := fl, wend := d.now / 256 % 2 ^ 40,
                             gap := if bitOf fl 7 then some stProbeOpen else none, host := true }
          let ((t, step), d) := d.acceptWindow i w
          d.reply c stOk (leBytes 1 (match t with | some t => t | none => 128) ++ [0, 0, 0] ++ leBytes 4 step)

/-! ### The ends of tickets (R164, R166) -/

/-- TICKET_DONE: casement code hands over a placed ticket's verdict. -/
def Dev.ticketDone (d : Dev) (t : Nat) (v : VerdictIn) (onExpiryTick : Bool) : Dev :=
  let k := d.ticket t
  if t < 128 && k.live then
    (if onExpiryTick then d.satFld (aSlot k.slot 0x0C) 16 16 else d).finishTicket t v none
  else d

/-- TICKET_LIMIT_EXPIRY (R166, R227). -/
def Dev.ticketExpiry (d : Dev) (t : Nat) : Dev :=
  let k := d.ticket t
  if t < 128 && (k.st == .issued || k.st == .running) then
    let d := match d.storm.run with
      | some r => { d with storm.run := some { r with regions := r.regions.filter (fun (x : Region) => x.ticket != t) } }
      | none => d
    d.finishTicket t (noVerdict stTimeout) (some stTimeout)
  else d

/-- The record of a slot's next step leaves, if it is there (R167). -/
def Dev.emitNext (d : Dev) (i : Nat) : Dev :=
  match d.nextDone i with
  | some r => (d.emit r).stopDone i
  | none => d

/-- RECORD_EMIT (R167). With one entry of the result queue free, a record of a lower slot that is ready for it enters first
(R176). -/
def Dev.recordEmit (d : Dev) (i : Nat) : Dev :=
  if i > 15 then d
  else if d.mdl.resq.length = 255 && d.ownHost && (d.nextDone i).isSome then
    match (List.range i).find? (fun j => match d.nextDone j with | some r => bitOf r.dest 0 | none => false) with
    | some j => (d.emitNext j).emitNext i
    | none => d.emitNext i
  else d.emitNext i

/-! ### Meanings -/

/-- MODEL_LOAD (R160, R161, R562). -/
def execModelLoad (h : CmdHdr) (slot : Byte) (offset : Nat) (data : List Byte) (s : State) : Host.Outcome State Fault Refusal :=
  onDev s (Dev.hostCmd 0x30 ([slot] ++ leBytes 3 offset ++ data) h (cmdModelLoad slot (offset % 2 ^ 24) data))

/-- MODEL_START (R162, R563). -/
def execModelStart (h : CmdHdr) (slot policy reserve dest : Byte) (mask : Half) (s : State) : Host.Outcome State Fault Refusal :=
  onDev s (Dev.hostCmd 0x31 ([slot, policy, reserve, dest] ++ leBytes 2 mask.toNat ++ [0, 0]) h
    (cmdModelStart slot policy reserve dest mask))

/-- MODEL_STOP (R163, R564). -/
def execModelStop (h : CmdHdr) (slot : Byte) (s : State) : Host.Outcome State Fault Refusal :=
  onDev s (Dev.hostCmd 0x32 [slot] h (cmdModelStop slot))

/-- MODEL_UNLOAD (R163, R564). -/
def execModelUnload (h : CmdHdr) (slot : Byte) (s : State) : Host.Outcome State Fault Refusal :=
  onDev s (Dev.hostCmd 0x33 [slot] h (cmdModelUnload slot))

/-- RUN_WINDOW (R173, R565). -/
def execRunWindow (h : CmdHdr) (slot channel wshift wflags : Byte) (addr : Word) (s : State) : Host.Outcome State Fault Refusal :=
  onDev s (Dev.hostCmd 0x34 ([slot, channel, wshift, wflags] ++ leBytes 4 addr.toNat) h
    (cmdRunWindow slot channel wshift wflags addr))

/-- TICKET_DONE (R164, R166). -/
def execTicketDone (ticket : Nat) (v : VerdictIn) (onExpiryTick : Bool) (s : State) : Host.Outcome State Fault Refusal :=
  onRun s (fun d => d.ticketDone ticket v onExpiryTick)

/-- RECORD_EMIT (R167). -/
def execRecordEmit (slot : Nat) (s : State) : Host.Outcome State Fault Refusal := onRun s (fun d => d.recordEmit slot)

/-- TICKET_LIMIT_EXPIRY (R166). -/
def execTicketLimitExpiry (ticket : Nat) (s : State) : Host.Outcome State Fault Refusal :=
  onRun s (fun d => d.ticketExpiry ticket)

end Sys2Proof.Machine
end

