-- ==== Sys2Proof/Machine/CasementNet.lean ====
section
/-! DEFINITION. The casement's network interface (05_casements_and_mullion.md R139 to R148): the inbox rings, RSP slots and
request timers, and casement faults with fence, reclaim and restart. -/
namespace Sys2Proof.Machine

/-! ### Local SRAM (R124, and the address map) -/

/-- SRAM offsets of the three rings. -/
def reqBase : Nat := 0x34F00
def rspBase : Nat := 0x38F00
def ctlBase : Nat := 0x3AF00
def ledgerBase : Nat := 0x3BF00

/-- A byte of the local SRAM as the core and the units read it: the ledger entries stand at the top (R115). -/
def Dev.sramByte (d : Dev) (c o : Nat) : Byte :=
  if ledgerBase ≤ o then
    let r := o - ledgerBase
    let p := 4 * c + r / 0x1040
    match (d.pane p).ledger with
    | none => 0
    | some l =>
      match l.cols[r % 0x1040 / 8]? with
      | some e => nthD (d.ledgerEntry p (r % 0x1040 / 8) l e) (r % 8) 0
      | none => 0
  else Tab.get (fun _ => 0) (d.cas c).sram o

/-- Bytes of the local SRAM. -/
def Dev.sramBytes (d : Dev) (c o n : Nat) : List Byte := (List.range n).map (fun k => d.sramByte c (o + k))

/-- Store bytes in the local SRAM. -/
def Dev.sramStore (d : Dev) (c o : Nat) (bs : List Byte) : Dev :=
  d.updCas c (fun k => k.store o bs)

/-! ### Contexts of home tickets (R408) -/

/-- SERVING of a slot's destinations (R408, R563). -/
def Slot.serving (s : Slot) : Bool := bitOf s.dest 3

/-- MODEL_ID of a slot; 0 without a model. -/
def Slot.modelId (s : Slot) : Nat := match s.model with | some m => m.modelId.toNat | none => 0

/-- The serving slot whose code a casement runs. -/
def Dev.servingSlot (d : Dev) (c : Nat) : Option Nat :=
  d.startedSlots.find? (fun i => (d.slot i).serving && bitOf (d.slot i).casements c)

/-- The key under which a ticket number of a casement stands: the chip's own ticket, or a home ticket's context in the
serving slot (R408). -/
def Dev.ctxKey (d : Dev) (c t : Nat) : Nat :=
  match d.servingSlot c with
  | some i => 128 * (i + 1) + t
  | none => t

/-- A message from the door reaches a casement of a serving slot: a step not seen before is one ticket of the slot's walk
(R408, R409). -/
def Dev.serveStep (d : Dev) (c : Nat) (envelope : List Byte) : Dev :=
  match d.servingSlot c with
  | none => d
  | some i =>
    let t := 128 * (i + 1) + uAt envelope 8 1 % 128
    let k := d.ticket t
    let step := uAt envelope 4 4
    if k.live && k.step = step then d
    else
      let d := d.setTicket t { ticketDefault t with
        st := .running, slot := i, channel := uAt envelope 0 1, step := step, mode := 2, grafts := d.graftsOf i }
      d.takeSamples t

/-! ### The inbox (R133, R141) -/

/-- The lowest ring slot that no message of a list holds. -/
def freeSlot (l : List InMsg) (n : Nat) : Option Nat := (List.range n).find? (fun s => l.all (fun m => m.slot != s))

/-- A DATA or REQ_USER enters the REQ ring, or finds it full (R141). -/
def Dev.inboxReq (d : Dev) (m : Msg) : Dev :=
  let c := m.dst
  let k := d.cas c
  match freeSlot k.req 32 with
  | none =>
    let d := d.returnCredit c m.src
    if m.typ = tyReqUser || m.notify then d.netSend (rspTo m stQueueFull []) else d
  | some s =>
    let d := d.setCas c { k.store (reqBase + 512 * s) m.payload with
      req := k.req ++ [{ slot := s, src := m.src, len := m.len, typ := m.typ, tag := m.tag, ticket := m.ticket }] }
    d.highWater (0x020 + c) (k.req.length + 1)

/-- A DATA for the door: its envelope names the partner (R408). Without a route it is answered only when NOTIFY is set. -/
def Dev.doorData (d : Dev) (m : Msg) : Dev :=
  let target := uAt m.payload 0 1 % 4
  let body := leBytes 1 d.stackId ++ m.payload.drop 1
  match d.stkSend target 3 0 (sideband m ++ body) with
  | (true, d) => d
  | (false, d) => if m.notify then d.respond m stPartnerGone [] else d

/-- A DATA arrives (R139): at a casement's inbox, at the door, or at an edge that has no use for it. -/
def Dev.takeData (d : Dev) (m : Msg) : Dev :=
  if m.dst < 32 then (if m.src = 37 then d.serveStep m.dst m.payload else d).inboxReq m
  else if m.dst = 37 then d.doorData m
  else d

/-- A REQ_USER arrives; an edge router serves none and refuses it with BAD_PARAM. -/
def Dev.takeReqUser (d : Dev) (m : Msg) : Dev :=
  if m.dst < 32 then d.inboxReq m else d.respond m stBadParam []

/-- A CONTROL arrives: the CTL ring of a casement, or an edge, which consumes it. -/
def Dev.takeControl (d : Dev) (m : Msg) : Dev :=
  if m.dst < 32 then
    let k := d.cas m.dst
    match freeSlot k.ctl 8 with
    | none => d
    | some s => d.setCas m.dst { k.store (ctlBase + 512 * s) m.payload with
        ctl := k.ctl ++ [{ slot := s, src := m.src, len := m.len, typ := m.typ, tag := m.tag, ticket := m.ticket }] }
  else d

/-- A CREDIT arrives: its source has granted or returned credits (R141). -/
def Dev.takeCredit (d : Dev) (m : Msg) : Dev :=
  (d.setCredit m.dst m.src (d.credit m.dst m.src + uAt m.payload 0 1)).pumpWindows

/-! ### Instructions end (R123) -/

/-- The core's instruction has ended: a HALT that waited takes effect (R123). -/
def Casement.boundary (k : Casement) : Casement :=
  if k.haltPending then { k with wait := .none, haltPending := false, core := .halted } else { k with wait := .none }

/-- A register of the core; x0 reads zero. -/
def Casement.xr (k : Casement) (r : Nat) : Word := if r = 0 then 0 else Tab.get (fun _ => 0) k.x r

/-- Write a register; x0 discards. -/
def Casement.setX (k : Casement) (r : Nat) (v : Word) : Casement :=
  if r = 0 then k else { k with x := Tab.set (fun _ => 0) k.x r v }

/-- Reset value of a CSR: mtvec and the custom CSRs zero; mstatus.MPP machine mode; misa RV32IMC. -/
def csrReset (n : Nat) : Word := if n = 0x300 then 0x1800 else if n = 0x301 then 0x40001104 else 0

def Casement.csrAt (k : Casement) (n : Nat) : Word := Tab.get csrReset k.csr n
def Casement.setCsr (k : Casement) (n : Nat) (v : Word) : Casement := { k with csr := Tab.set csrReset k.csr n v }

/-- An instruction has retired: minstret counts it. -/
def Casement.retire (k : Casement) : Casement :=
  let v := (k.csrAt 0xB82).toNat * 2 ^ 32 + (k.csrAt 0xB02).toNat + 1
  (k.setCsr 0xB02 (BitVec.ofNat 32 v)).setCsr 0xB82 (BitVec.ofNat 32 (v / 2 ^ 32))

/-- An instruction of `n` bytes ends with a value in rd and the pc behind it. -/
def Casement.done (k : Casement) (n rd : Nat) (v : Word) : Casement :=
  ({ (k.setX rd v).retire with pc := k.pc + BitVec.ofNat 32 n }).boundary

/-! ### Tickets that lose panes (R24, R27, R147) -/

/-- Products of a pane of the map that a ticket has had delivered: collected, or in their result buffer with a status of
OK (R27). -/
def Dev.deliveredOf (d : Dev) (t o : Nat) : Nat :=
  ((d.ticket t).evidence.filter (fun e => e.path == o)).length
    + ((d.cas (o / 4)).fires.filter (fun f => f.ticket == t && f.slot == o % 4
        && (match f.result with | some r => r.status == stOk | none => false))).length

/-- Products of a pane of the map that a ticket takes: those that its path's check configuration gives (R235), or those it has
fired where they are more. -/
def Dev.productsOf (d : Dev) (t o : Nat) : Nat :=
  max ((d.ckOf (d.ticket t).slot).path o).products ((d.ticket t).fired.filter (· == o)).length

/-- A live ticket still needs products of some panes: those of its map that compute there and have not all been delivered
(R27). -/
def Dev.needsPanes (d : Dev) (t : Nat) (panes : List Nat) : Bool :=
  let k := d.ticket t
  k.live && (d.mapOf k.slot).any (fun o => panes.contains (k.paneFor o) && !k.viaStorm.contains o
    && d.deliveredOf t o < d.productsOf t o)

/-- None of the panes has been reached by the ticket. -/
def Dev.untouched (d : Dev) (t : Nat) (panes : List Nat) : Bool :=
  let k := d.ticket t
  !(d.mapOf k.slot).any (fun o => panes.contains (k.paneFor o) && k.fired.contains o)

/-- A ticket loses panes whose casements are gone (R27, R147). If it had not reached them and the policy permits, the storm
engine completes it: with the model's streamed program where code of the model is lost with them, and else with the products
of those panes (R24). Otherwise its record carries PARTNER_GONE. It keeps the mode in which it was issued (R22). -/
def Dev.loseTicket (d : Dev) (t : Nat) (cas panes : List Nat) : Dev :=
  let k := d.ticket t
  if !d.needsPanes t panes then d
  else if d.untouched t panes && (d.slot k.slot).hasStreamed && (d.slot k.slot).reducedOk && d.stormOpen then
    (if cas.any (fun c => bitOf (d.slot k.slot).casements c) then d.streamTicket t
     else d.setTicket t { k with viaStorm := k.viaStorm ++ (d.mapOf k.slot).filter (fun o => panes.contains (k.paneFor o)) })
  else d.finishTicket t (noVerdict stPartnerGone) (some stPartnerGone)

/-- Every ticket that needs some casements loses their panes (R27, R147). -/
def Dev.loseTickets (d : Dev) (cas : List Nat) : Dev :=
  let panes := (List.range 128).filter (fun p => cas.contains (p / 4))
  (List.range 128).foldl (fun d t => d.loseTicket t cas panes) d

/-! ### Casement faults (R146) -/

/-- The message has wholly entered the network (R146): its last flit has left its source's interface. -/
def Dev.whollyIn (d : Dev) (m : Msg) : Bool :=
  match m.trail.getLast? with
  | some h => d.now > h.since + m.len
  | none => false

/-- At the fence F stops injecting (R146): what has not wholly entered the network is discarded, and the requester of a
reply so cut is answered PARTNER_GONE. -/
def Dev.cutInjection (d : Dev) (c : Nat) : Dev :=
  let cut := d.mul.net.filter (fun m => m.src == c && !d.whollyIn m)
  let d := { d with mul.net := d.mul.net.filter (fun m => !(m.src == c && !d.whollyIn m)) }
  (cut.filter (fun m => m.typ == tyRsp)).foldl (fun d m =>
    d.ghostSend { m with trail := [], len := 0, status := stPartnerGone, payload := zeros 32 }) d

/-- Casement fault: CAUSE, fence, halt, and the ghost's answers to the requests of its REQ ring (R146, R149). A casement in a
closed quadrant, or fenced already, has none (R151). -/
def Dev.casementFault (d : Dev) (c cause : Nat) : Dev :=
  if c ≥ 32 || d.fenced c || !d.isPowered (quadOf c) then d
  else
    let k := d.cas c
    let d := d.setFld (aCsm c 0x014) 0 3 cause
    let d := d.setFld 0xA0000 c 1 1
    let d := d.setCas c { k with core := .fenced, wait := .none, haltPending := false, drained := false }
    let d := Dev.cutInjection { d with mul.faults := d.mul.faults.filter (fun (e : Nat × Bool) => e.1 != c) ++ [(c, false)] } c
    let d := d.trace 32 6 (leBytes 1 c ++ leBytes 1 cause)
    let d := (k.req.filter (fun m => m.typ == tyReqUser)).foldl (fun d m =>
      d.ghostSend { src := c, dst := m.src, typ := tyRsp, len := 0, tag := m.tag, ticket := m.ticket, status := stPartnerGone,
                    notify := false, payload := zeros 32 }) d
    ((List.range 4).foldl (fun d s => d.spareLost (4 * c + s)) d).loseTickets [c]

/-! ### ECC of the local SRAM (R124) -/

/-- An access to `n` bytes of SRAM from an offset: single-bit errors of its words are corrected and counted in CSM_ECC; the
flag says that a word is uncorrectable (R124). -/
def Dev.sramEcc (d : Dev) (c o n : Nat) : Bool × Dev :=
  let k := d.cas c
  let hit := fun (e : Nat × Nat) => o / 4 ≤ e.1 / 4 && e.1 / 4 * 4 < o + n
  if n = 0 || !k.flips.any hit then (false, d)
  else if k.flips.any (fun e => hit e && e.2 != 1) then (true, d)
  else (false, (d.setCas c { k with flips := k.flips.filter (fun e => !hit e) }).addFld (aCsm c 0x018) 0 16 (k.flips.filter hit).length)

/-- What an access to the local SRAM does, unless it meets an uncorrectable word: that is a casement fault, whether the
core, the network interface or the activation unit made the access (R124). -/
def Dev.eccGuard (d : Dev) (c o n : Nat) (f : Dev → Dev) : Dev :=
  match d.sramEcc c o n with
  | (true, d) => d.casementFault c 2
  | (false, d) => f d

/-- PRODUCT_COMPLETE (R42, R43) with the ledger entries that correct the product: where one is uncorrectable the product is
discarded and the casement faults (R154). -/
def Dev.productEnd (d : Dev) (p : Nat) : Dev :=
  let v := d.pane p
  match v.running with
  | [] => d
  | x :: rest =>
    if v.ledger.isNone || x.bypass then d.productComplete p
    else
      match d.sramEcc (p / 4) (ledgerBase + p % 4 * 0x1040) 4160 with
      | (true, d) => (d.setPane p { v with running := rest }).casementFault (p / 4) 2
      | (false, d) => d.productComplete p

/-- A trap is taken (R122): mepc, mcause, mtval and mstatus as the RISC-V privileged specification has them. -/
def Casement.trap (k : Casement) (epc : Word) (interrupt : Bool) (cause : Nat) (tval : Word) : Casement :=
  let ms := k.csrAt 0x300
  let tv := k.csrAt 0x305
  let base := tv &&& 0xFFFFFFFC
  let k := k.setCsr 0x341 epc
  let k := k.setCsr 0x342 (BitVec.ofNat 32 (cause + b2n interrupt * 2 ^ 31))
  let k := k.setCsr 0x343 tval
  let k := k.setCsr 0x300 (wset (wset (wset ms 7 1 (b2n (wbit ms 3))) 3 1 0) 11 2 3)
  { k with pc := if interrupt && wbit tv 0 then base + BitVec.ofNat 32 (4 * cause) else base, inTrap := true, judged := false
           wait := .none }

/-- A synchronous exception (R122, R146), with what this implementation writes to mtval: before the previous trap's handler has executed MRET it is a double trap. -/
def Dev.exception (d : Dev) (c cause : Nat) (tval : Word) : Dev :=
  let k := d.cas c
  if k.inTrap then d.casementFault c 3
  else d.setCas c (k.trap k.pc false cause (if Config.tvalWritten cause then tval else 0)).boundary

/-! ### RSP slots and request timers (R143, R144) -/

/-- A remote access was answered PARTNER_GONE or TIMEOUT (R127). -/
def Dev.remoteError (d : Dev) (c : Nat) (st : Byte) : Dev :=
  (d.setFld (aCsm c 0x014) 4 1 1).setFld (aCsm c 0x014) 8 8 st.toNat

/-- Free an RSP slot. -/
def Casement.freeRsp (k : Casement) (s : Nat) : Casement :=
  k.setRsp s { (k.rspAt s) with busy := false, reply := none, fire := none }

/-- The bytes of a remote load as the register takes them. -/
def loadValue (size : Nat) (signed : Bool) (bs : List Byte) : Word :=
  let v := leNat (bs.take size)
  if signed then BitVec.ofInt 32 (sxt (8 * size) v) else BitVec.ofNat 32 v

/-- A remote load or store ends with a status and, for a load, bytes (R127). -/
def Dev.remoteEnd (d : Dev) (c slot : Nat) (st : Byte) (bs : List Byte) : Dev :=
  let bad := st == stPartnerGone || st == stTimeout
  let trap := bad && d.bitAt (aCsm c 0x000) 2
  let d := if bad then d.remoteError c st else d
  let d := d.updCas c (fun k => k.freeRsp slot)
  let k := d.cas c
  let n := if wfld (BitVec.ofNat 32 (leNat (d.sramBytes c (k.pc.toNat - 0x80000000) 2))) 0 2 = 3 then 4 else 2
  match k.wait with
  | .load _ rd size signed a =>
    if trap then d.exception c 5 (BitVec.ofNat 32 a)
    else (d.setCas c (k.done n rd (if bad then 0 else loadValue size signed bs))).latchEvent c k.pc (dataMatch 2 a)
  | .store _ a =>
    if trap then d.exception c 7 (BitVec.ofNat 32 a) else (d.setCas c (k.done n 0 0)).latchEvent c k.pc (dataMatch 3 a)
  | _ => d

/-- What the core is stalled on is this RSP slot's remote access. -/
def Casement.stalledOn (k : Casement) (s : Nat) : Bool :=
  match k.wait with
  | .load s' .. => s' == s
  | .store s' _ => s' == s
  | _ => false

/-- A reply arrives at a casement (R142, R143, R144): a forwarded product's result goes to its buffer, another reply to the
RSP slot of its generation. -/
def Dev.takeRsp (d : Dev) (m : Msg) (onExpiryTick : Bool) : Dev :=
  if m.dst ≥ 32 || m.notify then d
  else
    let c := m.dst
    let s := m.tag % 16
    let k := d.cas c
    let r := k.rspAt s
    if !r.busy || r.gen != m.tag / 16 || r.reply.isSome then d
    else
      let d := if onExpiryTick then d.satFld (aCsm c 0x01C) 0 16 else d
      match r.fire with
      | some id =>
        (d.setCas c (k.freeRsp s)).deliver c id
          (if m.status = stOk then ProdResult.ofBytes m.status m.payload else refusedResult m.status)
      | none =>
        if k.stalledOn s then d.remoteEnd c s m.status m.payload
        else
          d.setCas c ((k.store (rspBase + 512 * s) m.payload).setRsp s { r with reply := some (m.status, m.len) })

/-- The store that a stalled core gave up has not been served: it leaves the network without effect (R127). -/
def Dev.dropStore (d : Dev) (c tag : Nat) : Dev :=
  { d with mul.net := d.mul.net.filter (fun m => !(m.src == c && m.tag == tag && (m.typ == tyRegWr || m.typ == tySillWr))) }

/-- REQUEST_TIMEOUT (R144): the slot's generation advances; a stalled remote access ends with TIMEOUT and has no effect
(R127), a forwarded product with TIMEOUT. -/
def Dev.requestTimeout (d : Dev) (c s : Nat) : Dev :=
  let k := d.cas c
  let r := k.rspAt s
  if c ≥ 32 || s ≥ 16 || !r.busy || r.reply.isSome || d.hartHalted c then d
  else
    let on := k.stalledOn s
    let d := d.setCas c (k.setRsp s { gen := (r.gen + 1) % 16, busy := false, reply := none, fire := none })
    match r.fire with
    | some id => d.deliver c id (refusedResult stTimeout)
    | none => if on then (d.dropStore c (s + 16 * r.gen)).remoteEnd c s stTimeout [] else d

/-- The NI takes the lowest free RSP slot for a request and advances its generation (R143): slot and tag. -/
def Casement.takeSlot (k : Casement) : Option (Nat × Nat × Casement) :=
  match (List.range 16).find? (fun s => !(k.rspAt s).busy) with
  | none => none
  | some s =>
    let g := ((k.rspAt s).gen + 1) % 16
    some (s, s + 16 * g, k.setRsp s { gen := g, busy := true, reply := none, fire := none })

/-! ### Reclaim, reset and restart (R146, R147) -/

/-- Reclaim (R146): the credits of the messages that the casement holds return to their sources, its rings, RSP slots and
held credits are cleared, and every receiver's grants to it are zero. -/
def Dev.reclaim (d : Dev) (c : Nat) : Dev :=
  let k := d.cas c
  let d := k.req.foldl (fun d m => d.setCredit m.src c (d.credit m.src c + 1)) d
  let d := (List.range 32).foldl (fun d r => (d.setCredit c r 0).setGranted r c 0) d
  let rsp := (List.range 16).filterMap (fun s =>
    let r := k.rspAt s
    if r.gen = 0 && !r.busy then none else some (s, ({ gen := (r.gen + 1) % 16, busy := false, reply := none, fire := none } : RspSlot)))
  d.setCas c { k with req := [], ctl := [], rsp := rsp.filter (fun (e : Nat × RspSlot) => e.2 != rspDefault e.1) }

/-- Casement-local reset (R146, R147): the core and the NI reset and the rings are zeroed. -/
def Dev.localReset (d : Dev) (c : Nat) : Dev :=
  d.updCas c (fun k => { k with
    x := [], csr := [], pc := d.reg (aCsm c 0x008), ftLatch := 0, inTrap := false, judged := false, wait := .none, haltPending := false
    fires := []
    sram := Tab.dropRange reqBase (ledgerBase - reqBase) k.sram
    flips := k.flips.filter (fun e => !(reqBase ≤ e.1 && e.1 < ledgerBase)) })

/-- Restarts in the preceding second. -/
def Dev.recentRestarts (d : Dev) (c : Nat) : List Nat := (d.cas c).restarts.filter (fun t => d.now < t + 800000000)

/-- A casement's drain is over and its turn has come: reclaim and local reset; then FAILED, unless a restart follows
(R146). -/
def Dev.reclaimTurn (d : Dev) (c : Nat) : Dev :=
  let d := (d.reclaim c).localReset c
  let again := d.bitAt (aCsm c 0x000) 1 && (d.recentRestarts c).length < 3
  let d := d.updCas c (fun k => { k with drained := true, core := if again then .fenced else .failed })
  let cause := d.fldAt (aCsm c 0x014) 0 3
  if again then d else (d.noteState 5 c cause).faultLog 6 c cause 0

/-- Reclaims run one after another, in the order in which the faults were detected (R150): as many as have drained at the
head of the list. -/
def Dev.reclaims : List (Nat × Bool) → Dev → Dev
  | (c, true) :: l, d => Dev.reclaims l ({ d with mul.faults := l }.reclaimTurn c)
  | _, d => d

/-- FENCE_DRAIN_END: the casement's drain is over, and every reclaim whose turn has come runs (R146, R150). -/
def Dev.fenceDrainEnd (d : Dev) (c : Nat) : Dev :=
  if !d.mul.faults.contains (c, false) then d
  else
    let l := d.mul.faults.map (fun e => if e.1 = c then (c, true) else e)
    Dev.reclaims l { d with mul.faults := l }

/-- The shutter prevails over the fences of a quadrant (R151): no reclaim or restart of them follows, and reclaims that
waited for them run. -/
def Dev.dropFaults (d : Dev) (q : Nat) : Dev :=
  let l := d.mul.faults.filter (fun e => quadOf e.1 != q)
  Dev.reclaims l { d with mul.faults := l }

/-- The restart (R146): the core starts at CSM_ENTRY, the fence is cleared, and receivers grant the casement its quotas. -/
def Dev.restartCore (d : Dev) (c : Nat) : Dev :=
  let rs := d.recentRestarts c
  let d := (d.setFld 0xA0000 c 1 0).setFld (aCsm c 0x000) 0 1 0
  let d := d.updCas c (fun k => { k with core := .running, pc := d.reg (aCsm c 0x008), drained := false, restarts := rs ++ [d.now] })
  (List.range 32).foldl (fun d r => if d.casUp r then d.grant r c else d) d

/-- CASEMENT_RESTART (R146), while its quadrant is open (R151). A host fence of the casement on the tick of its restart
wins over the clearing of its bit (R11): the casement is fenced anew. -/
def Dev.casementRestart (d : Dev) (c : Nat) (onFenceTick : Bool) : Dev :=
  if c ≥ 32 || (d.cas c).core != .fenced || !(d.cas c).drained || !d.isOpen (quadOf c) then d
  else
    let d := (d.restartCore c).noteState 4 c (d.fldAt (aCsm c 0x014) 0 3)
    if onFenceTick then d.casementFault c 4 else d

/-- A write of 1 to CSM_CTRL.RESTART (R146): reset and restart of a FAILED or halted core. -/
def Dev.ctrlRestart (d : Dev) (c : Nat) : Dev :=
  if !d.isOpen (quadOf c) then d
  else
    match (d.cas c).core with
    | .failed => (((d.reclaim c).localReset c).restartCore c).noteState 4 c (d.fldAt (aCsm c 0x014) 0 3)
    | .halted => ((d.reclaim c).localReset c).restartCore c
    | .running => d
    | .fenced => d

/-- A kick of the casement's watchdog (R145). -/
def Dev.wdtKick (d : Dev) (c : Nat) (onExpiryTick : Bool) : Dev :=
  if onExpiryTick && (d.cas c).core == .running && d.fldAt (aCsm c 0x00C) 0 16 != 0 then d.satFld (aCsm c 0x01C) 16 16 else d

/-- CASEMENT_WATCHDOG_EXPIRY (R145). -/
def Dev.casementWatchdog (d : Dev) (c : Nat) : Dev :=
  if c < 32 && (d.cas c).core == .running && !d.hartHalted c && d.fldAt (aCsm c 0x00C) 0 16 != 0 then d.casementFault c 1 else d

/-! ### Meanings -/

/-- Messages to or from the hinge and debug routers keep flowing while BOLTED; others do not (R490). -/
def onNet (s : State) (src dst : Nat) (f : Dev → Dev) : Host.Outcome State Fault Refusal :=
  if src = 32 ∨ src = 38 ∨ dst = 32 ∨ dst = 38 then onDev s f else onRun s f

/-- DATA (R139, R141). -/
def execData (src dst : Nat) (s : State) : Host.Outcome State Fault Refusal :=
  onNet s src dst (fun d => d.arrive src dst tyData (fun m d => d.takeData m))

/-- REQ_USER (R139, R141). -/
def execReqUser (src dst : Nat) (s : State) : Host.Outcome State Fault Refusal :=
  onNet s src dst (fun d => d.arrive src dst tyReqUser (fun m d => d.takeReqUser m))

/-- RSP (R139, R143, R144). -/
def execRsp (src dst : Nat) (onExpiryTick : Bool) (s : State) : Host.Outcome State Fault Refusal :=
  onNet s src dst (fun d => d.arrive src dst tyRsp (fun m d => d.takeRsp m onExpiryTick))

/-- CREDIT (R139, R141). -/
def execCredit (src dst : Nat) (s : State) : Host.Outcome State Fault Refusal :=
  onNet s src dst (fun d => d.arrive src dst tyCredit (fun m d => d.takeCredit m))

/-- CONTROL (R139). -/
def execControl (src dst : Nat) (s : State) : Host.Outcome State Fault Refusal :=
  onNet s src dst (fun d => d.arrive src dst tyControl (fun m d => d.takeControl m))

/-- REQUEST_TIMEOUT (R144). -/
def execRequestTimeout (c slot : Nat) (s : State) : Host.Outcome State Fault Refusal := onRun s (fun d => d.requestTimeout c slot)

/-- CASEMENT_WATCHDOG_EXPIRY (R145). -/
def execCasementWatchdogExpiry (c : Nat) (s : State) : Host.Outcome State Fault Refusal := onRun s (fun d => d.casementWatchdog c)

/-- CASEMENT_FAULT (R146). -/
def execCasementFault (c cause : Nat) (s : State) : Host.Outcome State Fault Refusal :=
  onDev s (fun d => if 1 ≤ cause && cause ≤ 4 then d.casementFault c cause else d)

/-- FENCE_DRAIN_END (R146). -/
def execFenceDrainEnd (c : Nat) (s : State) : Host.Outcome State Fault Refusal := onDev s (fun d => d.fenceDrainEnd c)

/-- CASEMENT_RESTART (R146). -/
def execCasementRestart (c : RestartOf) (s : State) : Host.Outcome State Fault Refusal :=
  onDev s (fun d => d.casementRestart c.casement c.onFenceTick)

/-- CSM_CTRL_HALT (R123). -/
def execCsmCtrlHalt (c : Nat) (halt : Bool) (s : State) : Host.Outcome State Fault Refusal :=
  onDev s (fun d => if c < 32 && d.isPowered (quadOf c) then d.writeHalt c halt else d)

/-- CSM_CTRL_RESTART (R146). -/
def execCsmCtrlRestart (c : Nat) (s : State) : Host.Outcome State Fault Refusal :=
  onDev s (fun d => if c < 32 then d.ctrlRestart c else d)

/-- CSM_WDT_KICK (R145). -/
def execCsmWdtKick (c : Nat) (onExpiryTick : Bool) (s : State) : Host.Outcome State Fault Refusal :=
  onDev s (fun d => if c < 32 && d.isPowered (quadOf c) then d.wdtKick c onExpiryTick else d)

/-- A host fence (R9, R146): the bit of MUL_FENCE0 is set, and an open casement that is not fenced faults. -/
def Dev.hostFence (d : Dev) (c : Nat) : Dev := if c < 32 then (d.casementFault c 4).setFld 0xA0000 c 1 1 else d

/-- HOST_FENCE (R146). -/
def execHostFence (c : Nat) (s : State) : Host.Outcome State Fault Refusal := onDev s (fun d => d.hostFence c)

/-- PRODUCT_COMPLETE (R42, R154). -/
def execProductComplete (pane : Nat) (s : State) : Host.Outcome State Fault Refusal := onDev s (fun d => d.productEnd pane)

end Sys2Proof.Machine
end

