-- ==== Sys2Proof/Machine/CasementOps.lean ====
section
/-! DEFINITION. The custom instructions of a casement core (05_casements_and_mullion.md R129 to R135), with what the network
interface does at PN.FIRE and PN.COLLECT: sampling, the checksum and range tests, and dumps. -/
namespace Sys2Proof.Machine

/-! ### The frame of a custom instruction -/

/-- The core executes, or waits in a custom instruction, which it tries again. -/
def Dev.coreReady (d : Dev) (c : Nat) : Bool :=
  c < 32 && d.isPowered (quadOf c) && (d.cas c).core == .running && !d.hartHalted c
    && (match (d.cas c).wait with | .none => true | .custom => true | .recv => true | _ => false)

/-- The EXEC latch points judge the instruction at the pc once, before it executes; where they halt the core or bolt the
device it does not execute (R495). -/
def Dev.gated (d : Dev) (c : Nat) (f : Dev → Dev) : Dev :=
  let k := d.cas c
  if !d.coreReady c then d
  else if k.judged || k.wait != .none then f (d.setCas c { k with judged := false })
  else
    let d := d.latchEvent c k.pc (execMatch k.pc)
    if d.hartHalted c || d.dbg.bolted then d.updCas c (fun k => { k with judged := true }) else f d

/-- An instruction of a core: not while BOLTED, and past its EXEC latch points. -/
def onCore (c : Nat) (s : State) (f : Dev → Dev) : Host.Outcome State Fault Refusal := onRun s (fun d => d.gated c f)

/-- A custom instruction ends with a result in rd. -/
def Dev.insnDone (d : Dev) (c rd v : Nat) : Dev := d.updCas c (fun k => k.done 4 rd (BitVec.ofNat 32 v))

/-- A custom instruction waits; the pc stays on it. -/
def Dev.insnWait (d : Dev) (c : Nat) : Dev := d.updCas c (fun k => { k with wait := .custom })

/-- SRAM offset of a core address. -/
def sramOff (a : Nat) : Nat := a - 0x80000000

/-- An operand of `n` bytes lies in the local SRAM, 32-byte aligned (R129). -/
def operandIn (a n : Nat) : Bool := a % 32 == 0 && 0x80000000 ≤ a && a + n ≤ 0x80040000

/-- The same for an operand that is written: the rings and the ledger entries are read only. -/
def operandOut (a n : Nat) : Bool := a % 32 == 0 && 0x80000000 ≤ a && a + n ≤ 0x80034F00

/-- INT16 lanes of bytes. -/
def lanes16 (n : Nat) (bs : List Byte) : List Int := (List.range n).map (fun k => sxt 16 (uAt bs (2 * k) 2))

/-- INT16 lanes as bytes. -/
def laneBytes (l : List Int) : List Byte := (l.map (fun v => leBytes 2 (tc 16 v))).flatten

/-! ### PN.FIRE (R130, R170) -/

/-- A staged lane (R40, R130). -/
def stagedLane (signed : Bool) (v : Int) : Int :=
  if v = noData then 0 else if signed then clampI (-255) 255 v else clampI 0 255 v

/-- Where a product goes. -/
inductive FireTo where
  /-- A pane, its own or a spare: PATH. -/
  | pane (p path : Nat)
  | storm
  /-- No pane may take it: collected as BUSY, the record BUSY_SELFTEST (R170). -/
  | selftest
  deriving DecidableEq, Repr

/-- The path of a product of pane path `o` under a ticket (R24, R85, R170). A product that the storm engine has taken over
for the ticket stays with it (R24); with STORM or SILL shuttered the storm serves none, and the pane's state answers. -/
def Dev.firePath (d : Dev) (o : Nat) (k : Ticket) : FireTo :=
  let p := if k.live then k.paneFor o else o
  let path := if p = o then 0 else 1
  let s := d.slot k.slot
  if !k.live || (d.canCompute p && !k.viaStorm.contains o) then .pane p path
  else if (d.pane p).st = .selftest && !s.reducedOk && s.preempt then .pane p path
  else if s.reducedOk && d.stormOpen then .storm
  else if d.canCompute p then .pane p path
  else if (d.pane p).st = .selftest then .selftest
  else .pane p path

/-- The payload of a PANE_FWD (the model's own layout): the pane, PANE_CFG and the inputs. -/
def fwdPayload (p : Nat) (cfg : Word) (x : List Int) : List Byte := leBytes 1 p ++ wordBytes cfg ++ laneBytes x

/-- Forward a product to a spare's casement or to the storm, under an RSP slot of its own (R142). -/
def Dev.forwardFire (d : Dev) (c dst p id key : Nat) (cfg : Word) (x : List Int) : Dev :=
  match (d.cas c).takeSlot with
  | none => d
  | some (s, tag, k) =>
    (d.setCas c (k.setRsp s { k.rspAt s with fire := some id })).netSend
      { src := c, dst := dst, typ := tyPaneFwd, len := 15, tag := tag, ticket := key, status := 0, notify := false,
        payload := fwdPayload p cfg x }

/-- The product leaves its casement in a PANE_FWD. -/
def FireTo.forwards (t : FireTo) (c : Nat) : Bool :=
  match t with
  | .pane p _ => p / 4 != c
  | .storm => true
  | .selftest => false

/-- The due sample of a product is taken at PN.FIRE (R219); a product of the storm is never sampled (R222). -/
def Dev.sampleFire (d : Dev) (key step o n id p : Nat) (cfg : Word) (x : List Int) (storm : Bool) : Dev :=
  let hit := fun (s : Sample) => s.ticket == key && s.step == step && s.path == o && s.n == n && s.st == .due
  if storm then { d with storm.samples := d.storm.samples.filter (fun s => !hit s) }
  else { d with storm.samples := d.storm.samples.map (fun s =>
      if hit s then { s with st := .fired, fire := id, pane := p, cfg := cfg, x := x } else s) }

/-- A latch point's FIRE match (R495). -/
def fireMatch (t : Nat) (p : LatchPoint) : Bool := p.mtch == 4 && p.value.toNat == t

/-- PN.FIRE (R130). SIGNED as it stands here decides the staging of the lanes, and the value latched at the first row pulse
the pulses (R52); the spec does not say which decides the staging of a product that a write of SIGNED meets while it waits
(DESIGN CHOICE, log entry 202). -/
def Dev.pnFire (d : Dev) (c rd rs1 rs2 : Nat) : Dev :=
  if !d.coreReady c then d
  else
    let k := d.cas c
    let a := (k.xr rs1).toNat
    let slot := wfld (k.xr rs2) 0 2
    let t := wfld (k.xr rs2) 2 7
    if !operandIn a 1024 then d.insnDone c rd stBadParam.toNat
    else if (k.fires.filter (fun f => f.slot == slot)).length ≥ 2 then d.insnDone c rd stQueueFull.toNat
    else d.eccGuard c (sramOff a) 1024 fun d =>
      let k := d.cas c
      let key := d.ctxKey c t
      let tk := d.ticket key
      let o := 4 * c + slot
      let n := (tk.fired.filter (· == o)).length
      let raw := lanes16 512 (d.sramBytes c (sramOff a) 1024)
      let target := d.firePath o tk
      if target.forwards c && k.takeSlot.isNone then d.insnWait c
      else
      let (p, path) : Nat × Nat := match target with | .pane p path => (p, path) | .storm => (tk.paneFor o, 2) | .selftest => (tk.paneFor o, 0)
      let cfg := d.reg (aPane p 0x00)
      let x := raw.map (stagedLane (wbit cfg 4))
      let id := d.mul.nextFire
      let f : Fire := { id := id, slot := slot, ticket := key, noData := raw.contains noData, path := path, pane := p,
                        result := if target = .selftest then some (refusedResult stBusy) else none }
      let d := { d with mul.nextFire := id + 1 }
      let d := d.updCas c (fun k => { k with fires := k.fires ++ [f] })
      let d := d.setTicket key (if tk.live then { tk with
        fired := tk.fired ++ [o]
        viaStorm := if target = .storm && !tk.viaStorm.contains o then tk.viaStorm ++ [o] else tk.viaStorm } else tk)
      let d := d.sampleFire key tk.step o n id p cfg x (path == 2)
      let prod : Product := { x := x, ticket := key, dest := { casement := c, id := id, remote := false }, cfg := none, corr := [],
                              bypass := false }
      let d := match target with
        | .pane p _ => if p / 4 = c then d.updPane p (fun v => { v with queue := v.queue ++ [prod] })
                       else d.forwardFire c (p / 4) p id key cfg x
        | .storm => d.forwardFire c 33 o id key cfg x
        | .selftest => d
      let d := if tk.live then d.dumpEvent tk.slot tk.step t 1 c slot path (d.sramBytes c (sramOff a) 1024) else d
      (d.latchEvent c k.pc (fireMatch t)).insnDone c rd stOk.toNat

/-- A PANE_FWD arrives at a spare's casement: its forwarding queue holds 8 products (R142). -/
def Dev.fwdArrive (d : Dev) (m : Msg) : Dev :=
  let c := m.dst
  let p := uAt m.payload 0 1
  let held := ((List.range 4).map (fun s => ((d.pane (4 * c + s)).queue.filter (fun x => x.dest.remote)).length)).sum
  if held ≥ 8 then d.respond m stBusy []
  else
    let prod : Product := { x := lanes16 512 (m.payload.drop 5), ticket := m.ticket,
                            dest := { casement := m.src, id := m.tag, remote := true }, cfg := none, corr := [], bypass := false }
    d.updPane p (fun v => { v with queue := v.queue ++ [prod] })

/-! ### PN.COLLECT (R131, R230, R237) -/

/-- The product word (R131). -/
def productWord (f : Fire) (r : ProdResult) : Nat :=
  r.status.toNat + b2n r.ovr * 2 ^ 8 + b2n r.ckSkip * 2 ^ 9 + b2n r.loc.isSome * 2 ^ 10 + b2n f.noData * 2 ^ 11 + f.path * 2 ^ 12
    + b2n r.refOvr * 2 ^ 14 + f.ticket % 128 * 2 ^ 15

/-- The checksum test of a collected product (R230, R233, R234): whether it fails. MODEL_START and a graft have computed its path's
tolerance; in a state without one it is computed now. -/
def Dev.checksumTest (d : Dev) (i o : Nat) (f : Fire) (r : ProdResult) : Bool × Dev :=
  if f.path = 2 || r.status != stOk || r.ckSkip then (false, d)
  else
    let d := if (d.tauOf f.pane).isNone then d.setTau i o f.pane else d
    let tau := (d.tauOf f.pane).getD 0
    let act := activeCols (d.reg (aPane f.pane 0x00))
    let rho := residual act (d.fldAt (aPane f.pane 0x08) 0 4) ((d.ckOf i).path o).comp r.codes
    (rho > (tau : Rat) || rho < -(tau : Rat), d)

/-- What a collected product leaves in its ticket (R230 to R238). -/
def Dev.collectChecks (d : Dev) (o : Nat) (f : Fire) (r : ProdResult) : Dev :=
  let tk := d.ticket f.ticket
  if !tk.live then d
  else
    let (fail, d) := d.checksumTest tk.slot o f r
    let rng := r.status == stOk && rangeHit (d.ckOf tk.slot) o r.codes
    let st : Byte := if r.status = stBusy && (d.pane f.pane).st = .selftest then stBusySelftest else r.status
    let e : Evidence := { path := o, pane := f.pane, ckFail := fail, range := rng, ovr := r.ovr, ckSkip := r.ckSkip,
                          storm := f.path == 2 && r.status == stOk, status := st }
    let d := d.setTicket f.ticket { tk with evidence := tk.evidence ++ [e] }
    if fail then d.flagEvent tk.slot f.pane tk.step false r.loc else d

/-- A fired sample is staged with its codes (R219); one whose product was refused is abandoned. -/
def Dev.sampleCollect (d : Dev) (f : Fire) (r : ProdResult) : Dev :=
  match d.storm.samples.find? (fun s => s.fire == f.id && s.st == .fired) with
  | none => d
  | some s =>
    if r.status = stOk then
      { d with storm.samples := d.storm.samples.map (fun x => if x = s then { s with st := .staged, codes := r.codes.take 512 } else x) }
    else d.abandon s

/-- The oldest uncollected product of a pane slot. -/
def Casement.oldestFire (k : Casement) (slot : Nat) : Option Fire := k.fires.find? (fun f => f.slot == slot)

/-- A product leaves its buffer. -/
def Dev.dropFire (d : Dev) (c : Nat) (f : Fire) : Dev := d.updCas c (fun k => { k with fires := k.fires.filter (fun g => g.id != f.id) })

/-- PN.COLLECT (R131). -/
def Dev.pnCollect (d : Dev) (c rd rs1 rs2 : Nat) : Dev :=
  if !d.coreReady c then d
  else
    let k := d.cas c
    let a := (k.xr rs1).toNat
    let slot := wfld (k.xr rs2) 0 2
    if !operandOut a 1056 then d.insnDone c rd stBadParam.toNat
    else
      match k.oldestFire slot with
      | none => d.insnWait c
      | some f =>
        match f.result with
        | none => d.insnWait c
        | some r =>
          let tk := d.ticket f.ticket
          let w := productWord f r
          let d := ((d.dropFire c f).sramStore c (sramOff a) r.bytes).collectChecks (4 * c + slot) f r
          let d := d.sampleCollect f r
          let d := if tk.live then d.dumpEvent tk.slot tk.step (f.ticket % 128) 2 c slot f.path (r.bytes ++ leBytes 4 w) else d
          d.insnDone c rd w

/-- PN.COLLECT has waited CSM_TIMEOUT.LIMIT (R131): the product's buffer is freed and its late result will find no buffer. -/
def Dev.pnCollectTimeout (d : Dev) (c rd rs2 : Nat) : Dev :=
  if !d.coreReady c then d
  else
    let slot := wfld ((d.cas c).xr rs2) 0 2
    match (d.cas c).oldestFire slot with
    | none => d.insnDone c rd stTimeout.toNat
    | some f =>
      if f.result.isSome then d
      else
        let r := refusedResult stTimeout
        (((d.dropFire c f).collectChecks (4 * c + slot) f r).sampleCollect f r).insnDone c rd (productWord f r)

/-! ### The activation unit (R134, R135) -/

/-- AU.op (R134). -/
def Dev.auOp (d : Dev) (op c rd rs1 rs2 : Nat) : Dev :=
  if !d.coreReady c then d
  else
    let k := d.cas c
    let cfg := k.csrAt 0x7C0
    let len := wfld cfg 0 11
    let group := wfld cfg 15 3
    let out := auOutLen op len group
    let src := (k.xr rs1).toNat
    let dst := (k.xr rs2).toNat
    let src2 := (k.csrAt 0x7C1).toNat
    if !auLenOk op len group || !operandIn src (2 * len) || !operandOut dst (2 * out) || (op == 5 && !operandIn src2 (2 * len)) then
      d.insnDone c rd stBadParam.toNat
    else d.eccGuard c (sramOff src) (2 * len) fun d => d.eccGuard c (if op = 5 then sramOff src2 else sramOff src) (2 * len) fun d =>
      let k := d.cas c
      let x := lanes16 len (d.sramBytes c (sramOff src) (2 * len))
      let x2 := if op = 5 then lanes16 len (d.sramBytes c (sramOff src2) (2 * len)) else []
      let r := auRun op (wfld cfg 11 4) group (sxt 16 (wfld (k.csrAt 0x7C5) 0 16)) len x x2
      let st := (k.csrAt 0x7C2) ||| BitVec.ofNat 32 (b2n r.nodata + 2 * b2n r.sat)
      ((d.sramStore c (sramOff dst) (laneBytes r.lanes)).updCas c (fun k => k.setCsr 0x7C2 st)).insnDone c rd stOk.toNat

/-! ### MQ and SL (R132, R133, R189, R193) -/

/-- A serving casement's activation from a product that failed its test carries CHECK_EVENT (R408). -/
def Dev.markEvent (d : Dev) (c : Nat) (payload : List Byte) : List Byte :=
  match d.servingSlot c with
  | none => payload
  | some i =>
    let k := d.ticket (128 * (i + 1) + uAt payload 8 1 % 128)
    if k.evidence.any (fun e => e.ckFail || e.range) then patch payload 9 (leBytes 1 (uAt payload 9 1 / 2 * 2 + 1)) else payload

/-- MQ.SEND (R132). -/
def Dev.mqSend (d : Dev) (c rd rs1 rs2 : Nat) : Dev :=
  if !d.coreReady c then d
  else
    let k := d.cas c
    let a := (k.xr rs1).toNat
    let h := k.xr rs2
    let dst := wfld h 0 6
    let len := wfld h 6 4
    let typ := wfld h 10 4
    let t := wfld h 14 7
    if (typ != 0 && typ != 1) || dst ≥ 40 || !operandIn a (32 * (len + 1)) then d.insnDone c rd stBadParam.toNat
    else if dst < 32 && d.credit c dst = 0 then d.insnWait c
    else d.eccGuard c (sramOff a) (32 * (len + 1)) fun d =>
      let k := d.cas c
      let raw := d.sramBytes c (sramOff a) (32 * (len + 1))
      let payload := if dst = 37 then d.markEvent c raw else raw
      let use := fun (d : Dev) => if dst < 32 then d.setCredit c dst (d.credit c dst - 1) else d
      let tk := d.ticket (d.ctxKey c t)
      let dump := fun (d : Dev) => if tk.live then d.dumpEvent tk.slot tk.step t 3 c dst 0 payload else d
      if typ = 0 then
        let m : Msg := { src := c, dst := dst, typ := tyData, len := len, tag := 0, ticket := t, status := 0, notify := wbit h 21,
                         payload := payload }
        (dump ((use d).netSend m)).insnDone c rd stOk.toNat
      else
        match k.takeSlot with
        | none => d.insnWait c
        | some (_, tag, k) =>
          let m : Msg := { src := c, dst := dst, typ := tyReqUser, len := len, tag := tag, ticket := t, status := 0, notify := false,
                           payload := payload }
          (dump ((use (d.setCas c k)).netSend m)).insnDone c rd (stOk.toNat + tag * 256)

/-- MQ.SEND lacks its credit or its RSP slot still. -/
def Dev.sendLacks (d : Dev) (c rs2 : Nat) : Bool :=
  let h := (d.cas c).xr rs2
  (wfld h 0 6 < 32 && d.credit c (wfld h 0 6) == 0) || (wfld h 10 4 == 1 && ((d.cas c).takeSlot).isNone)

/-- MQ.SEND has waited CSM_TIMEOUT.LIMIT (R132): it sends nothing. -/
def Dev.mqSendTimeout (d : Dev) (c rd rs2 : Nat) : Dev :=
  if d.coreReady c && d.sendLacks c rs2 then d.insnDone c rd stTimeout.toNat else d

/-- The receive header (R139). -/
def recvHeader (m : InMsg) : Nat :=
  m.src + m.len * 2 ^ 6 + m.typ * 2 ^ 10 + m.slot * 2 ^ 14 + m.ticket % 128 * 2 ^ 19 + 2 ^ 26

/-- MQ.RECV (R133): the oldest message that its ring holds; blocking, it waits without limit. -/
def Dev.mqRecv (d : Dev) (c rd rs1 : Nat) : Dev :=
  if !d.coreReady c then d
  else
    let k := d.cas c
    let w := k.xr rs1
    let ring := if wfld w 0 2 = 0 then k.req else if wfld w 0 2 = 2 then k.ctl else []
    match ring with
    | m :: _ => d.insnDone c rd (recvHeader m)
    | [] => if wbit w 2 then d.updCas c (fun k => { k with wait := .recv }) else d.insnDone c rd 0

/-- MQ.WAIT (R133, R144): the reply to a tag; a tag whose slot has moved on has timed out. -/
def Dev.mqWait (d : Dev) (c rd rs1 : Nat) : Dev :=
  if !d.coreReady c then d
  else
    let k := d.cas c
    let tag := wfld (k.xr rs1) 0 8
    let r := k.rspAt (tag % 16)
    if !r.busy || r.gen != tag / 16 then d.insnDone c rd stTimeout.toNat
    else
      match r.reply with
      | none => d.insnWait c
      | some (st, len) => d.insnDone c rd (st.toNat + len * 256)

/-- MQ.REPLY (R133). -/
def Dev.mqReply (d : Dev) (c rd rs1 rs2 : Nat) : Dev :=
  if !d.coreReady c then d
  else
    let k := d.cas c
    let a := (k.xr rs1).toNat
    let w := k.xr rs2
    let len := wfld w 5 4
    match k.req.find? (fun m => m.slot == wfld w 0 5 && m.typ == tyReqUser) with
    | none => d.insnDone c rd stBadParam.toNat
    | some m =>
      if a ≠ 0 ∧ !operandIn a (32 * (len + 1)) then d.insnDone c rd stBadParam.toNat
      else d.eccGuard c (if a = 0 then 0 else sramOff a) (if a = 0 then 0 else 32 * (len + 1)) fun d =>
        let k := d.cas c
        let r : Msg := { src := c, dst := m.src, typ := tyRsp, len := if a = 0 then 0 else len, tag := m.tag, ticket := m.ticket,
                         status := BitVec.ofNat 8 (wfld w 9 8), notify := false,
                         payload := if a = 0 then zeros 32 else d.sramBytes c (sramOff a) (32 * (len + 1)) }
        let d := d.setCas c { k with req := k.req.erase m }
        ((d.netSend r).returnCredit c m.src).insnDone c rd stOk.toNat

/-- MQ.FREE (R133). -/
def Dev.mqFree (d : Dev) (c rd rs1 : Nat) : Dev :=
  if !d.coreReady c then d
  else
    let k := d.cas c
    let o := (k.xr rs1).toNat - 0x80000000
    if (k.xr rs1).toNat < 0x80000000 then d.insnDone c rd stBadParam.toNat
    else if reqBase ≤ o ∧ o < rspBase ∧ (o - reqBase) % 512 = 0 then
      (match k.req.find? (fun m => m.slot == (o - reqBase) / 512) with
       | some m => ((d.setCas c { k with req := k.req.erase m }).returnCredit c m.src).insnDone c rd stOk.toNat
       | none => d.insnDone c rd stOk.toNat)
    else if rspBase ≤ o ∧ o < ctlBase ∧ (o - rspBase) % 512 = 0 then
      (d.setCas c (k.freeRsp ((o - rspBase) / 512))).insnDone c rd stOk.toNat
    else if ctlBase ≤ o ∧ o < ledgerBase ∧ (o - ctlBase) % 512 = 0 then
      (d.setCas c { k with ctl := k.ctl.filter (fun m => m.slot != (o - ctlBase) / 512) }).insnDone c rd stOk.toNat
    else d.insnDone c rd stBadParam.toNat

/-- Send a request of the NI to the edge router of a table, holding an RSP slot (R143). -/
def Dev.tableRequest (d : Dev) (c rd typ dst : Nat) (payload : List Byte) : Dev :=
  match (d.cas c).takeSlot with
  | none => d.insnWait c
  | some (_, tag, k) =>
    ((d.setCas c k).netSend { src := c, dst := dst, typ := typ, len := (payload.length + 31) / 32 - 1, tag := tag, ticket := 0,
                              status := 0, notify := false, payload := payload }).insnDone c rd (stOk.toNat + tag * 256)

/-- SL.LOOKUP (R189). -/
def Dev.slLookup (d : Dev) (c rd rs1 rs2 : Nat) : Dev :=
  if !d.coreReady c then d
  else
    let k := d.cas c
    let a := (k.xr rs1).toNat
    let t := wfld (k.xr rs2) 0 6
    if !operandIn a 32 then d.insnDone c rd stBadParam.toNat
    else d.eccGuard c (sramOff a) 32 fun d =>
      let b := d.sramBytes c (sramOff a) 32
      match d.desc t with
      | none => d.insnDone c rd stBadParam.toNat
      | some e =>
        if uAt b 0 1 < 1 ∨ uAt b 0 1 > 8 then d.insnDone c rd stBadParam.toNat
        else d.tableRequest c rd tySillLookup (sillEdge e.base) (b ++ leBytes 1 t)

/-- SL.LEASE, taking or releasing (R193): the table's edge router answers; a table without a descriptor gives BAD_PARAM. -/
def Dev.slLease (d : Dev) (c rd t : Nat) (release : Bool) : Dev :=
  if !d.coreReady c then d
  else
    match d.desc (t % 64) with
    | none => d.insnDone c rd stBadParam.toNat
    | some e => d.tableRequest c rd tySillLease (sillEdge e.base) (leBytes 1 (t % 64) ++ leBytes 1 (b2n release))

/-! ### Interrupts (R126) -/

/-- irq_pend (R126). -/
def Casement.irqPend (k : Casement) : Nat :=
  b2n (!k.req.isEmpty) + 2 * b2n (!k.ctl.isEmpty) + 4 * b2n (k.fires.any (fun f => f.result.isSome))
    + 8 * b2n ((List.range 16).any (fun s => (k.rspAt s).busy && (k.rspAt s).reply.isSome))

/-- The core takes its machine external interrupt (R126): enabled, pending, and between instructions or in a blocking
MQ.RECV (R133). -/
def Dev.externalInterrupt (d : Dev) (c : Nat) : Dev :=
  let k := d.cas c
  let between := match k.wait with | .none => true | .recv => true | _ => false
  if d.coreReady c && between && Nat.land k.irqPend (k.csrAt 0x7C3).toNat != 0 && wbit (k.csrAt 0x300) 3 && wbit (k.csrAt 0x304) 11 then
    d.setCas c (k.trap k.pc true 11 0)
  else d

/-! ### Meanings -/

/-- PN.FIRE (R130). -/
def execPnFire (c : Nat) (rd rs1 rs2 : BitVec 5) (s : State) : Host.Outcome State Fault Refusal :=
  onCore c s (fun d => d.pnFire c rd.toNat rs1.toNat rs2.toNat)

/-- PN.COLLECT (R131). -/
def execPnCollect (c : Nat) (rd rs1 rs2 : BitVec 5) (s : State) : Host.Outcome State Fault Refusal :=
  onCore c s (fun d => d.pnCollect c rd.toNat rs1.toNat rs2.toNat)

/-- PN_COLLECT_TIMEOUT (R131). -/
def execPnCollectTimeout (c : Nat) (rd _rs1 rs2 : BitVec 5) (s : State) : Host.Outcome State Fault Refusal :=
  onRun s (fun d => d.pnCollectTimeout c rd.toNat rs2.toNat)

/-- AU.COPY (R134). -/
def execAuCopy (c : Nat) (rd rs1 rs2 : BitVec 5) (s : State) : Host.Outcome State Fault Refusal :=
  onCore c s (fun d => d.auOp 0 c rd.toNat rs1.toNat rs2.toNat)

/-- AU.ABS (R134). -/
def execAuAbs (c : Nat) (rd rs1 rs2 : BitVec 5) (s : State) : Host.Outcome State Fault Refusal :=
  onCore c s (fun d => d.auOp 1 c rd.toNat rs1.toNat rs2.toNat)

/-- AU.RELU (R134). -/
def execAuRelu (c : Nat) (rd rs1 rs2 : BitVec 5) (s : State) : Host.Outcome State Fault Refusal :=
  onCore c s (fun d => d.auOp 2 c rd.toNat rs1.toNat rs2.toNat)

/-- AU.MAG2 (R134). -/
def execAuMag2 (c : Nat) (rd rs1 rs2 : BitVec 5) (s : State) : Host.Outcome State Fault Refusal :=
  onCore c s (fun d => d.auOp 3 c rd.toNat rs1.toNat rs2.toNat)

/-- AU.SCALE (R134). -/
def execAuScale (c : Nat) (rd rs1 rs2 : BitVec 5) (s : State) : Host.Outcome State Fault Refusal :=
  onCore c s (fun d => d.auOp 4 c rd.toNat rs1.toNat rs2.toNat)

/-- AU.ADD (R134). -/
def execAuAdd (c : Nat) (rd rs1 rs2 : BitVec 5) (s : State) : Host.Outcome State Fault Refusal :=
  onCore c s (fun d => d.auOp 5 c rd.toNat rs1.toNat rs2.toNat)

/-- AU.POOLSUM (R134). -/
def execAuPoolsum (c : Nat) (rd rs1 rs2 : BitVec 5) (s : State) : Host.Outcome State Fault Refusal :=
  onCore c s (fun d => d.auOp 6 c rd.toNat rs1.toNat rs2.toNat)

/-- AU.POOLMAX (R134). -/
def execAuPoolmax (c : Nat) (rd rs1 rs2 : BitVec 5) (s : State) : Host.Outcome State Fault Refusal :=
  onCore c s (fun d => d.auOp 7 c rd.toNat rs1.toNat rs2.toNat)

/-- MQ.SEND (R132). -/
def execMqSend (c : Nat) (rd rs1 rs2 : BitVec 5) (s : State) : Host.Outcome State Fault Refusal :=
  onCore c s (fun d => d.mqSend c rd.toNat rs1.toNat rs2.toNat)

/-- MQ_SEND_TIMEOUT (R132). -/
def execMqSendTimeout (c : Nat) (rd _rs1 rs2 : BitVec 5) (s : State) : Host.Outcome State Fault Refusal :=
  onRun s (fun d => d.mqSendTimeout c rd.toNat rs2.toNat)

/-- MQ.RECV (R133). -/
def execMqRecv (c : Nat) (rd rs1 : BitVec 5) (s : State) : Host.Outcome State Fault Refusal :=
  onCore c s (fun d => d.mqRecv c rd.toNat rs1.toNat)

/-- MQ.WAIT (R133). -/
def execMqWait (c : Nat) (rd rs1 : BitVec 5) (s : State) : Host.Outcome State Fault Refusal :=
  onCore c s (fun d => d.mqWait c rd.toNat rs1.toNat)

/-- MQ.REPLY (R133). -/
def execMqReply (c : Nat) (rd rs1 rs2 : BitVec 5) (s : State) : Host.Outcome State Fault Refusal :=
  onCore c s (fun d => d.mqReply c rd.toNat rs1.toNat rs2.toNat)

/-- MQ.FREE (R133). -/
def execMqFree (c : Nat) (rd rs1 : BitVec 5) (s : State) : Host.Outcome State Fault Refusal :=
  onCore c s (fun d => d.mqFree c rd.toNat rs1.toNat)

/-- SL.LOOKUP (R189). -/
def execSlLookup (c : Nat) (rd rs1 rs2 : BitVec 5) (s : State) : Host.Outcome State Fault Refusal :=
  onCore c s (fun d => d.slLookup c rd.toNat rs1.toNat rs2.toNat)

/-- SL.LEASE, taking (R193). -/
def execSlLease (c : Nat) (rd : BitVec 5) (table : Nat) (s : State) : Host.Outcome State Fault Refusal :=
  onCore c s (fun d => d.slLease c rd.toNat table false)

/-- SL.LEASE, releasing (R193). -/
def execSlLeaseRelease (c : Nat) (rd : BitVec 5) (table : Nat) (s : State) : Host.Outcome State Fault Refusal :=
  onCore c s (fun d => d.slLease c rd.toNat table true)

/-- MACHINE_EXTERNAL_INTERRUPT (R126). -/
def execMachineExternalInterrupt (c : Nat) (s : State) : Host.Outcome State Fault Refusal := onRun s (fun d => d.externalInterrupt c)

end Sys2Proof.Machine
end

