-- ==== Sys2Proof/Machine/Storm.lean ====
section
/-! DEFINITION. The storm engine (08_storm.md): substitution for panes, streamed runs, shadow passes, faults. -/
namespace Sys2Proof.Machine

/-- The storm takes new work: its domain and sill's are open and no fault is being cleared (R21, R224). -/
def Dev.stormUp (d : Dev) : Bool := d.stormOpen && !d.storm.restarting

/-- The storm goes on with the work it has, through the drain of a close too (R224, R228). -/
def Dev.stormLive (d : Dev) : Bool := d.isLive 3 && d.isLive 4 && !d.storm.restarting

/-! ### What the array is doing (STORM_UTIL) -/

/-- The kind of the array's present work. -/
def StormState.kind (s : StormState) : Nat :=
  match s.pass, s.run with
  | some (.subst _), _ => 1
  | _, some _ => 2
  | some (.shadow ..), none => 3
  | none, none => 0

/-- Core ticks of 10 ms. -/
def utilTicks : Nat := 8000000

/-- The array's work has changed: what it did until now joins the work of the last 10 ms. -/
def Dev.stormMark (d : Dev) : Dev :=
  let k := d.storm.kind
  if k = d.storm.doing.1 then d
  else
    let done := if d.storm.doing.1 = 0 then [] else [(d.storm.doing.1, (d.storm.doing.2, d.now))]
    let work := (d.storm.work ++ done).filter (fun (e : Nat × (Nat × Nat)) => d.now < e.2.2 + utilTicks)
    { d with storm := { d.storm with doing := (k, d.now), work := work } }

/-- Per mille of the last 10 ms that the array spent on a kind of work. -/
def Dev.stormShare (d : Dev) (kind : Nat) : Nat :=
  let from_ := d.now - utilTicks
  let spans := d.storm.work ++ [(d.storm.doing.1, (d.storm.doing.2, d.now))]
  ((spans.filter (fun (e : Nat × (Nat × Nat)) => e.1 == kind)).map (fun e => e.2.2 - max e.2.1 from_)).sum * 1000 / utilTicks

/-! ### Substitution (R217, R218) -/

/-- A forwarded product's result returns to its casement. -/
def Dev.stormAnswer (d : Dev) (r : StormReq) (p : ProdResult) : Dev :=
  d.netSend { src := 33, dst := r.casement, typ := tyRsp, len := 15, tag := r.fire, ticket := 0, status := p.status,
              notify := false, payload := p.bytes ++ [p.flagByte] }

/-- The exact product of a pane with its tensor (R208), or the status that refuses it (R183, R210, R217). -/
def Dev.stormProduct (d : Dev) (slot pane : Nat) (cfg : Word) (x : List Int) : (Byte × List Int × Bool) × Dev :=
  match d.tensorOf slot pane with
  | none => ((stPaneSuspect, [], false), d)
  | some a =>
    let ((t, ue), d) := d.readTensor a
    match t with
    | none => ((if ue then stInternalFault else stPaneSuspect, [], false), d)
    | some t =>
      if uAt t 8 4 ≠ (d.reg (aPane pane 0x28)).toNat then ((stPaneSuspect, [], false), d)
      else if ue then ((stInternalFault, [], false), d)
      else
        let (ys, ovr) := tensorProduct t (cfgShift cfg) (nthD (biasAux cfg) 0 0) x (activeCols cfg)
        ((stOk, ys, ovr), d)

/-- Compute a forwarded product and answer it. -/
def Dev.substOne (d : Dev) (r : StormReq) : Dev :=
  let ((st, ys, ovr), d) := d.stormProduct r.slot r.pane r.cfg r.x
  d.stormAnswer r (if st = stOk then
      { codes := stormCodes ys, rsum := 0, ridx := 0, loc := none, status := stOk, ovr := ovr, ckSkip := false, refOvr := false }
    else refusedResult st)

/-- Vectors that a product takes of a pass (R208, R209). -/
def StormReq.width (r : StormReq) : Nat := if wbit r.cfg 4 then 2 else 1

/-- The products that share a pass with the first one: the same tensor, B x P at most 64 (R209, R217). -/
def takeShare (same : StormReq → Bool) : Nat → List StormReq → List StormReq × List StormReq
  | _, [] => ([], [])
  | room, r :: l =>
    if same r && r.width ≤ room then
      let (a, b) := takeShare same (room - r.width) l
      (r :: a, b)
    else
      let (a, b) := takeShare same room l
      (a, r :: b)

/-- An operation of a run other than a MATVEC is under way, which higher-priority work waits for (R218). -/
def Dev.midOperation (d : Dev) : Bool :=
  match d.storm.run with
  | some run =>
    match (d.slot run.slot).model with
    | some m => run.busy && uAt (progOp m.stormProg run.op) 0 1 != 1
    | none => false
  | none => false

/-- A substitution pass begins whenever products wait and none runs (R218, R229): at the tile boundary of a shadow pass or a
MATVEC that it interrupts, or after the run's present operation. -/
def Dev.substStart (d : Dev) : Dev :=
  match d.storm.fwd with
  | [] => d
  | r :: _ =>
    if d.midOperation then d
    else
    let tensor := fun (x : StormReq) => d.tensorOf x.slot x.pane
    let (share, rest) := takeShare (fun x => tensor x == tensor r) 64 d.storm.fwd
    match d.storm.pass with
    | some (.subst _) => d
    | p => { d with storm := { d.storm with
        fwd := rest, pass := some (.subst share), suspended := match p with | some q => some q | none => d.storm.suspended } }

/-- A product forwarded under R24 arrives (R217, R224). -/
def Dev.stormForward (d : Dev) (m : Msg) : Dev :=
  let r : StormReq := { casement := m.src, fire := m.tag, pane := uAt m.payload 0 1, slot := (d.ticket m.ticket).slot,
                        cfg := BitVec.ofNat 32 (uAt m.payload 1 4), x := lanes16 512 (m.payload.drop 5) }
  if !d.stormUp then d.respond m stPartnerGone [] else ({ d with storm.fwd := d.storm.fwd ++ [r] }.substStart).stormMark

/-- A PANE_FWD arrives (R139, R142, R217). -/
def Dev.takeFwd (d : Dev) (m : Msg) : Dev :=
  if m.dst < 32 then d.fwdArrive m else if m.dst = 33 then d.stormForward m else d.respond m stBadParam []

/-! ### Streamed runs (R213 to R216) -/

/-- Insert by a key, after those of an equal one. -/
def insertBy {α : Type} (key : α → Nat) (a : α) : List α → List α
  | [] => [a]
  | b :: l => if key b ≤ key a then b :: insertBy key a l else a :: b :: l

/-- Sort by a key. -/
def sortBy {α : Type} (key : α → Nat) : List α → List α
  | [] => []
  | a :: l => insertBy key a (sortBy key l)

/-- ISSUED streamed tickets of a slot, oldest first (R214). -/
def Dev.streamTickets (d : Dev) (i : Nat) : List Nat :=
  sortBy (fun t => ((d.ticket t).step + 2 ^ 32 - (d.slot i).nextEmit) % 2 ^ 32)
    ((List.range 128).filter (fun t => (d.ticket t).st == .issued && (d.ticket t).streamed && (d.ticket t).slot == i))

/-- A ticket's region before its run (R213). -/
def Dev.newRegion (d : Dev) (prog : List Byte) (t : Nat) : Region :=
  let k := d.ticket t
  let buf := Tab.setList (fun _ => 0) [] 0 [(k.channel : Int), d.degrees 44]
  { ticket := t, buf := Tab.setList (fun _ => 0) buf (16 * progWin prog) k.window, status := 0, out := none, ovr := false }

/-- STREAMED_RUN_START: the next instance in turn runs its oldest tickets (R214); a shadow pass is interrupted (R218). -/
def Dev.runStart (d : Dev) : Dev :=
  let order := (List.range 16).map (fun k => (d.storm.lastSlot + 1 + k) % 16)
  match order.find? (fun i => !(d.streamTickets i).isEmpty) with
  | none => d
  | some i =>
    let subst := match d.storm.pass with | some (.subst _) => true | _ => false
    match (d.slot i).model with
    | none => d
    | some m =>
      if !d.stormUp || d.storm.run.isSome || subst || !d.storm.fwd.isEmpty then d
      else
        let ts := (d.streamTickets i).take (min 64 (2097152 / m.stormBuf))
        let d := ts.foldl (fun d t => d.updTicket t (fun k => { k with st := .running })) d
        let keep := match d.storm.pass with | some p => some p | none => d.storm.suspended
        Dev.stormMark { d with storm := { d.storm with
            run := some { slot := i, op := 0, busy := true, regions := ts.map (d.newRegion m.stormProg) }, lastSlot := i, pass := none,
            suspended := keep } }

/-- Lanes of a region from a buffer offset in 32-byte units. -/
def Region.lanes (r : Region) (off n : Nat) : List Int := Tab.getList (fun _ => 0) r.buf (16 * off) n

/-- Store lanes at a buffer offset in 32-byte units, inside a region of `cap` bytes. -/
def Region.store (r : Region) (cap off : Nat) (l : List Int) : Region :=
  { r with buf := Tab.setList (fun _ => 0) r.buf (16 * off) (l.take (cap / 2 - 16 * off)) }

/-- The first status that is not OK stays. -/
def Region.fail (r : Region) (st : Byte) : Region := if r.status = 0 then { r with status := st } else r

/-- MATVEC for one region (R208, R212). -/
def matvecRegion (o : List Byte) (cap : Nat) (t : Option (List Byte)) (ue : Bool) (r : Region) : Region :=
  let signed := bitOf (uAt o 1 1) 0
  let bias : Int := if bitOf (uAt o 1 1) 1 then (uAt o 3 1 : Nat) else 0
  match t with
  | none => (r.store cap (uAt o 6 2) (List.replicate 520 noData)).fail stInternalFault
  | some t =>
    let x := (r.lanes (uAt o 4 2) 512).map (stageLane signed)
    let (y, ovr) := tensorProduct t (uAt o 2 1) bias x (uAt o 0x0C 2)
    let r := { r.store cap (uAt o 6 2) (stormCodes y) with ovr := r.ovr || ovr }
    if ue then r.fail stInternalFault else r

/-- AU for one region (R134, R212). -/
def auRegion (o : List Byte) (cap : Nat) (r : Region) : Region :=
  let len := uAt o 8 2
  let out := auRun (uAt o 1 1) (uAt o 2 1) (uAt o 3 1) (sxt 16 (uAt o 0x0C 2)) len (r.lanes (uAt o 4 2) len) (r.lanes (uAt o 10 2) len)
  r.store cap (uAt o 6 2) out.lanes

/-- A key field clamped to its range (R212). -/
def clampKey (bits : Nat) (v : Int) : Nat := (clampI 0 ((2 ^ bits - 1 : Nat) : Int) v).toNat

/-- LOOKUP for one region (R190, R212, R216). -/
def Dev.lookupRegion (d : Dev) (o : List Byte) (cap : Nat) (r : Region) : Region × Dev :=
  match d.desc (uAt o 1 1) with
  | none => (r.fail stBadParam, d)
  | some e =>
    let load := clampKey e.loadBits (nthD (r.lanes (uAt o 4 2) 2) 0 0)
    let temp := clampKey e.tempBits (nthD (r.lanes (uAt o 4 2) 2) 1 0)
    let asset := clampKey e.assetBits ((uAt o 8 3 : Nat) : Int)
    let ks := (List.range (uAt o 2 1)).map (fun k => e.index asset (clampKey e.speedBits (((uAt o 3 1 + k : Nat)) : Int)) load temp)
    if ks.any (·.isNone) then (r.fail stBadParam, d)
    else
      let (p, d) := d.poolLookup e (ks.filterMap id)
      let r := r.store cap (uAt o 6 2) p.lanes
      if p.status = stUnwritten then (r, d.updTicket r.ticket (fun k => { k with unwritten := true }))
      else if p.status = stOk then (r, d)
      else (r.fail p.status, d)

/-- Index and value of the highest of scores, ties to the lower class, leaving out class `skip`. -/
def bestClass (scores : List Int) (skip : Nat) : Nat × Int :=
  (List.range scores.length).foldl (fun (b : Nat × Int) k =>
    if k = skip then b
    else if b.1 = 256 || nthD scores k 0 > b.2 then (k, nthD scores k 0) else b) (256, 0)

/-- EMIT for one region (R216). -/
def emitRegion (o : List Byte) (r : Region) : Region :=
  let scores := r.lanes (uAt o 4 2) (uAt o 1 1)
  let anomaly := nthD (r.lanes (uAt o 6 2) 1) 0 0
  let hyp := nthD (r.lanes (uAt o 8 2) 1) 0 0
  if scores.contains noData || anomaly = noData || hyp = noData then { r with out := some (noVerdict stInternalFault) }
  else
    let a := bestClass scores 256
    let b := bestClass scores a.1
    let inRange := 0 ≤ hyp && hyp ≤ 63
    { r with out := some { status := stOk, hyp := if inRange then hyp.toNat else 0, valid := inRange, class1 := a.1, class2 := b.1,
                           score1 := a.2, score2 := b.2, anomaly := max 0 anomaly } }

/-- Apply an operation to every region of the run (R214). -/
def Dev.runOp (d : Dev) (o : List Byte) (cap : Nat) (rs : List Region) : List Region × Dev :=
  if uAt o 0 1 = 1 then
    let ((t, ue), d) := d.readTensor (uAt o 8 4)
    (rs.map (matvecRegion o cap t ue), d)
  else if uAt o 0 1 = 2 then (rs.map (auRegion o cap), d)
  else if uAt o 0 1 = 3 then
    rs.foldl (fun (acc : List Region × Dev) r =>
      let (r, d) := acc.2.lookupRegion o cap r
      (acc.1 ++ [r], d)) ([], d)
  else (rs.map (emitRegion o), d)

/-- The record of a region when its run ends (R216); OVR of its products is the record's (R238), and one that ends on the tick
on which its ticket expires is a near miss (R166). -/
def Dev.regionDone (d : Dev) (r : Region) : Dev :=
  let v := r.out.getD (noVerdict stInternalFault)
  let k := d.ticket r.ticket
  let d := d.setTicket r.ticket { k with wflags := if r.ovr then k.wflags ||| 64 else k.wflags }
  let d := if d.now = k.issuedAt + 800 * d.fldAt (aSlot k.slot 0x08) 0 16 then d.satFld (aSlot k.slot 0x0C) 16 16 else d
  d.endTicket r.ticket v (if r.status = 0 then none else some r.status) true

/-- Streamed tickets wait for a run (R214, R218). -/
def Dev.streamWaits (d : Dev) : Bool := (List.range 16).any (fun i => !(d.streamTickets i).isEmpty)

/-- An interrupted pass resumes, and an interrupted run goes on with its operation, when nothing of higher priority is left
(R218). -/
def Dev.resumePass (d : Dev) : Dev :=
  if d.storm.pass.isSome then d
  else
    match d.storm.run with
    | some run => { d with storm.run := some { run with busy := true } }
    | none =>
      if d.streamWaits then d else { d with storm := { d.storm with pass := d.storm.suspended, suspended := none } }

/-- Sill is in its clear and an operation needs it (R195): the operation waits. -/
def Dev.opWaits (d : Dev) (o : List Byte) : Bool := d.sill.clearing && (uAt o 0 1 == 1 || uAt o 0 1 == 3)

/-- STORM_OPERATION_COMPLETE: one operation of the run ends for the whole batch (R214, R215), and waiting substitutions begin
before the next (R218); after the last, the run's records are assembled. -/
def Dev.stormOpComplete (d : Dev) : Dev :=
  let subst := match d.storm.pass with | some (.subst _) => true | _ => false
  match d.storm.run with
  | none => d
  | some run =>
    match (d.slot run.slot).model with
    | none => d
    | some m =>
      if subst || !d.stormLive || d.opWaits (progOp m.stormProg run.op) then d
      else
        let (rs, d) := d.runOp (progOp m.stormProg run.op) m.stormBuf run.regions
        if run.op + 1 < progOps m.stormProg then
          let d := { d with storm.run := some { run with op := run.op + 1, busy := false, regions := rs } }
          (d.substStart.resumePass).stormMark
        else
          let d := rs.foldl (fun d r => d.regionDone r) { d with storm.run := none }
          (d.substStart.resumePass).stormMark

/-! ### Shadow passes (R219, R241, R242) -/

/-- The staged samples of a dwell. -/
def Dev.dwellSamples (d : Dev) (slot lane dwell : Nat) : List Sample :=
  d.storm.samples.filter (fun s => s.slot == slot && s.lane == lane && s.dwell == dwell)

/-- The dwell of a lane's oldest sample is over: the lane has moved on, or runs no more (R219). -/
def Dev.dwellOver (d : Dev) (s : Sample) : Bool :=
  (d.slot s.slot).st == .stopping
    || (match d.storm.lanes.find? (fun l => l.slot == s.slot && l.lane == s.lane) with
        | some l => s.dwell < l.dwell
        | none => true)

/-- SHADOW_PASS_START: the samples of a lane's oldest dwell are staged, and nothing of higher priority runs or waits (R218,
R219); a pass that was interrupted resumes first. -/
def Dev.shadowStart (d : Dev) (slot lane : Nat) : Dev :=
  if d.storm.suspended.isSome then d.resumePass.stormMark
  else
  match d.storm.samples.find? (fun s => s.slot == slot && s.lane == lane) with
  | none => d
  | some s =>
    let all := d.dwellSamples slot lane s.dwell
    if d.stormUp && d.sampling && d.storm.pass.isNone && d.storm.run.isNone && d.storm.fwd.isEmpty && !d.streamWaits && d.dwellOver s
        && all.all (fun x => x.st == .staged) then
      Dev.stormMark { d with storm.pass := some (.shadow slot lane s.dwell) }
    else d

/-- A sample differs from the exact product in a compared column (R241). -/
def sampleFails (tol act : Nat) (codes : List Int) (ys : List Int) : Bool :=
  (List.range act).any (fun j =>
    let p := nthD codes j noData
    let y := nthD ys j noData
    p != noData && y != noData && y != 511 && y != -511 && (p - 4 * y > 4 * (tol : Int) || 4 * y - p > 4 * (tol : Int)))

/-- A shadow failure is decided: a flag event of the physical pane, and the record's outcome, which for a serving slot is its
home's (R242, R252, R409). -/
def Dev.shadowFail (d : Dev) (s : Sample) : Dev :=
  let d := d.flagEvent s.slot s.pane s.step true none
  if (d.slot s.slot).serving then
    let k := d.ticket s.ticket
    let env := leBytes 1 d.stackId ++ [0xFF, 0, 0] ++ leBytes 4 s.step ++ leBytes 1 (s.ticket % 128) ++ [1, 0, 0]
      ++ leBytes 4 (d.slot s.slot).modelId ++ zeros 16
    let m : Msg := { src := 33, dst := 37, typ := tyData, len := 0, tag := 0, ticket := s.ticket % 128, status := 0,
                     notify := false, payload := env }
    (d.stkSend k.channel 3 0 (sideband m ++ env)).2
  else d.shadowFailed s.slot s.step

/-- One sample is compared and resolved (R241, R242); without a tensor to compare with it is abandoned (R222). -/
def Dev.compareSample (d : Dev) (s : Sample) : Dev :=
  let ((st, ys, _), d) := d.stormProduct s.slot s.path s.cfg s.x
  if st != stOk then d.abandon s
  else
    let tol := ((d.ckOf s.slot).path s.path).tol
    let d := { d with storm.samples := d.storm.samples.erase s }
    let d := d.setReg 0x8000C (d.reg 0x8000C + 1)
    if sampleFails tol (activeCols s.cfg) s.codes ys then d.shadowFail s else d

/-- The substitution pass ends: its products are answered, and waiting ones begin. -/
def Dev.substEnd (d : Dev) (rs : List StormReq) : Dev :=
  let d := rs.foldl (fun d r => d.substOne r) { d with storm.pass := none }
  d.substStart.resumePass

/-- The shadow pass ends: every sample of its dwell is resolved (R225, R242). -/
def Dev.shadowEnd (d : Dev) (slot lane dwell : Nat) (onAbandonTick : Bool) : Dev :=
  let d := if onAbandonTick then d.satFld 0x80010 16 16 else d
  let d := (d.dwellSamples slot lane dwell).foldl (fun d s => d.compareSample s) { d with storm.pass := none }
  d.settle.resumePass

/-- STORM_PASS_END (R209, R225); a pass waits while sill, which holds its tensor, is in its clear (R195). -/
def Dev.passEnd (d : Dev) (onAbandonTick : Bool) : Dev :=
  if !d.stormLive || d.sill.clearing then d
  else
    match d.storm.pass with
    | none => d
    | some (.subst rs) => (d.substEnd rs).stormMark
    | some (.shadow slot lane dwell) => (d.shadowEnd slot lane dwell onAbandonTick).stormMark

/-! ### Faults and closing (R224, R228) -/

/-- Work of the storm ends without results: forwarded products return PARTNER_GONE, the run's tickets end with a status. -/
def Dev.stormDrop (d : Dev) (st : Byte) : Dev :=
  let rs := (match d.storm.pass with | some (.subst rs) => rs | _ => []) ++ d.storm.fwd
  let ts : List Nat := match d.storm.run with | some r => r.regions.map (fun (x : Region) => x.ticket) | none => []
  let d := { d with storm := { d.storm with pass := none, suspended := none, fwd := [], run := none } }
  let d := rs.foldl (fun d r => d.stormAnswer r (refusedResult stPartnerGone)) d
  (ts.foldl (fun d t => d.finishTicket t (noVerdict st) (some st)) d).stormMark

/-- STORM_FAULT (R223, R224). -/
def Dev.stormFault (d : Dev) : Dev :=
  if !d.isPowered 3 || d.storm.restarting then d
  else
    let d := (d.stormDrop stInternalFault).setFld 0x80000 1 1 1
    let d := { d with storm.restarting := true }
    ((d.abandonAll).noteState 8 0 0).faultLog 7 0 0 0

/-- STORM_RESTART (R224). -/
def Dev.stormRestart (d : Dev) : Dev := { d with storm.restarting := false }

/-- The STORM shutter closes (R228): what has not completed ends, streamed tickets with PARTNER_GONE. -/
def Dev.stormClose (d : Dev) : Dev :=
  let waiting := (List.range 128).filter (fun t => (d.ticket t).st == .issued && (d.ticket t).streamed)
  let d := d.stormDrop stPartnerGone
  let d := waiting.foldl (fun d t => d.finishTicket t (noVerdict stPartnerGone) (some stPartnerGone)) d
  { d.abandonAll with storm.restarting := false }

/-! ### Meanings -/

/-- PANE_FWD (R139, R142, R217). -/
def execPaneFwd (src dst : Nat) (s : State) : Host.Outcome State Fault Refusal :=
  onRun s (fun d => d.arrive src dst tyPaneFwd (fun m d => d.takeFwd m))

/-- STREAMED_RUN_START (R214). -/
def execStreamedRunStart (s : State) : Host.Outcome State Fault Refusal := onRun s Dev.runStart

/-- STORM_OPERATION_COMPLETE (R215). -/
def execStormOperationComplete (s : State) : Host.Outcome State Fault Refusal := onRun s (fun d => d.stormOpComplete)

/-- SHADOW_PASS_START (R219). -/
def execShadowPassStart (slot lane : Nat) (s : State) : Host.Outcome State Fault Refusal := onRun s (fun d => d.shadowStart slot lane)

/-- STORM_PASS_END (R209). -/
def execStormPassEnd (onAbandonTick : Bool) (s : State) : Host.Outcome State Fault Refusal := onRun s (fun d => d.passEnd onAbandonTick)

/-- STORM_FAULT (R224). -/
def execStormFault (s : State) : Host.Outcome State Fault Refusal := onDev s Dev.stormFault

/-- STORM_RESTART (R224). -/
def execStormRestart (s : State) : Host.Outcome State Fault Refusal := onDev s Dev.stormRestart

end Sys2Proof.Machine
end

