-- ==== Sys2Proof/Machine/Stack.lean ====
section
/-! DEFINITION. The Declys stack link (15_stacks_and_fabric.md R398 to R414, R421, R573, R574): frames in, ports, roles,
epochs and failover. -/
namespace Sys2Proof.Machine

/-! ### Packets as bytes -/

/-- A command packet without DEADLINE (R518). -/
def commandPacket (op tag : Byte) (params : List Byte) : List Byte :=
  withCrc ([0xA5, op, tag, 0] ++ leBytes 2 params.length ++ params)

/-- A command packet as it arrives whole (R518): opcode, tag, FLAGS, deadline and parameters; none when its SYNC, LENGTH or
CRC is wrong. -/
def parseCommand (b : List Byte) : Option CmdSlot :=
  let fl := nthD b 3 0
  let head := if bitOf fl.toNat 0 then 8 else 6
  let n := uAt b 4 2
  if nthD b 0 0 == 0xA5 && head + 2 ≤ b.length && b.length = head + n + 2 && n ≤ 4096
      && crc16 (b.take (head + n)) = uAt b (head + n) 2 then
    some { op := nthD b 1 0, tag := nthD b 2 0, flags := fl,
           deadline := if bitOf fl.toNat 0 then some (max 1 (uAt b 6 2)) else none,
           params := bytesAt b head n, phase := .queued }
  else none

/-! ### Acknowledgements (R402) -/

/-- Frames of a kind to a STACK_ID that this device still has to see acknowledged. -/
def Dev.unacked (d : Dev) (typ dst : Nat) : Nat :=
  ((List.range 3).map (fun p =>
    (((d.port p).queue ++ (d.port p).replay).filter (fun f => f.typ == typ && f.src == d.stackId && f.dst == dst)).length)).sum

/-- A STACK_CONFIG RESET ends with a status. -/
def Dev.endRstAwait (d : Dev) (w : RstAwait) (st : Byte) : Dev :=
  { d with stk.rstAwaits := d.stk.rstAwaits.erase w }.reply w.cmd st []

/-- RESET frames that are no longer outstanding have been acknowledged: their commands are answered, oldest first (R573). -/
def Dev.resetsAcked (d : Dev) (target : Nat) : Dev :=
  let ws := d.stk.rstAwaits.filter (fun w => w.target == target)
  (ws.take (ws.length - d.unacked 0xC target)).foldl (fun d w => d.endRstAwait w stOk) d

/-- An ACK on a port acknowledges every frame up to its SEQ; on the tick of the give-up it counts as arrived (R402). -/
def Dev.stkAck (d : Dev) (p ack : Nat) (onGiveUpTick : Bool) : Dev :=
  let q := d.port p
  match q.replay.findIdx? (fun f => f.seq == ack) with
  | none => d
  | some k =>
    let d := d.setPort p { q with replay := q.replay.drop (k + 1) }
    let d := if onGiveUpTick then d.satFld 0xB0110 0 16 else d
    (List.range 4).foldl (fun d t => d.resetsAcked t) d

/-! ### Replay of COUNTERs (R401) -/

/-- The COUNTERs of a source that a receiver remembers. -/
def countersOf (l : List (Nat × List Nat)) (src : Nat) : List Nat :=
  match l.find? (fun e => e.1 == src) with
  | some e => e.2
  | none => []

/-- A COUNTER that R401 lets pass: above the highest accepted minus 64, and not seen within that window. -/
def counterFresh (l : List (Nat × List Nat)) (src c : Nat) : Bool :=
  let cs := countersOf l src
  cs.all (fun x => c + 64 > x) && !cs.contains c

/-- An accepted COUNTER is remembered with those still within the window. -/
def counterSeen (l : List (Nat × List Nat)) (src c : Nat) : List (Nat × List Nat) :=
  let cs := c :: countersOf l src
  let top := cs.foldl max 0
  l.filter (fun e => e.1 != src) ++ [(src, cs.filter (fun x => x + 64 > top))]

/-! ### Reach (R404) -/

/-- Every forwarded command to a target ends PARTNER_GONE. -/
def Dev.forwardsGone (d : Dev) (p : Forward → Bool) : Dev :=
  (d.stk.forwards.filter p).foldl (fun d w =>
    { d with stk.forwards := d.stk.forwards.erase w }.refuse w.cmd stPartnerGone) d

/-- The CMD frame of a forwarded command is still to be sent or acknowledged (R402). -/
def Dev.cmdOut (d : Dev) (w : Forward) : Bool :=
  (List.range 3).any (fun p => ((d.port p).queue ++ (d.port p).replay).any (fun f =>
    f.typ == 4 && f.src == d.stackId && f.dst == w.target && nthD f.payload 1 0 == w.op && nthD f.payload 2 0 == w.tag))

/-- A partner is out of reach: NOTE_PARTNER STACK_DOWN, its sources are lost, and forwarded commands that it had received get
no reply any more (R249, R404, R431). A frame not yet acknowledged is tried again for its 2 ms (R402). -/
def Dev.partnerGone (d : Dev) (id uid : Nat) : Dev :=
  let d := d.notePartner 1 id 0 uid
  let d := d.loseSourcesOf (fun e => e.node == 0 && e.stackId == id)
  d.forwardsGone (fun w => w.target == id && !d.cmdOut w)

/-- The unique ID that a port's partner gave in training. -/
def Dev.uidOf (d : Dev) (id : Nat) : Nat :=
  match (List.range 3).filterMap (fun p => (d.port p).train) |>.find? (fun t => t.1 == id) with
  | some (_, _, u) => u
  | none => 0

/-- A port changes state by `f`: partners that it brings or takes are reported (R404, R420). -/
def Dev.portChange (d : Dev) (f : Dev → Dev) : Dev :=
  let before := d.partners
  let uid := d.uidOf
  let d := f d
  let after := d.partners
  let d := (before.filter (fun i => !after.contains i)).foldl (fun d i => d.partnerGone i (uid i)) d
  (after.filter (fun i => !before.contains i)).foldl (fun d i => d.notePartner 0 i 0 (d.uidOf i)) d

/-- The port is enabled (STACK_CFG.PORTn_EN). -/
def Dev.portEnabled (d : Dev) (p : Nat) : Bool := d.isOpen 5 && p < 3 && d.bitAt 0xB0004 p

/-- The bytes of this device's TRAIN (R400): STACK_ID, generation, unique ID. -/
def Dev.trainBytes (d : Dev) : List Byte := leBytes 1 d.stackId ++ leBytes 4 d.stk.generation ++ uidBytes

/-- TRAIN leaves on a port that trains (R399). -/
def Dev.sendTrain (d : Dev) (p : Nat) : Dev := d.stkNow p (d.stkFrame 0xE (d.port p).partner 2 d.trainBytes)

/-- Training begins anew in a state of the port: nothing of the partner is known, and TRAIN goes out (R399). -/
def Dev.startTrain (d : Dev) (p st : Nat) : Dev :=
  (d.updPort p (fun q => { q with st := st, train := none, best := none, rounds := 0, synced := false })).sendTrain p

/-- The originator of a dropped frame receives PARTNER_GONE (R402). -/
def Dev.frameGone (d : Dev) (f : StkFrame) : Dev :=
  if f.src != d.stackId then
    (if f.typ = 4 then (d.stkSend f.src 5 1 (replyPacket (nthD f.payload 1 0) (nthD f.payload 2 0) stPartnerGone [])).2 else d)
  else if f.typ = 4 then
    d.forwardsGone (fun w => w.target == f.dst && w.op == nthD f.payload 1 0 && w.tag == nthD f.payload 2 0)
  else if f.typ = 0xC then
    match d.stk.rstAwaits.find? (fun w => w.target == f.dst) with
    | some w => d.endRstAwait w stPartnerGone
    | none => d
  else if f.typ = 3 then
    let sb := uAt f.payload 0 8
    if bitOf sb 45 then
      d.ghostSend { src := 37, dst := fld sb 6 6, typ := tyRsp, len := 0, tag := fld sb 22 8, ticket := fld sb 30 7,
                    status := stPartnerGone, notify := true, payload := zeros 32 }
    else d
  else d

/-- A frame that waits on a port whose partner does not come back takes another route, or is dropped (R402, R404). -/
def Dev.frameAstray (d : Dev) (f : StkFrame) : Dev :=
  match d.stkRoute f.dst with
  | some p => d.stkQueue p f
  | none =>
    let d := match f.held with | some r => d.creditBack r f.vc | none => d
    d.frameGone f

/-- Frames that wait to be sent on a port find another route or are dropped. -/
def Dev.flushQueue (d : Dev) (p : Nat) : Dev :=
  (d.port p).queue.foldl (fun d f => d.frameAstray f) (d.updPort p (fun q => { q with queue := [] }))

/-- A port that is disabled loses its unacknowledged frames too. -/
def Dev.flushPort (d : Dev) (p : Nat) : Dev :=
  (d.port p).replay.foldl (fun d f => d.frameGone f) ((d.updPort p (fun q => { q with replay := [] })).flushQueue p)

/-- The port goes DOWN and trains again while it is enabled (R399, R404). -/
def Dev.portDown (d : Dev) (p : Nat) : Dev :=
  d.portChange (fun d =>
    if d.portEnabled p then d.startTrain p 1
    else d.updPort p (fun q => { q with st := 0, train := none, best := none, rounds := 0, synced := false }))

/-- Each enabled port that is disabled starts to train, and a port that is no longer enabled is disabled (R399). -/
def Dev.trainPorts (d : Dev) : Dev :=
  (List.range 3).foldl (fun d p =>
    if d.portEnabled p then (if (d.port p).st = 0 then d.startTrain p 1 else d)
    else if (d.port p).st = 0 then d else (d.portDown p).flushPort p) d

/-! ### A frame comes in -/

/-- A frame in transit goes on by its route; a command without a route is answered PARTNER_GONE (R404, R406). -/
def Dev.stkTransit (d : Dev) (f : StkFrame) : Dev :=
  match d.stkRoute f.dst with
  | some p => d.stkQueue p f
  | none => d.frameAstray f

/-- Frames that a port's receive buffer of a VC holds: those that wait in transit, and DATA that waits for its inbox (R403). -/
def Dev.rxHeld (d : Dev) (p vc : Nat) : Nat :=
  ((List.range 3).map (fun o => ((d.port o).queue.filter (fun f => f.held == some p && f.vc == vc)).length)).sum
    + (if vc = 0 then (d.mul.dispatch.filter (fun m => m.via == some p)).length else 0)

/-- What is done with a received frame (R400 to R404): a frame that fails its CRC or tag, repeats a COUNTER or is out of
sequence is discarded; its acknowledgement counts; a frame for another device goes on, and `h` takes one for this device; its
credit goes back as it leaves the buffer of 16, which for DATA and for a frame in transit is later (R403). -/
def Dev.stkRecv (d : Dev) (f : StkHdr) (typ vc : Nat) (payload : List Byte) (h : Dev → Dev) : Dev :=
  let q := d.port f.port
  let live := d.isOpen 5 && f.port < 3 && f.good
    && (q.st == 2 || ((q.st == 1 || q.st == 3) && (typ == 0xE || typ == 0xB)))
  if !live || (f.auth && !(d.hasStackKey && counterFresh d.stk.seen f.src f.counter)) then d
  else if !stkUnsequenced typ && (f.seq != (q.rxSeq + 1) % 65536 || d.rxHeld f.port vc ≥ 16) then d
  else
    let d := d.incCounter (0x61 + 2 * f.port)
    let d := { d with stk := { d.stk with
      seen := if f.auth then counterSeen d.stk.seen f.src f.counter else d.stk.seen } }
    let d := if stkUnsequenced typ then d else d.setPort f.port { q with rxSeq := f.seq }
    let d := d.stkAck f.port f.ack f.onGiveUpTick
    if stkUnsequenced typ then h d
    else if f.dst = d.stackId then h (if typ = 3 then d else d.creditBack f.port vc)
    else d.stkTransit { typ := typ, src := f.src, dst := f.dst, vc := vc, auth := f.auth, seq := 0, counter := f.counter,
                        payload := payload, held := some f.port }

/-! ### Frames by type -/

/-- HEARTBEAT (R403, R411): the standby records the master's latest issued steps. -/
def Dev.heartbeat (d : Dev) (src : Nat) (steps : List Word) : Dev :=
  if d.stk.role = 1 ∧ src = d.stk.masterId then { d with stk.hbSteps := steps.map (·.toNat) } else d

/-- CREDIT (R403): credits return, and frames that waited for them leave. -/
def Dev.stkCredit (d : Dev) (p req rsp ctl : Nat) : Dev :=
  let q := d.port p
  let add := fun (v n : Nat) => min 16 (nthD q.credits v 0 + n)
  Dev.stkDrain (q.queue.length + 1) (d.setPort p { q with credits := [add 0 req, add 1 rsp, add 2 ctl] }) p

/-- A home ticket's record is flagged for what a partner found upstream: CHECKSUM or RANGE, which of the two its envelope does
not say (R408; a free value, log entry 48). -/
def Dev.upstreamCheck (d : Dev) (t step : Nat) : Dev :=
  let k := d.ticket t
  if k.live && k.step = step then
    let (n, d) := d.draw
    let sum := Config.freeNat n % 2 = 0
    d.setTicket t { k with evidence := k.evidence ++ [{ path := 0, pane := 0, ckFail := sum, range := !sum, ovr := false, ckSkip := false, storm := false, status := stOk }] }
  else d

/-- DATA on a port (R403, R408, R409): a partner's shadow failure, which the model marks with target 0xFF (log entry 47), or an
activation for the target casement, from source 37, which stays in the receive buffer until it is sent on. -/
def Dev.stackData (d : Dev) (port src ticket : Nat) (notify : Bool) (payload : List Byte) : Dev :=
  let event := bitOf (uAt payload 9 1) 0
  let target := uAt payload 1 1 % 32
  let step := uAt payload 4 4
  if uAt payload 1 1 = 0xFF then
    let d := d.creditBack port 0
    match d.busySlots.find? (fun i => !(d.slot i).serving && (d.slot i).modelId == uAt payload 12 4) with
    | some i => d.shadowFailed i step
    | none => d
  else
    let d := if event && (d.servingSlot target).isNone then d.upstreamCheck (uAt payload 8 1 % 128) step else d
    let body := leBytes 1 src ++ payload.drop 1
    let m : Msg := { src := 37, dst := target, typ := tyData, len := (body.length + 31) / 32 - 1, tag := 0, ticket := ticket,
                     status := 0, notify := notify, payload := body, via := some port }
    let d := { d with mul.dispatch := d.mul.dispatch ++ [m] }
    if d.dbg.bolted then d else d.pumpWindows

/-- REPLY (R406, R574): the forwarded command is answered with what its target replied. -/
def Dev.stackReply (d : Dev) (src : Nat) (b : List Byte) : Dev :=
  match d.stk.forwards.find? (fun w => w.target == src && w.op == nthD b 1 0 && w.tag == nthD b 2 0) with
  | none => d
  | some w =>
    let n := uAt b 4 2
    { d with stk.forwards := d.stk.forwards.erase w }.reply w.cmd stOk
      ([nthD b 3 0, 0] ++ leBytes 2 n ++ (bytesAt b 6 n).take 4092)

/-- A notification displaces a NOTE_PROBE or NOTE_PARTNER when the queue is full (R532): NOTE_ALARM, LINK_UP, DOORSTEP. -/
def noteDisplaces (typ : Nat) (data : List Byte) : Bool :=
  typ == 7 || (typ == 8 && (nthD data 0 0 == 1 || nthD data 0 0 == 2))

/-- NOTE (R407, R534): the master relays a partner's notification under its own SEQ. -/
def Dev.relayNote (d : Dev) (src : Nat) (b : List Byte) : Dev :=
  if d.ownHost then
    let typ := uAt b 1 1 % 32
    let data := bytesAt b 6 (uAt b 4 2)
    d.noteLocal (typ + 32 * src) data (noteDisplaces typ data)
  else d

/-- RECORD (R407, R246): a partner's records enter the source table, and the master's result queue when their destinations
include the host; how the frame says so is not given (log entry 87). -/
def Dev.stackRecord (d : Dev) (src : Nat) (toHost : Bool) (b : List Byte) : Dev :=
  (chunks 16 32 b).foldl (fun d r =>
    let d := { d with stk.recvd := (d.stk.recvd ++ [(src, recSlot r, recSeq r)]).drop (d.stk.recvd.length + 1 - 8192) }
    let d := if d.ownHost && toHost then d.resqPush src r else d
    d.sourceRecord 0 src r) d

/-- RESOLVE (R247, R407, R430): resolutions of records that were received. -/
def Dev.stackResolve (d : Dev) (src : Nat) (b : List Byte) : Dev :=
  (chunks 32 16 b).foldl (fun d r =>
    let slot := uAt r 0 1 % 16
    let seq := uAt r 2 2
    let retract := bitOf (uAt r 1 1) 0
    if d.stk.recvd.contains (src, slot, seq) then
      let d := if d.ownHost then d.queueResol { retract := retract, data := r } else d
      d.sourceResolved 0 src slot seq retract (uAt r 8 2)
    else d) d

/-- EPOCH (R411): checkpoint data for the inactive buffer; frames of an epoch that was never committed make room. -/
def Dev.epochIn (d : Dev) (src : Nat) (data : List Byte) : Dev :=
  if d.stk.role = 1 ∧ src = d.stk.masterId then
    let old := d.stk.inactive.filter (fun b => b.take 4 == data.take 4)
    { d with stk.inactive := old ++ [data] }
  else d

/-- COMMIT (R411): the epoch is committed when its frame count and CRC match, and is discarded otherwise. -/
def Dev.commitIn (d : Dev) (src epoch count crc : Nat) : Dev :=
  if d.stk.role = 1 ∧ src = d.stk.masterId then
    let bytes := d.stk.inactive.flatten
    if d.stk.inactive.length = count ∧ crc32 bytes = crc then
      { d with stk := { d.stk with inactive := [], committed := bytes, epoch := epoch } }
    else { d with stk.inactive := [] }
  else d

/-- RTT and offset of one exchange of timestamps (R421). -/
def offsetRound (t1 t2 t3 t4 : Nat) : Int × Int :=
  (((t4 : Int) - t1) - ((t3 : Int) - t2), (((t2 : Int) - t1) - ((t4 : Int) - t3)) / 2)

/-- The better of two rounds: the smaller RTT; the earlier on a tie (R421). -/
def betterRound (a : Option (Int × Int)) (b : Int × Int) : Int × Int :=
  match a with
  | some x => if b.1 < x.1 then b else x
  | none => b

/-- A SYNC leaves on a port (R421): a request with t1, or the answer to one. -/
def Dev.sendSync (d : Dev) (p t1 t2 t3 : Nat) : Dev :=
  d.stkNow p (d.stkFrame 0xB (d.port p).partner 2 (leBytes 8 t1 ++ leBytes 8 t2 ++ leBytes 8 t3))

/-- A round's answer is here: the next request goes out, or the 16th round records the offset (R399, R421). -/
def Dev.syncRound (d : Dev) (p : Nat) (r : Int × Int) : Dev :=
  let q := d.port p
  let r := betterRound q.best r
  if q.rounds + 1 < 16 then (d.setPort p { q with best := some r, rounds := q.rounds + 1 }).sendSync p d.now 0 0
  else
    let d := d.setPort p { q with best := none, rounds := 0, synced := true }
    { d with stk.offs := d.stk.offs.filter (fun e => e.1 != q.partner) ++ [(q.partner, r.2)] }

/-- SYNC (R399, R421): a request is answered with the times of its receipt and of the reply; an answer ends a round. -/
def Dev.syncIn (d : Dev) (p : Nat) (request : Bool) (t1 t2 t3 t4 : Nat) : Dev :=
  if (d.port p).train.isNone then d
  else if request then d.sendSync p t1 d.now d.now
  else d.syncRound p (offsetRound t1 t2 t3 t4)

/-- A higher generation is adopted: a master or acting master becomes a follower (R414). -/
def Dev.adopt (d : Dev) (generation master : Nat) : Dev :=
  let lost := d.stk.role = 0 ∨ d.stk.role = 3
  { d with stk := { d.stk with
      generation := generation, masterId := master
      role := if lost then 2 else d.stk.role, former := d.stk.former || lost, formed := d.stk.formed && !lost } }

/-- The master that a higher generation brings (DEDUCED, log entry 94): a device that was master has been followed by the
standby, or is told by its partner; for another the first generation is FORM's, and a later one the standby's. -/
def Dev.masterOf (d : Dev) (generation id : Nat) : Nat :=
  if d.stk.role = 0 ∨ d.stk.role = 3 then (if d.stackId = 1 then id else 1)
  else if generation ≥ 2 then 1 else d.stk.masterId

/-- TRAIN (R399, R414, R426): the partner's STACK_ID, generation and unique ID; the first one is answered, and the SYNC rounds
begin. -/
def Dev.trainIn (d : Dev) (p id generation uid : Nat) : Dev :=
  let id := id % 4
  if id = d.stackId then (d.setFld 0xB0000 9 1 1).notePartner 3 id 0 uid
  else
    let first := (d.port p).train.isNone
    let d := d.updPort p (fun q => { q with train := some (id, generation, uid), partner := id })
    let d := if first then (d.sendTrain p).sendSync p d.now 0 0 else d
    if generation > d.stk.generation then d.adopt generation (d.masterOf generation id)
    else if generation < d.stk.generation ∧ d.stk.role = 3 ∧ id = 0 then d.notePartner 4 id 0 uid
    else d

/-- TAKEOVER (R413, R414). -/
def Dev.takeoverIn (d : Dev) (src generation : Nat) : Dev :=
  if generation > d.stk.generation then d.adopt generation src else d

/-! ### Ports -/

/-- Frames of a link that starts afresh, renumbered from a SEQ on; nothing has been received yet. -/
def renumber : Nat → List StkFrame → List StkFrame
  | _, [] => []
  | n, f :: l => { f with seq := n % 65536, ack := 0xFFFF } :: renumber (n + 1) l

/-- PORT_UP (R399), once TRAIN and 16 SYNC rounds are through: the link starts afresh with 16 credits a VC, and unacknowledged frames are sent again; the master opens a
partner that may still be in WAKING (R405). -/
def Dev.portUp (d : Dev) (p : Nat) : Dev :=
  let q := d.port p
  if !(d.portEnabled p && (q.st == 1 || q.st == 3) && q.train.isSome && q.synced) then d
  else
    let d := d.portChange (fun d => d.setPort p { q with
      st := 2, credits := [16, 16, 16], rxSeq := 0xFFFF, txSeq := q.replay.length, replay := renumber 0 q.replay,
      lastTx := match (renumber 0 q.replay).getLast? with | some f => some f | none => q.lastTx
      wire := if q.replay.isEmpty then q.wire else ((renumber 0 q.replay).map (stkBytes d.stackKey p)).flatten })
    let d := if d.stk.role = 0 ∨ d.stk.role = 3 then d.stkOut p 4 q.partner 0 (commandPacket 0x10 0 [0, 0]) else d
    Dev.stkDrain (q.queue.length + 2) d p

/-- NO_TRAIN (R399): 10 ms without UP are reported, training starts again, and frames that still wait for the partner are
dropped. -/
def Dev.noTrain (d : Dev) (p : Nat) : Dev :=
  let q := d.port p
  if d.portEnabled p && (q.st == 1 || q.st == 3) then ((d.startTrain p 3).notePartner 2 q.partner 0 0).flushQueue p else d

/-- STACK_RESEND (R402): every unacknowledged frame goes again, from the oldest on. -/
def Dev.stkResend (d : Dev) (p : Nat) : Dev :=
  let q := d.port p
  let fs := q.replay.map (fun f => { f with ack := q.rxSeq })
  match fs.getLast? with
  | none => d
  | some f =>
    if q.st = 2 then
      d.setPort p { q with resends := satInc 16 q.resends, lastTx := some f, wire := (fs.map (stkBytes d.stackKey p)).flatten }
    else d

/-- STACK_GIVE_UP (R402): the oldest frame is dropped and the port goes DOWN. -/
def Dev.stkGiveUp (d : Dev) (p : Nat) : Dev :=
  let q := d.port p
  match q.replay with
  | [] => d
  | f :: rest =>
    let d := (d.setPort p { q with replay := rest }).frameGone f
    if (d.port p).st = 2 then d.portDown p else d

/-- The steps that a HEARTBEAT carries (R400): the latest issued step of each STARTED slot. -/
def Dev.heartbeatBytes (d : Dev) : List Byte :=
  (d.startedSlots.map (fun i => leBytes 4 (((d.slot i).step + 2 ^ 32 - 1) % 2 ^ 32))).flatten

/-- HEARTBEAT_DUE (R403): it leaves ahead of every queued frame and takes no credit. -/
def Dev.heartbeatDue (d : Dev) (p : Nat) : Dev :=
  let q := d.port p
  let f := d.stkFrame 1 q.partner 2 d.heartbeatBytes
  if p < 3 && q.st = 2 then d.stkNow p f else d

/-! ### Epochs (R410) -/

/-- One STARTED slot's part of the stack state, 20 bytes. -/
def Dev.epochEntry (d : Dev) (i : Nat) : List Byte :=
  let s := d.slot i
  leBytes 1 i ++ leBytes 1 s.mode ++ leBytes 2 s.mask ++ leBytes 1 s.dest ++ leBytes 1 s.reserve ++ [0, 0]
    ++ leBytes 4 s.modelId ++ leBytes 4 s.step ++ leBytes 2 ((s.seq + (s.step + 2 ^ 32 - s.nextEmit)) % 65536) ++ [0, 0]

/-- The stack state at an epoch's cut: epoch, generation, members, routes and STARTED slots. -/
def Dev.epochData (d : Dev) (n : Nat) : List Byte :=
  leBytes 4 n ++ leBytes 2 d.stk.generation ++ leBytes 1 (maskOfList (d.stackId :: d.partners)) ++ leBytes 1 d.startedSlots.length
    ++ (List.range 4).map (fun i => match d.stkRoute i with | some p => BitVec.ofNat 8 p | none => 0xFF)
    ++ (d.startedSlots.map d.epochEntry).flatten

/-- EPOCH_CLOSE (R410): the master of a formed stack sends the epoch and its COMMIT to the standby. -/
def Dev.epochClose (d : Dev) : Dev :=
  if d.stk.role = 0 ∧ d.stk.formed = true then
    let n := d.stk.epoch + 1
    let b := d.epochData n
    let d := { d with stk.epoch := n }
    let d := (d.stkSend 1 9 2 b).2
    (d.stkSend 1 0xA 2 (leBytes 4 n ++ leBytes 4 1 ++ leBytes 4 (crc32 b))).2
  else d

/-- STK_ALIVE_TOGGLE (R412). -/
def Dev.aliveToggle (d : Dev) : Dev :=
  if d.stk.role = 0 ∧ d.isOpen 5 = true then { d with stk.aliveOut := !d.stk.aliveOut } else d

/-! ### Takeover (R412 to R414) -/

/-- The last lost step (R413): H, and D in whole microseconds. -/
def lastLost (h us : Nat) : Nat := (h + 16 * (us / 640 + 1) + us + 1) % 2 ^ 32

/-- One STARTED slot of the adopted epoch: it resumes in the standby's slot of that model, or is ended; the answer holds its
NOTE_FAILOVER entry (R413, R533). -/
def Dev.takeSlot (d : Dev) (e : List Byte) (h us : Nat) : List Byte × Dev :=
  let model := uAt e 8 4
  let first := uAt e 12 4
  let last := lastLost h us
  let dest := uAt e 4 1
  let reserve := uAt e 5 1
  let mask := uAt e 2 2
  let policy := if uAt e 1 1 = 1 then 1 else 0
  let entry := fun (ended : Nat) =>
    leBytes 1 (uAt e 0 1) ++ leBytes 1 ended ++ [0, 0] ++ leBytes 4 model ++ leBytes 4 first ++ leBytes 4 last
  match (List.range 16).find? (fun i => (d.slot i).st == .loaded && (d.slot i).modelId == model) with
  | some i =>
    if (d.startRefusal i policy reserve dest mask).isSome then (entry 1, d)
    else
      let next := (last + 1) % 2 ^ 32
      let seq := (uAt e 16 2 + (next + 2 ^ 32 - first)) % 65536
      (entry 0, (d.startModel i policy reserve dest mask).updSlot i (fun s => { s with step := next, nextEmit := next, seq := seq }))
  | none => (entry 1, d)

/-- Every slot of the adopted epoch, with the heartbeat's step of the same place. -/
def Dev.takeSlots : Dev → List (List Byte × Nat) → Nat → List Byte × Dev
  | d, [], _ => ([], d)
  | d, (e, h) :: l, us =>
    let (b, d) := d.takeSlot e h us
    let (bs, d) := Dev.takeSlots d l us
    (b ++ bs, d)

/-- STANDBY_TAKEOVER (R412, R413): 200 microseconds of silence; with STK_ALIVE still toggling only PARTITION is set. -/
def Dev.takeover (d : Dev) (aliveStopped : Bool) (us : Nat) : Dev :=
  if d.stk.role != 1 then d
  else if !aliveStopped then d.setFld 0xB0000 8 1 1
  else
    let old := d.stk.masterId
    let c := d.stk.committed
    let gen := (max d.stk.generation (uAt c 4 2) + 1) % 65536
    let n := uAt c 7 1
    let d := { d with stk := { d.stk with role := 3, generation := gen, masterId := d.stackId, formed := false } }
    let msg := leBytes 4 gen ++ leBytes 4 d.stk.epoch
    let d := (List.range 3).foldl (fun d p => if (d.port p).st = 2 then d.stkOut p 0xD (d.port p).partner 2 msg else d) d
    let es := (chunks n 20 (c.drop 12)).take n
    let hs := (List.range n).map (fun k => nthD d.stk.hbSteps k ((uAt (nthD es k []) 12 4 + 2 ^ 32 - 1) % 2 ^ 32))
    let (entries, d) := d.takeSlots (es.zip hs) us
    let d := d.loseSourcesOf (fun e => e.node == 0 && e.stackId == old)
    d.noteLocal (6 + 32 * d.stackId) (leBytes 4 d.stk.epoch ++ leBytes 2 gen ++ leBytes 1 n ++ [0] ++ entries) false

/-! ### STACK_CONFIG (R573, R574) -/

/-- The device is neither master nor acting master. -/
def Dev.notMaster (d : Dev) : Bool := !(d.stk.role == 0 || d.stk.role == 3)

/-- STK_STATUS.REACH: the STACK_IDs that can be reached, its own among them. -/
def Dev.reachMask (d : Dev) : Nat := maskOfList (d.stackId :: d.partners)

/-- STK_STATUS as it reads. -/
def Dev.stkStatus (d : Dev) : Word :=
  let w := d.reg 0xB0000
  let w := wset (wset (wset w 0 2 d.stackId) 2 2 d.stk.role) 4 4 d.reachMask
  let w := wset w 10 1 (b2n ((d.stk.role == 0 || d.stk.role == 3) && (d.stackId == 1 || !d.partners.contains 1)))
  let w := wset w 11 1 (b2n (d.stackId == 0 && bitOf d.rst.straps 0))
  wset w 16 16 d.stk.generation

/-- STK_PORTn as it reads. -/
def Dev.stkPortWord (d : Dev) (n : Nat) : Word :=
  let q := d.port n
  BitVec.ofNat 32 (q.st + q.partner * 4 + q.resends * 65536)

/-- STACK_CONFIG FORM. -/
def cmdStackForm (c : Cmd) (d : Dev) : Dev :=
  if d.notMaster || d.stk.formed then d.refuse c stBusy
  else
    let g := max 1 d.stk.generation
    let d := { d with stk := { d.stk with formed := true, generation := g, epoch := 0 } }
    d.reply c stOk (leBytes 1 d.reachMask ++ [0] ++ leBytes 2 g)

/-- What refuses a target (R573). -/
def Dev.targetRefusal (d : Dev) (t : Nat) : Option Byte :=
  firstFail [(t > 3, stBadParam), (d.notMaster, stBusy), (t = d.stackId, stBadParam), ((d.stkRoute t).isNone, stLinkDown)]

/-- STACK_CONFIG FORWARD (R406, R574). -/
def cmdStackForward (target : Byte) (packet : List Byte) (c : Cmd) (d : Dev) : Dev :=
  match d.targetRefusal target.toNat, parseCommand packet with
  | some st, _ => d.refuse c st
  | none, none => d.refuse c stBadParam
  | none, some p =>
    let d := { d with stk.forwards := d.stk.forwards ++ [({ cmd := c, target := target.toNat, tag := p.tag, op := p.op } : Forward)] }
    (d.stkSend target.toNat 4 0 packet).2

/-- STACK_CONFIG RESET (R406, R573). -/
def cmdStackReset (target level : Byte) (c : Cmd) (d : Dev) : Dev :=
  if level.toNat > 1 then d.refuse c stBadParam
  else
    match d.targetRefusal target.toNat with
    | some st => d.refuse c st
    | none =>
      let d := { d with stk.rstAwaits := d.stk.rstAwaits ++ [({ cmd := c, target := target.toNat } : RstAwait)] }
      (d.stkSend target.toNat 0xC 2 [level]).2

/-- STACK_CONFIG PORTS. -/
def cmdStackPorts (value : Byte) (c : Cmd) (d : Dev) : Dev :=
  if value.toNat > 15 then d.refuse c stBadParam
  else if !d.isOpen 5 then d.refuse c stPartnerGone
  else (d.setFld 0xB0004 0 4 value.toNat).trainPorts.ok c

/-- STACK_CONFIG STATUS. -/
def cmdStackStatus (c : Cmd) (d : Dev) : Dev :=
  d.reply c stOk (wordBytes d.stkStatus ++ leBytes 4 d.stk.epoch ++ ((List.range 3).map (fun n => wordBytes (d.stkPortWord n))).flatten)

/-! ### Meanings -/

/-- HEARTBEAT (R403, R411). -/
def execHeartbeat (f : StkHdr) (steps : List Word) (s : State) : Host.Outcome State Fault Refusal :=
  onDev s (fun d => d.stkRecv f 1 2 [] (fun d => d.heartbeat f.src steps))

/-- STACK_CREDIT (R403). -/
def execStackCredit (f : StkHdr) (req rsp ctl : Nat) (s : State) : Host.Outcome State Fault Refusal :=
  onDev s (fun d => d.stkRecv f 2 2 [] (fun d => d.stkCredit f.port req rsp ctl))

/-- STACK_DATA (R408). -/
def execStackData (f : StkHdr) (ticket : Nat) (notify : Bool) (payload : List Byte) (s : State) :
    Host.Outcome State Fault Refusal :=
  let m : Msg := { src := 37, dst := 37, typ := tyData, len := 0, tag := 0, ticket := ticket, status := 0, notify := notify, payload := [] }
  onDev s (fun d => d.stkRecv f 3 0 (sideband m ++ payload) (fun d => d.stackData f.port f.src (ticket % 128) notify payload))

/-- REPLY (R406, R574). -/
def execReply (f : StkHdr) (packet : List Byte) (s : State) : Host.Outcome State Fault Refusal :=
  onDev s (fun d => d.stkRecv f 5 1 packet (fun d => d.stackReply f.src packet))

/-- NOTE (R407, R534). -/
def execNote (f : StkHdr) (packet : List Byte) (s : State) : Host.Outcome State Fault Refusal :=
  onDev s (fun d => d.stkRecv f 6 1 packet (fun d => d.relayNote f.src packet))

/-- STACK_RECORD (R407). -/
def execStackRecord (f : StkHdr) (frame : RecordFrame) (s : State) : Host.Outcome State Fault Refusal :=
  onDev s (fun d => d.stkRecv f 7 1 frame.records (fun d => d.stackRecord f.src frame.toHost frame.records))

/-- STACK_RESOLVE (R247, R407, R430). -/
def execStackResolve (f : StkHdr) (records : List Byte) (s : State) : Host.Outcome State Fault Refusal :=
  onDev s (fun d => d.stkRecv f 8 1 records (fun d => d.stackResolve f.src records))

/-- EPOCH (R411). -/
def execEpoch (f : StkHdr) (data : List Byte) (s : State) : Host.Outcome State Fault Refusal :=
  onDev s (fun d => d.stkRecv f 9 2 data (fun d => d.epochIn f.src data))

/-- COMMIT (R411, R424). -/
def execCommit (f : StkHdr) (epoch count crc : Word) (s : State) : Host.Outcome State Fault Refusal :=
  onDev s (fun d => d.stkRecv f 0xA 2 (wordBytes epoch ++ wordBytes count ++ wordBytes crc)
    (fun d => d.commitIn f.src epoch.toNat count.toNat crc.toNat))

/-- SYNC (R421). -/
def execSync (f : SyncHdr) (t1 t2 t3 t4 : DWord) (s : State) : Host.Outcome State Fault Refusal :=
  onDev s (fun d => d.stkRecv f.frame 0xB 2 [] (fun d => d.syncIn f.frame.port f.request t1.toNat t2.toNat t3.toNat t4.toNat))

/-- TAKEOVER (R413, R414). -/
def execTakeover (f : StkHdr) (generation epoch : Word) (s : State) : Host.Outcome State Fault Refusal :=
  onDev s (fun d => d.stkRecv f 0xD 2 (wordBytes generation ++ wordBytes epoch) (fun d => d.takeoverIn f.src (generation.toNat % 65536)))

/-- TRAIN (R399, R426). -/
def execTrain (f : StkHdr) (id generation uid : Nat) (s : State) : Host.Outcome State Fault Refusal :=
  onDev s (fun d => if (d.port f.port).st = 2 then d
    else d.stkRecv f 0xE 2 [] (fun d => d.trainIn f.port id (generation % 65536) (uid % 2 ^ 96)))

/-- PORT_UP (R399). -/
def execPortUp (port : Nat) (s : State) : Host.Outcome State Fault Refusal := onDev s (fun d => d.portUp port)

/-- NO_TRAIN (R399). -/
def execNoTrain (port : Nat) (s : State) : Host.Outcome State Fault Refusal := onDev s (fun d => d.noTrain port)

/-- STACK_RESEND (R402). -/
def execStackResend (port : Nat) (s : State) : Host.Outcome State Fault Refusal := onDev s (fun d => d.stkResend port)

/-- STACK_GIVE_UP (R402). -/
def execStackGiveUp (port : Nat) (s : State) : Host.Outcome State Fault Refusal := onDev s (fun d => d.stkGiveUp port)

/-- PORT_DOWN (R404). -/
def execPortDown (port : Nat) (s : State) : Host.Outcome State Fault Refusal :=
  onDev s (fun d => if (d.port port).st = 2 then d.portDown port else d)

/-- HEARTBEAT_DUE (R403). -/
def execHeartbeatDue (port : Nat) (s : State) : Host.Outcome State Fault Refusal := onDev s (fun d => d.heartbeatDue port)

/-- EPOCH_CLOSE (R410). -/
def execEpochClose (s : State) : Host.Outcome State Fault Refusal := onRun s Dev.epochClose

/-- STK_ALIVE_TOGGLE (R412). -/
def execStkAliveToggle (s : State) : Host.Outcome State Fault Refusal := onDev s Dev.aliveToggle

/-- STANDBY_TAKEOVER (R412, R413). -/
def execStandbyTakeover (aliveStopped : Bool) (us : Nat) (s : State) : Host.Outcome State Fault Refusal :=
  onDev s (fun d => d.takeover aliveStopped us)

/-- STACK_CONFIG FORM (R573). -/
def execStackConfigForm (h : CmdHdr) (s : State) : Host.Outcome State Fault Refusal :=
  onDev s (Dev.hostCmd 0x60 [0] h cmdStackForm)

/-- STACK_CONFIG FORWARD (R406, R574). -/
def execStackConfigForward (h : CmdHdr) (target : Byte) (packet : List Byte) (s : State) : Host.Outcome State Fault Refusal :=
  onDev s (Dev.hostCmd 0x60 ([1, target] ++ packet) h (cmdStackForward target packet))

/-- STACK_CONFIG RESET (R406, R573). -/
def execStackConfigReset (h : CmdHdr) (target level : Byte) (s : State) : Host.Outcome State Fault Refusal :=
  onDev s (Dev.hostCmd 0x60 [2, target, level] h (cmdStackReset target level))

/-- STACK_CONFIG PORTS (R573). -/
def execStackConfigPorts (h : CmdHdr) (value : Byte) (s : State) : Host.Outcome State Fault Refusal :=
  onDev s (Dev.hostCmd 0x60 [3, value] h (cmdStackPorts value))

/-- STACK_CONFIG STATUS (R573). -/
def execStackConfigStatus (h : CmdHdr) (s : State) : Host.Outcome State Fault Refusal :=
  onDev s (Dev.hostCmd 0x60 [4] h cmdStackStatus)

end Sys2Proof.Machine
end

