-- ==== Sys2Proof/Machine/Fabric.lean ====
section
/-! DEFINITION. The site fabric (15_stacks_and_fabric.md R415 to R421, R427 to R430, R476, R575 to R577): site frames in,
neighbours, addresses, routes, offsets, and what a close of DOOR clears. -/
namespace Sys2Proof.Machine

/-! ### This node's record and address (R418, R419) -/

/-- A site port is enabled and DOOR is open (R415). -/
def Dev.siteEnabled (d : Dev) (p : Nat) : Bool := d.isOpen 5 && p < 2 && d.bitAt 0xB0100 p

/-- The node's neighbour on a port; 0 when none. -/
def Dev.nbrAddr (d : Dev) (p : Nat) : Nat := match (d.site p).nbr with | some n => n.addr | none => 0

/-- The bytes of an adjacency record (R418). -/
def adjBytes (r : Adj) : List Byte :=
  leBytes 12 r.uid ++ leBytes 2 r.addr ++ leBytes 2 r.nbrA ++ leBytes 2 r.nbrB ++ leBytes 4 r.seq ++ leBytes 1 r.flags ++ [0, 0, 0]

/-- The node's own record. -/
def Dev.ownAdj (d : Dev) : Adj :=
  { uid := Config.uid.toNat, addr := d.fab.addr, nbrA := d.nbrAddr 0, nbrB := d.nbrAddr 1, seq := d.fab.adjSeq,
    flags := b2n (d.fab.origin == 2) + 2 * b2n d.db.sealed + 4 * b2n (d.bitAt 0xB0100 5) }

/-- Send a broadcast frame out of the enabled ports of a list. -/
def Dev.siteFlood (d : Dev) (ports : List Nat) (typ : Nat) (payload : List Byte) : Dev :=
  ports.foldl (fun d p => if d.siteEnabled p then d.siteOut p (d.siteFrame typ 0xFFFF false payload) none else d) d

/-- The node floods its record under a new sequence (R418). -/
def Dev.floodOwn (d : Dev) : Dev :=
  let d := { d with fab.adjSeq := (d.fab.adjSeq + 1) % 2 ^ 32 }
  d.siteFlood [0, 1] 2 (adjBytes d.ownAdj)

/-- The address that R419 gives the node: the host's, or the hash of its unique ID. -/
def Dev.homeAddr (d : Dev) : Nat × Nat :=
  let h := d.fldAt 0xB0104 0 16
  if h != 0 then (h, 2)
  else
    let a := crc32 uidBytes % 65536
    (if a = 0 ∨ a = 0xFFFF then Nat.xor a 0x5A5A else a, 1)

/-- The node takes its address. -/
def Dev.takeAddr (d : Dev) : Dev :=
  let (a, o) := d.homeAddr
  { d with fab := { d.fab with addr := a, origin := o, conflicts := [] } }

/-- The lowest address above the node's own that its database does not hold, from 0xFFFE on to 0x0001 (R419). -/
def Dev.nextAddr (d : Dev) : Nat :=
  (((List.range 65534).map (fun k => (d.fab.addr + k) % 65534 + 1)).find? (fun a => !d.fab.db.any (fun r => r.addr == a))).getD d.fab.addr

/-- Sources of nodes that no route reaches are lost (R249, R420). -/
def Dev.siteLosses (d : Dev) : Dev := d.loseSourcesOf (fun e => e.node != 0 && (d.siteRoute e.node).isNone)

/-- A different unique ID holds the node's address (R419, R427). -/
def Dev.addrConflict (d : Dev) (uid : Nat) (hostSet : Bool) : Dev :=
  let own := d.fab.origin == 2
  if own && hostSet then
    if d.fab.conflicts.contains d.fab.addr then d
    else
      let d := { d.setFld 0xB0108 18 1 1 with fab.conflicts := d.fab.conflicts ++ [d.fab.addr] }
      d.notePartner 10 0 d.fab.addr uid
  else if hostSet || (!own && Config.uid.toNat > uid) then
    let d := { d with fab := { d.fab with addr := d.nextAddr, origin := 3 } }
    d.floodOwn.notePartner 9 0 d.fab.addr Config.uid.toNat
  else d

/-! ### A frame comes in (R416, R417, R420) -/

/-- A frame in transit takes one hop and waits for its outgoing port (R417, R420); without a route a frame with ACK_REQ is
answered FAIL. -/
def Dev.siteTransit (d : Dev) (f : SiteFrame) : Dev :=
  if f.hops ≤ 1 || d.inConflict f.dst then d
  else
    match d.siteRoute f.dst with
    | some p => d.updSite p (fun q => { q with queue := q.queue ++ [{ f with hops := f.hops - 1, inSeq := f.seq }] })
    | none =>
      if f.ackReq then (d.siteSend 0xB f.src true (leBytes 2 f.src ++ leBytes 2 f.seq ++ [stPartnerGone]) none).2 else d

/-- A broadcast frame goes out on the port other than the one it arrived on (R420). -/
def Dev.siteBroadcast (d : Dev) (p : Nat) (f : SiteFrame) : Dev :=
  if f.hops ≤ 1 || !d.siteEnabled (1 - p) then d
  else d.updSite (1 - p) (fun q => { q with queue := q.queue ++ [{ f with hops := f.hops - 1 }] })

/-- A received frame that R416 lets pass: whole, on a port in use, authenticated where that is required, its COUNTER fresh. -/
def Dev.siteAccepts (d : Dev) (f : SiteHdr) (typ : Nat) : Bool :=
  d.siteEnabled f.port && (d.site f.port).phyUp && f.good
    && (f.auth || typ == 1 || !d.bitAt 0xB0100 3)
    && (!f.auth || (d.hasFabricKey && counterFresh d.fab.seen f.src f.counter))

/-- The COUNTER of an authenticated frame is remembered. -/
def Dev.siteSeen (d : Dev) (f : SiteHdr) : Dev :=
  if f.auth then { d with fab.seen := counterSeen d.fab.seen f.src f.counter } else d

/-- A frame between neighbours: HELLO, ADJ, ACK, OFFSET_REQ, OFFSET_RSP. -/
def Dev.linkRecv (d : Dev) (f : SiteHdr) (typ : Nat) (h : Dev → Dev) : Dev :=
  if d.siteAccepts f typ then h (d.siteSeen f) else d

/-- A routed frame: it is acknowledged hop by hop, goes on when it is for another node or broadcast, and `h` takes it when it
is for this node or broadcast. A node's own frame that returns to it ends there, and so does one for an address that two hosts
have set (R419). -/
def Dev.siteRecv (d : Dev) (f : SiteHdr) (typ : Nat) (payload : List Byte) (h : Dev → Dev) : Dev :=
  if !d.siteAccepts f typ || f.src = d.fab.addr || (f.dst = d.fab.addr && d.inConflict f.dst) then d
  else
    let d := d.siteSeen f
    let g : SiteFrame := { typ := typ, auth := f.auth, ackReq := f.ackReq, alarm := f.alarm, dst := f.dst, src := f.src,
                           hops := f.hops, seq := f.seq, counter := f.counter, payload := payload }
    let d := if f.ackReq then d.siteOut f.port (d.siteFrame 3 (d.nbrAddr f.port) false (leBytes 2 f.seq)) none else d
    if f.dst = 0xFFFF then h (d.siteBroadcast f.port g)
    else if f.dst = d.fab.addr then h d
    else d.siteTransit g

/-! ### Neighbours and the database -/

/-- A round of the offset exchange with a port's neighbour starts (R421). -/
def Dev.offsetAsk (d : Dev) (p : Nat) : Dev :=
  let d := d.updSite p (fun q => { q with off := { q.off with t1 := d.now } })
  d.siteOut p (d.siteFrame 4 (d.nbrAddr p) false (leBytes 8 d.now)) none

/-- The eight rounds of a measurement start (R421). -/
def Dev.offsetStart (d : Dev) (p : Nat) : Dev :=
  if (d.site p).nbr.isSome && d.siteEnabled p then
    (d.updSite p (fun q => { q with off := { q.off with best := none, rounds := 0 } })).offsetAsk p
  else d

/-- HELLO (R418, R419): it finds or refreshes the port's neighbour and may show a conflict. -/
def Dev.helloIn (d : Dev) (p uid addr origin : Nat) : Dev :=
  let old := (d.site p).nbr
  let n : Nbr := { uid := uid, addr := addr }
  let d := d.updSite p (fun q => { q with nbr := some n })
  let found := match old with | some o => o.uid != uid | none => true
  let d := if found then ((d.updSite p (fun q => { q with off := { q.off with done := none, rate := 0 } })).notePartner 5 0 addr uid).offsetStart p else d
  let d := if old = some n then d else d.floodOwn.siteLosses
  if addr = d.fab.addr ∧ uid ≠ Config.uid.toNat then d.addrConflict uid (origin == 2) else d

/-- The record is newer than the one held of its node. -/
def Dev.adjNewer (d : Dev) (r : Adj) : Bool :=
  match d.fab.db.find? (fun x => x.uid == r.uid) with
  | some x => r.seq > x.seq
  | none => true

/-- ADJ (R418, R419): a newer record enters the database and is forwarded once, on the other port. -/
def Dev.adjIn (d : Dev) (p : Nat) (r : Adj) : Dev :=
  if r.uid = Config.uid.toNat || !d.adjNewer r then d
  else
    let known := d.fab.db.any (fun x => x.uid == r.uid)
    let put := fun (l : List Adj) => l.filter (fun (x : Adj) => x.uid != r.uid) ++ [r]
    let d := { d with fab := { d.fab with db := put d.fab.db, routes := put d.fab.routes } }
    let d := if !known && d.bitAt 0xB0100 4 then d.notePartner 7 0 r.addr r.uid else d
    let d := (d.siteFlood [1 - p] 2 (adjBytes r)).siteLosses
    if r.addr = d.fab.addr then d.addrConflict r.uid (bitOf r.flags 0) else d

/-- NEIGHBOUR_LOST (R418, R422). -/
def Dev.neighbourLost (d : Dev) (p : Nat) (helloThisTick : Bool) : Dev :=
  match (d.site p).nbr with
  | none => d
  | some n =>
    if helloThisTick then d.satFld 0xB0110 16 16
    else
      let d := d.updSite p (fun q => { q with nbr := none, off := { q.off with best := none, rounds := 0, done := none, rate := 0 } })
      (d.notePartner 6 0 n.addr n.uid).floodOwn.siteLosses

/-- ADJACENCY_EXPIRY (R418). -/
def Dev.adjExpiry (d : Dev) (addr : Nat) : Dev :=
  match d.fab.routes.find? (fun r => r.addr == addr) with
  | none => d
  | some r =>
    let d := { d with fab := { d.fab with db := d.fab.db.filter (fun (x : Adj) => x.uid != r.uid), routes := d.fab.routes.filter (fun (x : Adj) => x.uid != r.uid) } }
    (if d.bitAt 0xB0100 4 then d.notePartner 8 0 r.addr r.uid else d).siteLosses

/-- HELLO_DUE (R418). -/
def Dev.helloDue (d : Dev) (p : Nat) : Dev :=
  if d.siteEnabled p && (d.site p).hello then
    d.siteFlood [p] 1 (uidBytes ++ leBytes 2 d.fab.addr ++ leBytes 1 d.fab.origin ++ leBytes 1 (b2n d.db.sealed) ++ leBytes 4 d.fab.adjSeq)
  else d

/-! ### Acknowledgements (R417) -/

/-- One unicast frame of a FABRIC_TABLE is acknowledged: the last one answers the command (R575). -/
def Dev.tableAcked (d : Dev) (c : Cmd) (n : Nat) : Dev :=
  if n ≤ 1 then { d with fab := { d.fab with tableCmds := d.fab.tableCmds.erase (c, n), acked := d.fab.acked.filter (fun e => e.1 != c) } }.ok c
  else { d with fab.tableCmds := d.fab.tableCmds.map (fun e => if e = (c, n) then (c, n - 1) else e) }

/-- A frame of a command, with its SEQ, is acknowledged; a FAIL may still name it while the command waits for others. -/
def Dev.cmdAcked (d : Dev) (c : Cmd) (seq : Nat) : Dev :=
  match d.fab.tableCmds.find? (fun e => e.1 == c) with
  | some e => Dev.tableAcked { d with fab.acked := d.fab.acked ++ [(c, seq)] } e.1 e.2
  | none => d.ok c

/-- A frame of a command has failed: the command is answered PARTNER_GONE and its other frames no longer answer it. -/
def Dev.cmdFailed (d : Dev) (c : Cmd) : Dev :=
  let free := fun (q : SitePort) => { q with
    awaits := q.awaits.map (fun (w : SiteAwait) => if w.cmd = some c then { w with cmd := none } else w) }
  let d := [0, 1].foldl (fun d p => d.updSite p free) { d with fab := { d.fab with
    tableCmds := d.fab.tableCmds.filter (fun e => e.1 != c), acked := d.fab.acked.filter (fun e => e.1 != c) } }
  d.refuse c stPartnerGone

/-- The frame of a port that waits for the ACK of a SEQ. -/
def Dev.awaitOf (d : Dev) (p seq : Nat) : Option SiteAwait := (d.site p).awaits.find? (fun w => w.frame.seq == seq)

/-- ACK (R417); on the tick of the give-up it counts as arrived. -/
def Dev.ackIn (d : Dev) (p seq : Nat) (onGiveUpTick : Bool) : Dev :=
  match d.awaitOf p seq with
  | none => d
  | some w =>
    let d := d.updSite p (fun q => { q with awaits := q.awaits.erase w })
    let d := if onGiveUpTick then d.satFld 0xB0110 16 16 else d
    match w.cmd with
    | some c => d.cmdAcked c seq
    | none => d

/-- FABRIC_RESEND (R417). -/
def Dev.siteResend (d : Dev) (p seq : Nat) : Dev :=
  match d.awaitOf p seq with
  | none => d
  | some w => (d.updSite p (fun q => { q with lastTx := some w.frame, wire := d.siteWire p w.frame })).incCounter (0x66 + p)

/-- FABRIC_GIVE_UP (R417). -/
def Dev.siteGiveUp (d : Dev) (p seq : Nat) : Dev :=
  match d.awaitOf p seq with
  | none => d
  | some w =>
    let d := d.updSite p (fun q => { q with awaits := q.awaits.erase w })
    match w.cmd with
    | some c => d.cmdFailed c
    | none =>
      if w.frame.src = d.fab.addr then d
      else (d.siteSend 0xB w.frame.src true (leBytes 2 w.frame.src ++ leBytes 2 w.frame.inSeq ++ [stPartnerGone]) none).2

/-- FAIL (R417): the source's command that still waits is answered PARTNER_GONE, be the frame acknowledged by its first hop or
not. -/
def Dev.failIn (d : Dev) (src seq : Nat) : Dev :=
  if src != d.fab.addr then d
  else
    match (d.fab.acked.filter (fun e => e.2 == seq)).map (·.1) ++ (List.range 2).filterMap (fun p => (d.awaitOf p seq).bind (·.cmd)) with
    | c :: _ => d.cmdFailed c
    | [] => d

/-- FRAME_FORWARD (R420). -/
def Dev.frameForward (d : Dev) (p : Nat) : Dev :=
  let q := d.site p
  match q.queue with
  | [] => d
  | f :: rest => if d.siteEnabled p then (d.setSite p { q with queue := rest }).siteTransmit p f none else d

/-! ### Offsets (R421) -/

/-- OFFSET_REQ: timestamped and answered. -/
def Dev.offsetReq (d : Dev) (p t1 : Nat) : Dev :=
  d.siteOut p (d.siteFrame 5 (d.nbrAddr p) false (leBytes 8 t1 ++ leBytes 8 d.now ++ leBytes 8 d.now)) none

/-- The relative rate in parts per billion between two measurements. -/
def offsetRate (old : Option (Int × Nat)) (off : Int) (now : Nat) : Int :=
  match old with
  | some (o, t) => if now ≤ t then 0 else roundR (((off - o) * 1000000000 : Int) / ((now - t : Nat) : Rat))
  | none => 0

/-- OFFSET_RSP: a round ends; the eighth ends the measurement. -/
def Dev.offsetRsp (d : Dev) (p t1 t2 t3 : Nat) : Dev :=
  let o := (d.site p).off
  if o.t1 ≠ t1 ∨ (d.site p).nbr = none ∨ o.rounds ≥ 8 then d
  else
    let r := betterRound o.best (offsetRound t1 t2 t3 d.now)
    if o.rounds < 7 then
      (d.updSite p (fun q => { q with off := { o with best := some r, rounds := o.rounds + 1 } })).offsetAsk p
    else
      d.updSite p (fun q => { q with off := { o with best := none, rounds := 8, done := some (r.2, d.now), rate := offsetRate o.done r.2 d.now } })

/-! ### Payloads -/

/-- RECORD (R246, R420): a node's records enter the source table under every STACK_ID that a source table names for it. -/
def Dev.siteRecord (d : Dev) (src : Nat) (b : List Byte) : Dev :=
  (chunks 32 32 b).foldl (fun d r => (List.range 4).foldl (fun d k => d.sourceRecord src k r) d) d

/-- RESOLVE (R247, R430): a record that was never received has no entry, and nothing follows. -/
def Dev.siteResolve (d : Dev) (src : Nat) (b : List Byte) : Dev :=
  (chunks 64 16 b).foldl (fun d r =>
    d.sourceResolved src (uAt r 10 1 % 4) (uAt r 0 1 % 16) (uAt r 2 2) (bitOf (uAt r 1 1) 0) (uAt r 8 2)) d

/-- TABLE (R192, R193, R420): written as the door when its table is accepted, lies in sill and its lease is free. -/
def Dev.tableIn (d : Dev) (b : List Byte) : Dev :=
  let t := uAt b 0 1
  let off := uAt b 4 4
  let bs := b.drop 8
  match d.desc t with
  | none => d
  | some e =>
    let a := e.base + off
    if t > 31 || !d.bitAt 0xB010C t || !d.isOpen 4 || off + bs.length > e.entries * e.entrySize then d
    else
      match d.writeGate 37 a bs.length with
      | some _ => d
      | none =>
        if d.writeHeld a bs.length then d.holdWrite (.door a bs)
        else (d.sillWrite a bs).2

/-- USER (R576): queued for FETCH, or lost to a full queue. -/
def Dev.userIn (d : Dev) (src : Nat) (b : List Byte) : Dev :=
  if d.fab.users.length < 16 then { d with fab.users := d.fab.users ++ [(src, b)] }
  else { d with fab.userDropped := satInc 16 d.fab.userDropped }

/-- The ALARM frame of R476. -/
def Dev.sendAlarm (d : Dev) (policy : Nat) : Dev :=
  if d.fab.addr = 0 then d
  else (d.siteSend 8 d.gateway true (uidBytes ++ leBytes 6 d.lin.rtc ++ leBytes 1 d.lin.latched ++ leBytes 1 policy
    ++ leBytes 1 (b2n d.lin.erased) ++ [0, 0, 0]) none).2

/-! ### Commands (R575 to R577) -/

/-- FABRIC_JOIN (R418, R575). -/
def cmdFabricJoin (ports : Byte) (c : Cmd) (d : Dev) : Dev :=
  if ports.toNat > 3 then d.refuse c stBadParam
  else if !d.isOpen 5 then d.refuse c stPartnerGone
  else
    let d := (onesOf 2 ports.toNat).foldl (fun d p =>
      (d.setFld 0xB0100 p 1 1).updSite p (fun q => { q with hello := true })) d
    (if d.fab.addr = 0 then d.takeAddr else d).ok c

/-- FABRIC_LEAVE (R418, R575): the record that it floods has no neighbours on the ports that leave. -/
def cmdFabricLeave (ports : Byte) (c : Cmd) (d : Dev) : Dev :=
  if ports.toNat > 3 then d.refuse c stBadParam
  else if !d.isOpen 5 then d.refuse c stPartnerGone
  else
    let d := (onesOf 2 ports.toNat).foldl (fun d p => d.updSite p (fun q => { q with hello := false, nbr := none })) d
    d.floodOwn.siteLosses.ok c

/-- What refuses a frame of a command to a node (R419, R458, R575). -/
def Dev.destRefusal (d : Dev) (typ dst : Nat) : Option Byte :=
  firstFail [
    (!d.isOpen 5, stPartnerGone), (d.siteUnsealable (d.siteFrame typ dst false []), stKeysAbsent),
    (dst != 0xFFFF && d.inConflict dst, stAddressConflict),
    (dst != 0xFFFF && (d.siteRoute dst).isNone, stPartnerGone)]

/-- FABRIC_TABLE (R420, R575). -/
def cmdFabricTable (table : Byte) (dest : Half) (offset : Word) (data : List Byte) (c : Cmd) (d : Dev) : Dev :=
  if data.isEmpty ∨ data.length > 4088 then d.refuse c stBadLength
  else if table.toNat > 63 then d.refuse c stBadParam
  else
    match d.destRefusal 9 dest.toNat with
    | some st => d.refuse c st
    | none =>
      let parts := chunks 5 1016 data
      let uni := dest.toNat != 0xFFFF
      let d := if uni then { d with fab.tableCmds := d.fab.tableCmds ++ [(c, parts.length)] } else d
      let d := ((List.range parts.length).zip parts).foldl (fun d e =>
        (d.siteSend 9 dest.toNat uni (leBytes 1 table.toNat ++ [0, 0, 0] ++ leBytes 4 (offset.toNat + 1016 * e.1) ++ e.2)
          (if uni then some c else none)).2) d
      if uni then d else d.ok c

/-- The references of a USER payload are within it (R576). -/
def refsOk (b : List Byte) : Bool :=
  let n := uAt b 0 1
  n ≤ 4 && (n == 0 || 4 + 8 * n ≤ b.length) && allZero (bytesAt b 1 3)
    && (List.range n).all (fun k => uAt b (4 + 8 * k + 6) 2 == 0)

/-- FABRIC_SEND SEND (R576). -/
def cmdFabricSend (flags : Byte) (dest : Half) (payload : List Byte) (c : Cmd) (d : Dev) : Dev :=
  if payload.isEmpty ∨ payload.length > 1024 then d.refuse c stBadLength
  else if flags.toNat > 1 || !refsOk payload then d.refuse c stBadParam
  else
    match d.destRefusal 0xA dest.toNat with
    | some st => d.refuse c st
    | none =>
      let ack := flags == 1 && dest.toNat != 0xFFFF
      let d := (d.siteSend 0xA dest.toNat ack payload (if ack then some c else none)).2
      if ack then d else d.ok c

/-- FABRIC_SEND FETCH (R576). -/
def cmdFabricFetch (c : Cmd) (d : Dev) : Dev :=
  match d.fab.users with
  | [] => d.ok c
  | (src, b) :: rest =>
    let n := d.fab.userDropped
    { d with fab := { d.fab with users := rest, userDropped := 0 } }.reply c stOk
      (leBytes 2 src ++ leBytes 2 b.length ++ leBytes 2 n ++ [0, 0] ++ b)

/-- The reply of TIME_ALIGN. -/
def alignReply (loc : Int) (error : Nat) (rate : Int) : List Byte := leBytes 8 (tc 64 loc) ++ leBytes 4 error ++ leBytes 4 (tc 32 rate)

/-- A partner's frame time in the device's own by one measurement: offset, its frame time and rate (R421). -/
def alignLocal (time : Nat) (off : Int) (start : Nat) (rate : Int) : Int :=
  let loc : Int := time - off
  loc - roundR (((rate * (loc - start)) : Int) / (1000000000 : Rat))

/-- TIME_ALIGN (R421, R577): to a non-neighbour the offsets along the route add up, the first hop's being the device's own and
the rest other nodes' measurements, which no frame brings: their sum and the rate are free (log entry 101). -/
def cmdTimeAlign (kind : Byte) (partner : Half) (time : DWord) (c : Cmd) (d : Dev) : Dev :=
  let p := partner.toNat
  if kind.toNat > 1 then d.refuse c stBadParam
  else if kind = 0 then
    if p > 3 ∨ p = d.stackId then d.refuse c stBadParam
    else
      match d.stk.offs.find? (fun e => e.1 == p) with
      | some (_, o) => d.reply c stOk (alignReply (time.toNat - o) 4 0)
      | none => d.refuse c stPartnerGone
  else if p = d.fab.addr then d.refuse c stBadParam
  else
    match d.sitePath p with
    | none => d.refuse c stPartnerGone
    | some (hops, port) =>
      match (d.site port).off.done with
      | none => d.refuse c stPartnerGone
      | some (o, t) =>
        let rate := (d.site port).off.rate
        if hops ≤ 1 then d.reply c stOk (alignReply (alignLocal time.toNat o t rate) 1000 rate)
        else
          let (n, d) := d.draw
          let rest := sxt 64 (Config.freeNat n)
          d.reply c stOk (alignReply (alignLocal time.toNat (o + rest) t rate) (1000 * hops) (sxt 32 (Config.freeWord n).toNat))

/-! ### Register writes and a close of DOOR -/

/-- A write of FAB_CFG: a port that is no longer enabled holds its PHY in reset (R415); its neighbour, of which no HELLO comes
any more, is lost when its HELLO intervals have passed (R418). -/
def Dev.writeFabCfg (d : Dev) (v : Word) : Dev :=
  let d := d.regWritePlain 0xB0100 v
  [0, 1].foldl (fun d p => if d.siteEnabled p then d else d.updSite p (fun q => { q with phyUp := false })) d

/-- A write of FAB_ADDR: a node on the fabric takes the new address and floods its record (R419). -/
def Dev.writeFabAddr (d : Dev) (v : Word) : Dev :=
  let old := d.fldAt 0xB0104 0 16
  let d := d.regWritePlain 0xB0104 v
  if d.fab.addr = 0 ∨ d.fldAt 0xB0104 0 16 = old then d else d.takeAddr.floodOwn

/-- A close of DOOR clears everything in it (R330, R429): registers, ports, offsets, and the forwarding tables, which the hinge
loads again from its database (R420); what waits for a partner ends PARTNER_GONE. -/
def Dev.doorClose (d : Dev) : Dev :=
  let d := d.portChange (fun d => { d with stk := { d.stk with ports := [], offs := [], offLatch := [] } })
  let d := d.forwardsGone (fun _ => true)
  let d := d.stk.rstAwaits.foldl (fun d w => d.endRstAwait w stPartnerGone) d
  let cmds := nodupL (((List.range 2).map (fun p => (d.site p).awaits.filterMap (·.cmd))).flatten ++ d.fab.tableCmds.map (·.1))
  let d := cmds.foldl (fun d c => d.cmdFailed c) d
  { d.clearRegs 0xB0000 0x10000 with fab := { d.fab with ports := [], addr := 0, origin := 0, conflicts := [], routes := d.fab.db } }.siteLosses

/-! ### Meanings -/

/-- HELLO (R418). -/
def execHello (f : SiteHdr) (uid addr origin : Nat) (_isSealed : Bool) (_adjSeq : Nat) (s : State) : Host.Outcome State Fault Refusal :=
  onDev s (fun d => d.linkRecv f 1 (fun d => d.helloIn f.port (uid % 2 ^ 96) (addr % 65536) origin))

/-- ADJ (R418). -/
def execAdj (f : SiteHdr) (uid addr nbrA nbrB seq flags : Nat) (s : State) : Host.Outcome State Fault Refusal :=
  onDev s (fun d => d.linkRecv f 2 (fun d => d.adjIn f.port
    { uid := uid % 2 ^ 96, addr := addr % 65536, nbrA := nbrA % 65536, nbrB := nbrB % 65536, seq := seq % 2 ^ 32, flags := flags % 8 }))

/-- ACK (R417). -/
def execAck (f : SiteHdr) (seq : Nat) (onGiveUpTick : Bool) (s : State) : Host.Outcome State Fault Refusal :=
  onDev s (fun d => d.linkRecv f 3 (fun d => d.ackIn f.port seq onGiveUpTick))

/-- OFFSET_REQ (R421). -/
def execOffsetReq (f : SiteHdr) (t1 : DWord) (s : State) : Host.Outcome State Fault Refusal :=
  onDev s (fun d => d.linkRecv f 4 (fun d => d.offsetReq f.port t1.toNat))

/-- OFFSET_RSP (R421). -/
def execOffsetRsp (f : SiteHdr) (t1 t2 t3 : DWord) (s : State) : Host.Outcome State Fault Refusal :=
  onDev s (fun d => d.linkRecv f 5 (fun d => d.offsetRsp f.port t1.toNat t2.toNat t3.toNat))

/-- SITE_RECORD (R420). -/
def execSiteRecord (f : SiteHdr) (records : List Byte) (s : State) : Host.Outcome State Fault Refusal :=
  onDev s (fun d => d.siteRecv f 6 records (fun d => d.siteRecord f.src records))

/-- SITE_RESOLVE (R430). -/
def execSiteResolve (f : SiteHdr) (records : List Byte) (s : State) : Host.Outcome State Fault Refusal :=
  onDev s (fun d => d.siteRecv f 7 records (fun d => d.siteResolve f.src records))

/-- SITE_ALARM (R476). -/
def execSiteAlarm (f : SiteHdr) (payload : List Byte) (s : State) : Host.Outcome State Fault Refusal :=
  onDev s (fun d => d.siteRecv f 8 payload (fun d => { d with fab.lastAlarm := some (f.src, payload) }))

/-- TABLE (R420). -/
def execTable (f : SiteHdr) (payload : List Byte) (s : State) : Host.Outcome State Fault Refusal :=
  onDev s (fun d => d.siteRecv f 9 payload (fun d => d.tableIn payload))

/-- USER (R576). -/
def execUser (f : SiteHdr) (payload : List Byte) (s : State) : Host.Outcome State Fault Refusal :=
  onDev s (fun d => d.siteRecv f 0xA payload (fun d => d.userIn f.src payload))

/-- FAIL (R417). -/
def execFail (f : SiteHdr) (src seq : Nat) (s : State) : Host.Outcome State Fault Refusal :=
  onDev s (fun d => d.siteRecv f 0xB (leBytes 2 src ++ leBytes 2 seq ++ [stPartnerGone]) (fun d => d.failIn src seq))

/-- FRAME_FORWARD (R420). -/
def execFrameForward (port : Nat) (s : State) : Host.Outcome State Fault Refusal := onDev s (fun d => d.frameForward port)

/-- HELLO_DUE (R418). -/
def execHelloDue (port : Nat) (s : State) : Host.Outcome State Fault Refusal := onDev s (fun d => d.helloDue port)

/-- NEIGHBOUR_LOST (R418, R422). -/
def execNeighbourLost (port : Nat) (helloThisTick : Bool) (s : State) : Host.Outcome State Fault Refusal :=
  onDev s (fun d => d.neighbourLost port helloThisTick)

/-- ADJACENCY_REFRESH (R418). -/
def execAdjacencyRefresh (s : State) : Host.Outcome State Fault Refusal :=
  onDev s (fun d => if (d.site 0).hello || (d.site 1).hello then d.floodOwn else d)

/-- ADJACENCY_EXPIRY (R418). -/
def execAdjacencyExpiry (addr : Nat) (s : State) : Host.Outcome State Fault Refusal := onDev s (fun d => d.adjExpiry addr)

/-- FABRIC_RESEND (R417). -/
def execFabricResend (port seq : Nat) (s : State) : Host.Outcome State Fault Refusal := onDev s (fun d => d.siteResend port seq)

/-- FABRIC_GIVE_UP (R417). -/
def execFabricGiveUp (port seq : Nat) (s : State) : Host.Outcome State Fault Refusal := onDev s (fun d => d.siteGiveUp port seq)

/-- OFFSET_REMEASURE (R421). -/
def execOffsetRemeasure (port : Nat) (s : State) : Host.Outcome State Fault Refusal := onDev s (fun d => d.offsetStart port)

/-- PHY_INTERRUPT (R415). -/
def execPhyInterrupt (port : Nat) (link : Bool) (s : State) : Host.Outcome State Fault Refusal :=
  onDev s (fun d => if d.siteEnabled port && (d.site port).phyUp then d.updSite port (fun q => { q with link := link }) else d)

/-- PHY_RESET_RELEASE (R415): the PHY's link status is read once after it (R612). -/
def execPhyResetRelease (phy : PhyUp) (s : State) : Host.Outcome State Fault Refusal :=
  onDev s (fun d => if d.siteEnabled phy.port then d.updSite phy.port (fun q => { q with phyUp := true, link := phy.link }) else d)

/-- FABRIC_JOIN (R418, R575). -/
def execFabricJoin (h : CmdHdr) (ports : Byte) (s : State) : Host.Outcome State Fault Refusal :=
  onDev s (Dev.hostCmd 0x61 [ports] h (cmdFabricJoin ports))

/-- FABRIC_LEAVE (R418, R575). -/
def execFabricLeave (h : CmdHdr) (ports : Byte) (s : State) : Host.Outcome State Fault Refusal :=
  onDev s (Dev.hostCmd 0x62 [ports] h (cmdFabricLeave ports))

/-- FABRIC_TABLE (R420, R575). -/
def execFabricTable (h : CmdHdr) (table : Byte) (dest : Half) (offset : Word) (data : List Byte) (s : State) :
    Host.Outcome State Fault Refusal :=
  onDev s (Dev.hostCmd 0x63 ([table, 0] ++ leBytes 2 dest.toNat ++ leBytes 4 offset.toNat ++ data) h
    (cmdFabricTable table dest offset data))

/-- FABRIC_SEND SEND (R576). -/
def execFabricSend (h : CmdHdr) (flags : Byte) (dest : Half) (payload : List Byte) (s : State) : Host.Outcome State Fault Refusal :=
  onDev s (Dev.hostCmd 0x64 ([0, flags] ++ leBytes 2 dest.toNat ++ payload) h (cmdFabricSend flags dest payload))

/-- FABRIC_SEND FETCH (R576). -/
def execFabricFetch (h : CmdHdr) (s : State) : Host.Outcome State Fault Refusal :=
  onDev s (Dev.hostCmd 0x64 [1] h cmdFabricFetch)

/-- TIME_ALIGN (R421, R577). -/
def execTimeAlign (h : CmdHdr) (kind : Byte) (partner : Half) (time : DWord) (s : State) : Host.Outcome State Fault Refusal :=
  onDev s (Dev.hostCmd 0x65 ([kind, 0] ++ leBytes 2 partner.toNat ++ leBytes 8 time.toNat) h (cmdTimeAlign kind partner time))

end Sys2Proof.Machine
end

