-- ==== Sys2Proof/Machine/Front.lean ====
section
/-! DEFINITION. Probes, excitation and acquisition (10_probes_and_acquisition.md). -/
namespace Sys2Proof.Machine

/-! ### Registers and reports -/

/-- SUP_CFG. -/
def aSup : Nat := 0x500C0

/-- SUP_CFG bit. -/
def Dev.sup (d : Dev) (i : Nat) : Bool := d.bitAt aSup i

/-- STATE of PROBE_STATn (R265). -/
def ProbeSt.code : ProbeSt → Nat
  | .disabled => 0 | .debounce => 1 | .teds => 2 | .settling => 3 | .active => 4 | .opened => 5 | .shorted => 6

/-- A channel is EXPIRED (R278). -/
def Chan.expired (k : Chan) : Bool := k.rated != 0 && k.consumed ≥ k.rated

/-- PROBE_STATn. -/
def Chan.stat (k : Chan) : Nat :=
  k.st.code + b2n k.confirmed * 8 + b2n k.tedsPresent * 16 + b2n k.tedsExcl * 32 + b2n k.lifeValid * 64 + b2n k.expired * 128
    + b2n k.excFault * 256

/-- NOTE_PROBE for a channel as it now stands (R530). -/
def Dev.probeNote (d : Dev) (ch cause : Nat) (extra : List Byte) : Dev := d.noteProbe ch cause (d.chan ch).stat extra

/-- WIN_LEN of a channel. -/
def Dev.winLen (d : Dev) (ch : Nat) : Nat := 64 * d.fldAt (aAcq ch 0) 16 7

/-- The channel is in the mask of a STARTED or STOPPING instance (R284). -/
def Dev.listened (d : Dev) (ch : Nat) : Bool := d.busySlots.any (fun i => bitOf (d.slot i).mask ch)

/-- Send NOTE_PROBE EXPIRED once an arrival (R278). -/
def Dev.checkExpired (d : Dev) (ch : Nat) : Dev :=
  let k := d.chan ch
  if k.expired && !k.expiredSent then (d.updChan ch (fun k => { k with expiredSent := true })).probeNote ch 7 [] else d

/-! ### Windows (R282 to R285) -/

/-- A sample as it goes to the casements, and whether the conversion clamped it (R283). -/
def sampleOut (wshift : Nat) (x : Int) : Int × Bool :=
  if x = -8388608 then (-32768, false)
  else
    let y := roundAway ((x : Rat) / ((2 ^ wshift : Nat) : Rat))
    (clampI (-32767) 32767 y, y > 32767 || y < -32767)

/-- A completed window as it is offered (R283, R285). -/
def Dev.windowOut (d : Dev) (ch : Nat) (w : Window) : WinIn :=
  let k := d.chan ch
  let ys := w.xs.reverse.map (sampleOut (d.fldAt (aAcq ch 0) 6 4))
  let gap := w.xs.contains (-8388608)
  { ch := ch, xs := ys.map (·.1), host := false, wend := d.now / 256 % 2 ^ 40
    wflags := maskOfList ((if w.ovr || ys.any (·.2) then [6] else []) ++ (if gap then [7] else [])
      ++ (if w.uncal then [9] else []) ++ (if k.expired then [10] else []))
    gap := if gap then some (w.gap.getD stProbeOpen) else if k.excFault then some stExcFault else none }

/-- A completed window is offered to every STARTED instance that listens to the channel (R282); while BOLTED it is
discarded and counted (R490). -/
def Dev.offerWindow (d : Dev) (ch : Nat) (w : Window) : Dev :=
  if d.dbg.bolted then { d with dbg.skipped := satInc 16 d.dbg.skipped }
  else
    let x := d.windowOut ch w
    (d.startedSlots.filter (fun i => bitOf (d.slot i).mask ch)).foldl (fun d i => (d.acceptWindow i x).2) d

/-- Windows that hold WIN_LEN samples complete, oldest first (R282). -/
def Dev.offerFull (d : Dev) (ch : Nat) : Dev :=
  let n := d.winLen ch
  let full := (d.chan ch).wins.filter (fun w => w.xs.length ≥ n)
  let d := d.updChan ch (fun k => { k with wins := k.wins.filter (fun w => w.xs.length < n) })
  full.foldl (fun d w => d.offerWindow ch w) d

/-- A window of the channel is complete. -/
def Dev.hasFull (d : Dev) (ch : Nat) : Bool := (d.chan ch).wins.any (fun w => w.xs.length ≥ d.winLen ch)

/-- Windows in progress are discarded without a step or a record (R284); one that is complete is offered first (R288). -/
def Dev.discardWins (d : Dev) (ch : Nat) : Dev := (d.offerFull ch).updChan ch (fun k => { k with wins := [] })

/-- The channel's status as a gap in a window (R285). -/
def gapStatus (st : ProbeSt) : Byte := if st == .shorted then stProbeShort else stProbeOpen

/-! ### TEDS queue (R273) -/

/-- A request with nothing in it. -/
def tedsNone (ch : Nat) : TedsReq := { ch := ch, reads := [], writes := [], life := false, lifeCmds := [], arrival := false }

/-- A request joins the queue, or merges into the one its channel has there (R273). -/
def Dev.queueTeds (d : Dev) (ch : Nat) (f : TedsReq → TedsReq) : Dev :=
  if d.front.tedsQueue.any (fun r => r.ch == ch) then
    { d with front.tedsQueue := d.front.tedsQueue.map (fun r => if r.ch = ch then f r else r) }
  else { d with front.tedsQueue := d.front.tedsQueue ++ [f (tedsNone ch)] }

/-- A life write that is due is queued as an access (R277). -/
def Dev.lifeQueue (d : Dev) (ch : Nat) : Dev :=
  if !(d.chan ch).writeDue || (d.chan ch).tedsExcl then d
  else (d.queueTeds ch (fun r => { r with life := true })).updChan ch (fun k => { k with writeDue := false })

/-- WINDOW_COMPLETE: complete windows are offered, and with the completion of one a life write that is due is made (R277,
R282). -/
def Dev.completeFull (d : Dev) (ch : Nat) : Dev :=
  if d.hasFull ch then (d.offerFull ch).lifeQueue ch else d

/-- LIFE_AUTO_WRITE: a due write is made at once when no window is in progress, else with the next completion (R277). -/
def Dev.lifeAuto (d : Dev) (ch : Nat) : Dev := if (d.chan ch).wins.isEmpty then d.lifeQueue ch else d.completeFull ch

/-- An arrival that has not come to its access is over: its request goes, unless commands wait on it. -/
def Dev.dropArrival (d : Dev) (ch : Nat) : Dev :=
  let q := d.front.tedsQueue.map (fun r => if r.ch = ch then { r with arrival := false } else r)
  { d with front.tedsQueue := q.filter (fun r => !(r == tedsNone r.ch)) }

/-! ### Excitation and supervision (R263 to R269) -/

/-- Detection of a departure (R267, R268): the state, the gap in windows in progress, the notification and, but from DEBOUNCE
and SETTLING, the urgent survey request. -/
def Dev.detect (d : Dev) (ch : Nat) (high : Bool) : Dev :=
  let old := (d.chan ch).st
  let st : ProbeSt := if high then .opened else .shorted
  let n := d.winLen ch
  let d := (d.dropArrival ch).updChan ch (fun k => { k with
    st := st, bias := if high then .high else .low, confirmed := false, confirmDue := true, confirmStale := false,
    detNo := d.svy.convNo, olderDue := if k.confirmDue then k.olderDue ++ [k.detNo] else k.olderDue
    wins := k.wins.map (fun w => if w.xs.length < n && w.gap.isNone then { w with gap := some (gapStatus st) } else w) })
  let d := d.probeNote ch (if high then 1 else 2) []
  if d.sup 26 && !(old == .debounce || old == .settling) then d.urgentRequest ch [] else d

/-- The channel enters DEBOUNCE (R266, R269). -/
def Dev.debounce (d : Dev) (ch : Nat) : Dev := d.updChan ch (fun k => { k with st := .debounce, bias := .inside, confirmed := false })

/-- A write to EXC_CODEn (R263, R264, R266, R272, R584). -/
def Dev.writeExc (d : Dev) (ch code : Nat) : Dev :=
  let now := d.now
  let d := d.updChan ch (fun k => { k with excFault := false, excAt := now })
  let k := d.chan ch
  if k.st == .teds then d.updChan ch (fun k => { k with saved := some code })
  else
    let d := d.setFld (aExc ch) 0 12 code
    if code = 0 then
      ((d.discardWins ch).dropArrival ch).updChan ch (fun k => { k with
        st := .disabled, confirmed := false, confirmStale := k.confirmDue })
    else if k.st == .disabled then
      let d := d.updChan ch (fun k => { k with tedsExcl := false })
      match k.bias with
      | .inside => d.debounce ch
      | .high => d.detect ch true
      | .low => d.detect ch false
    else d

/-- A survey result of channel n lies outside the window from SHORT_TH to OPEN_TH, in steps of 12.5 mV (R266, R268, R297);
one with OVR does. -/
def Dev.outsideWindow (d : Dev) (code : Int) (ovr : Bool) : Bool :=
  ovr || code * 200 > d.fldAt aSup 8 8 * 2097152 || code * 200 < d.fldAt aSup 0 8 * 2097152

/-- The first result of a bias channel that began after a detection decides it; of a detection that a later one has overtaken it
is reported, and changes nothing (R268, R269). -/
def Dev.confirmResult (d : Dev) (ch : Nat) (code : Int) (ovr : Bool) (first : Nat) : Dev :=
  let k := d.chan ch
  let out := d.outsideWindow code ovr
  let d := d.updChan ch (fun k => { k with olderDue := k.olderDue.filter (fun n => first ≤ n) })
  let d := (k.olderDue.filter (fun n => !(first ≤ n))).foldl (fun d _ => d.probeNote ch (if out then 3 else 4) []) d
  if !k.confirmDue || first ≤ k.detNo then d
  else
    let live := !k.confirmStale && (k.st == .opened || k.st == .shorted)
    let d := d.updChan ch (fun k => { k with confirmDue := false, confirmStale := false, confirmed := k.confirmed || (live && out) })
    let d := if live && !out then d.debounce ch else d
    d.probeNote ch (if out then 3 else 4) []

/-- A read-back of PEXCn (R264): it mismatches by more than 2 % of max(expected, 39.06 mV); two in a row decide. A reading
whose integration overlaps a write or the 5 microseconds after it counts for nothing. -/
def Dev.readback (d : Dev) (ch : Nat) (code : Int) (start : Nat) : Dev :=
  let k := d.chan ch
  if k.excAt + 4000 ≥ start then d
  else
    let exp : Rat := ((d.fldAt (aExc ch) 0 12 : Nat) : Rat) * 5 / 8192
    let diff : Rat := (code : Rat) * 5 / 4194304 - exp
    let lim : Rat := (if exp > 3906 / 100000 then exp else 3906 / 100000) / 50
    if diff > lim || diff < -lim then
      let m := k.mism + 1
      let d := d.updChan ch (fun k => { k with mism := min m 2, mats := 0, excFault := k.excFault || m ≥ 2 })
      if m ≥ 2 && !k.excFault then d.probeNote ch 5 [] else d
    else
      let m := k.mats + 1
      let d := d.updChan ch (fun k => { k with mats := min m 2, mism := 0, excFault := k.excFault && m < 2 })
      if m ≥ 2 && k.excFault then d.probeNote ch 6 [] else d

/-- A survey result of channels 0 to 31 reaches probe supervision (R299): `start` and `first` are the frame time and number
of its first conversion. -/
def Dev.superviseResult (d : Dev) (ch : Nat) (code : Int) (ovr : Bool) (start first : Nat) : Dev :=
  if ch < 16 then d.confirmResult ch code ovr first
  else if ch < 32 then d.readback (ch - 16) code start
  else d

/-! ### Life (R274 to R278) -/

/-- Serial number of a Basic TEDS (the last 24 of its 64 bits). -/
def basicSerial (basic : List Byte) : Nat := uAt basic 5 3

/-- The life block of a channel's accumulators (R274). -/
def lifeBlock (k : Chan) (rtc : Nat) : List Byte :=
  let b := leBytes 2 0x4C42 ++ [1, 0] ++ leBytes 4 (k.serial.getD 0) ++ leBytes 4 k.rated ++ leBytes 4 k.consumed
    ++ leBytes 2 k.seconds ++ leBytes 2 k.shocks ++ leBytes 6 rtc ++ zeros 4
  b ++ leBytes 2 (crc16 b)

/-- The last 32 bytes of a probe's memory of at least 64 bytes (R274). -/
def lifeBytes (mem : List Byte) : Option (List Byte) := if mem.length < 64 then none else some (mem.drop (mem.length - 32))

/-- The block passes MAGIC, CRC and the serial match (R276). -/
def lifeGood (b : List Byte) (serial : Nat) : Bool :=
  uAt b 0 2 == 0x4C42 && crc16 (b.take 30) == uAt b 30 2 && uAt b 4 4 == serial

/-- Life accumulators at an arrival (R276): kept for the same serial, else loaded from a good block, else zero. The answer
says whether LIFE_INVALID is sent. -/
def Chan.loadLife (k : Chan) : Chan × Bool :=
  if !k.tedsPresent then
    ({ k with serial := none, rated := 0, consumed := 0, seconds := 0, shocks := 0, lastUpdate := 0, lifeValid := false, sinceWrite := 0,
              writeDue := false }, false)
  else
    let sn := basicSerial k.basic
    let blk := lifeBytes k.memory
    let good := match blk with | some b => lifeGood b sn | none => false
    let upd := match blk with | some b => if good then uAt b 0x14 6 else k.lastUpdate | none => k.lastUpdate
    if k.serial = some sn then ({ k with lastUpdate := upd }, false)
    else
      let z := { k with serial := some sn, rated := 0, consumed := 0, seconds := 0, shocks := 0, lastUpdate := 0, lifeValid := false,
                        sinceWrite := 0, writeDue := false }
      match blk with
      | none => (z, false)
      | some b =>
        if good then
          ({ z with rated := uAt b 8 4, consumed := uAt b 0xC 4, seconds := uAt b 0x10 2, shocks := uAt b 0x12 2, lastUpdate := upd,
                    lifeValid := true }, false)
        else (z, true)

/-- One is added to a count toward the next LU; at 3,600 it returns to 0 and CONSUMED gains 1 (R275). -/
def lifeStep (n consumed : Nat) : Nat × Nat := if n + 1 ≥ 3600 then (0, satInc 32 consumed) else (n + 1, consumed)

/-- A second of excitation (R275, R277). -/
def Dev.lifeSecond (d : Dev) (ch : Nat) : Dev :=
  let k := d.chan ch
  if d.fldAt (aExc ch) 0 12 = 0 || !k.tedsPresent then d
  else
    let (s, c) := lifeStep k.seconds k.consumed
    let since := k.sinceWrite + 1
    (d.updChan ch (fun k => { k with
      seconds := s, consumed := c, sinceWrite := since
      writeDue := k.writeDue || (since ≥ 86400 && k.lifeValid && d.sup 25) })).checkExpired ch

/-- The shock threshold as a code (R275); none: no shock counting. -/
def Dev.shockCode (d : Dev) (ch : Nat) : Option Int :=
  let sens := d.fldAt (aSens ch) 0 24
  let shock := d.fldAt (aSens ch) 24 8
  if sens = 0 ∨ shock = 0 then none
  else some (roundAway (((shock * 10 * sens * 2 ^ d.fldAt (aAcq ch 0) 2 2 * 8388607 : Nat) : Rat) / 2500000000))

/-- A block of WIN_LEN samples is judged (R275, R294). -/
def Dev.shockBlock (d : Dev) (ch : Nat) : Dev :=
  let k := d.chan ch
  if k.blockN < d.winLen ch then d
  else
    let (s, c) := if k.blockHit && k.tedsPresent then lifeStep k.shocks k.consumed else (k.shocks, k.consumed)
    (d.updChan ch (fun k => { k with shocks := s, consumed := c, blockN := 0, blockHit := false })).checkExpired ch

/-! ### Acquisition (R280 to R282) -/

/-- The largest code. -/
def codeMax : Int := 8388607

/-- A raw sample through correction, high-pass filter and clamp (R280): the code, OVR but for its tail, and the filter's state. -/
def Dev.pipeline (d : Dev) (ch : Nat) (raw : Int) (overload : Bool) : Int × Bool × (Rat × Rat) :=
  let off := sxt 24 (d.fldAt (aAcq ch 0xC) 0 24)
  let x := roundAway (((raw - off) * d.fldAt (aAcq ch 0x10) 0 24 : Int) / 4194304)
  let y : Rat := match (d.chan ch).hpf, d.bitAt (aAcq ch 0) 4 with
    | some (px, py), true => Config.hpfPole (d.fldAt (aAcq ch 0) 0 2) * (py + (x : Rat) - px)
    | _, _ => 0
  let v := if d.bitAt (aAcq ch 0) 4 then roundAway y else x
  (clampI (-codeMax) codeMax v, overload || x > codeMax || x < -codeMax || v > codeMax || v < -codeMax, ((x : Rat), y))

/-- Output samples of a phase of a calibration (R281). -/
def AcqCal.length (c : AcqCal) : Nat := if c.phase = 3 then 64 else 4160

/-- An output sample of a phase: the first 64 are skipped, the next 4,096 averaged (R281). -/
def AcqCal.sample (c : AcqCal) (raw : Int) : AcqCal :=
  if c.count ≥ c.length then c else { c with count := c.count + 1, sum := if c.count < 64 then c.sum else c.sum + raw }

/-- The average of a phase, rounded with halves away from zero (DESIGN CHOICE, log entry 214). -/
def AcqCal.mean (c : AcqCal) : Int := roundAway ((c.sum : Rat) / 4096)

/-- An output sample reaches the window assembler (R280, R282, R285, R287): in ACTIVE the code, else the gap marker. -/
def Dev.acqSample (d : Dev) (ch : Nat) (raw : Int) (overload : Bool) : Dev :=
  let d := (d.completeFull ch).shockBlock ch
  let k := d.chan ch
  if k.cal.isSome then d.updChan ch (fun k => { k with cal := k.cal.map (fun c => c.sample raw) })
  else
    let active := k.st == .active
    let (v, beyond, st) := d.pipeline ch raw overload
    let ovr := (beyond || k.ovrTail > 0) && active
    let x : Int := if active then v else -8388608
    let hit := active && (match d.shockCode ch with | some t => ovr || x ≥ t || x ≤ -t | none => false)
    let fresh := active && d.bitAt (aAcq ch 0) 5 && k.hopLeft == 0 && k.wins.length < 64
    let wins := if fresh then k.wins ++ [{ xs := [], ovr := false, uncal := false, gap := none }] else k.wins
    let uncal := d.bitAt (aAcq ch 8) 0
    let d := d.updChan ch (fun k => { k with
      hpf := if active then some st else none
      ovrTail := if beyond then 40 else k.ovrTail - 1
      wins := wins.map (fun w => { w with xs := x :: w.xs, ovr := w.ovr || ovr, uncal := w.uncal || uncal })
      hopLeft := if active && d.bitAt (aAcq ch 0) 5 then (if k.hopLeft = 0 then 64 * d.fldAt (aAcq ch 4) 0 16 - 1 else k.hopLeft - 1)
                 else 0
      blockN := k.blockN + 1, blockHit := k.blockHit || hit })
    if ovr then (d.setFld (aAcq ch 8) 1 1 1).satFld (aAcq ch 0x18) 0 16 else d

/-- A write to ACQ_CFG (R281, R284): a change of RATE or GAIN sets UNCAL; the windows in progress go on ENABLE = 0, with a
change of RATE or WLEN, and with ACQ_CONFIG. -/
def Dev.writeAcqCfg (d : Dev) (ch : Nat) (w : Word) (config : Bool) : Dev :=
  let old := d.reg (aAcq ch 0)
  let new := regAfter (aAcq ch 0) old w
  let drop := config || !wbit new 5 || wfld old 0 2 != wfld new 0 2 || wfld old 16 7 != wfld new 16 7
  let d := if drop then (d.discardWins ch).updChan ch (fun k => { k with hopLeft := 0 }) else d
  let d := d.setReg (aAcq ch 0) new
  if wfld old 0 4 != wfld new 0 4 then d.setFld (aAcq ch 8) 0 1 1 else d

/-- A host write to ACQ_GAIN (R281). -/
def Dev.writeAcqGain (d : Dev) (ch : Nat) (w : Word) : Dev := (d.setFld (aAcq ch 0x10) 0 24 w.toNat).setFld (aAcq ch 8) 0 1 0

/-- GCORR of a calibration (R281); a value that Q2.22 does not hold is free. -/
def Dev.gcorr (d : Dev) (m off : Int) : Nat × Dev :=
  let g := if m = off then -1 else roundAway ((4194304 * 4194304 : Rat) / ((m - off : Int) : Rat))
  if 0 ≤ g ∧ g < 16777216 then (g.toNat, d)
  else
    let (n, d) := d.draw
    (Config.freeNat n % 16777216, d)

/-- A channel leaves its ACQ_CAL; the command replies when its last channel has (R572). -/
def Dev.calDone (d : Dev) (ch : Nat) : Dev :=
  let cals := d.front.cals.map (fun c => { c with left := c.left.filter (fun x => x != ch) })
  let d := { d with front.cals := cals.filter (fun c => !c.left.isEmpty) }
  (cals.filter (fun c => c.left.isEmpty)).foldl (fun d c => d.ok c.cmd) d

/-- The phase of a calibration that is in progress and has had its samples ends with their average (R281). -/
def Dev.calPhaseEnd (d : Dev) (ch phase : Nat) : Dev :=
  match (d.chan ch).cal with
  | none => d
  | some c =>
    if c.phase ≠ phase ∨ c.count < c.length then d
    else
    match c.phase with
    | 1 =>
      (d.setFld (aAcq ch 0xC) 0 24 (tc 24 c.mean)).updChan ch (fun k => { k with cal := some { phase := 2, off := c.mean } })
    | 2 =>
      let (g, d) := d.gcorr c.mean c.off
      (d.setFld (aAcq ch 0x10) 0 24 g).updChan ch (fun k => { k with cal := some { phase := 3, off := c.off } })
    | _ => ((d.setFld (aAcq ch 8) 0 1 0).updChan ch (fun k => { k with cal := none, hopLeft := 0 })).calDone ch

/-! ### TEDS accesses (R272, R273) -/

/-- The next queued access of a channel that is not excluded starts (R272, R273): excitation held at 0 with its code saved,
windows in progress discarded. TEDS_SEL and TEDS_MODE follow (`Dev.tedsPins`). -/
def Dev.tedsStart (d : Dev) : Dev :=
  match d.front.teds, d.front.tedsQueue.find? (fun r => !(d.chan r.ch).tedsExcl) with
  | none, some r =>
    let rest := d.front.tedsQueue.erase r
    let d := d.discardWins r.ch
    let now := d.now
    let code := d.fldAt (aExc r.ch) 0 12
    let d := { d with front := { d.front with teds := some r, tedsAt := now, tedsQueue := rest } }
    (d.setFld (aExc r.ch) 0 12 0).updChan r.ch (fun k => { k with
      st := .teds, saved := some code, tedsDisabled := k.st == .disabled, excAt := now, confirmed := false, confirmStale := k.confirmDue })
  | _, _ => d

/-- The pins of the access in progress (R272): from its second millisecond on TEDS_SEL names the channel, and then TEDS_MODE is
high; SEL stays as it is while MODE is high. -/
def Dev.tedsPins (d : Dev) : Dev :=
  match d.front.teds with
  | none => d
  | some r =>
    if d.now < d.front.tedsAt + 1600000 || d.front.tedsMode then d
    else if d.front.tedsSel != r.ch then { d with front := { d.front with tedsSel := r.ch } }
    else { d with front := { d.front with tedsMode := true } }

/-- An access ends: TEDS_MODE falls, the saved code is restored and the channel settles, or stays DISABLED with code 0
(R272, R570). -/
def Dev.tedsRestore (d : Dev) (ch : Nat) : Dev :=
  let code := (d.chan ch).saved.getD 0
  let now := d.now
  let d := { d with front := { d.front with teds := none, tedsMode := false } }
  (d.setFld (aExc ch) 0 12 code).updChan ch (fun k => { k with
    st := if code = 0 then .disabled else .settling, saved := none, tedsDisabled := false, excAt := now })

/-- Rows written into a copy of the memory; rows beyond it are not stored. -/
def putRow (mem : List Byte) (row : Nat) (data : List Byte) : List Byte :=
  if 8 * row + data.length ≤ mem.length then mem.take (8 * row) ++ data ++ mem.drop (8 * row + data.length) else mem

/-- PROBE_SENSn from template 25 (R271): sensitivity times 9.80665e9 nV per g and ACQ_ATTEN; other templates leave it. -/
def Dev.loadSens (d : Dev) (ch : Nat) (mem : List Byte) : Dev :=
  match Config.template25 mem with
  | none => d
  | some s =>
    if !d.sup 27 then d
    else
      let v := roundAway (s * 9806650000 * ((d.fldAt (aAcq ch 0x14) 0 16 : Nat) : Rat) / 32768)
      d.setFld (aSens ch) 0 24 (clampI 0 0xFFFFFF v).toNat

/-- An access ends (R272, R570, R277): what it read, the replies of the commands that wait on it, and a life write. -/
def Dev.tedsComplete (d : Dev) (present : Bool) (ident memory : List Byte) : Dev :=
  match d.front.teds with
  | none => d
  | some r =>
    let ch := r.ch
    let ident := if present then padTo 8 ident else zeros 8
    let readMem := r.arrival || !r.reads.isEmpty
    let mem := if present && readMem then memory.take 128 else []
    let rtc := d.lin.rtc
    let d := d.updChan ch (fun k =>
      let k := { k with tedsPresent := present, ident := ident, memory := if readMem || !present then mem else k.memory }
      let k := if readMem || !present then { k with basic := if present then padTo 8 mem else zeros 8 } else k
      if present then { k with memory := r.writes.foldl (fun m w => putRow m w.2.1 w.2.2) k.memory } else k)
    let d := if present && readMem then d.loadSens ch mem else d
    let wrote := r.life && present
    let d := if wrote then
        d.updChan ch (fun k => { k with
          memory := k.memory.take (k.memory.length - 32) ++ lifeBlock k rtc, lastUpdate := rtc, sinceWrite := 0, writeDue := false })
      else d
    let d := d.tedsRestore ch
    let d := r.reads.foldl (fun d c => d.reply c stOk (leBytes 1 (b2n present) ++ leBytes 1 mem.length ++ [0, 0] ++ ident ++ mem)) d
    let st := if present then stOk else stPartnerGone
    let d := r.writes.foldl (fun d w => d.refuse w.1 st) d
    let d := r.lifeCmds.foldl (fun d c => d.refuse c st) d
    if wrote then d.probeNote ch 10 [] else d

/-- TEDS_IO held low by another party (R273): the access ends, its commands are answered TIMEOUT and the channel is excluded. -/
def Dev.tedsStuck (d : Dev) : Dev :=
  match d.front.teds with
  | none => d
  | some r =>
    let d := (d.setFld 0x500C4 5 1 1).updChan r.ch (fun k => { k with
      tedsExcl := true, tedsPresent := k.tedsPresent && !r.arrival })
    let d := d.tedsRestore r.ch
    let d := (r.reads ++ r.writes.map (·.1) ++ r.lifeCmds).foldl (fun d c => d.refuse c stTimeout) d
    d.probeNote r.ch 8 []

/-- Debounce complete (R270): the TEDS access is queued, or SETTLING begins. -/
def Dev.debounceDone (d : Dev) (ch : Nat) : Dev :=
  if (d.chan ch).st != .debounce then d
  else if d.sup 24 && !(d.chan ch).tedsExcl then d.queueTeds ch (fun r => { r with arrival := true })
  else d.updChan ch (fun k => { k with st := .settling, tedsPresent := false, ident := zeros 8, basic := zeros 8, memory := [] })

/-- SETTLING ends: ACTIVE, with the high-pass preloaded, ARRIVED and the life accumulators (R270, R276, R278). -/
def Dev.settleDone (d : Dev) (ch : Nat) : Dev :=
  let k := d.chan ch
  if k.st != .settling then d
  else
    let (k, invalid) := k.loadLife
    let d := d.setChan ch { k with st := .active, hpf := none, hopLeft := 0, expiredSent := false }
    let id := if k.tedsPresent then padTo 8 k.ident ++ padTo 8 k.basic else zeros 16
    let d := d.probeNote ch 0 id
    let d := if invalid then d.probeNote ch 9 [] else d
    d.checkExpired ch

/-- A bias departure is detected (R266): the comparator watches in DEBOUNCE, SETTLING and ACTIVE. -/
def Dev.biasDeparture (d : Dev) (ch : Nat) (high : Bool) : Dev :=
  let st := (d.chan ch).st
  if st == .debounce || st == .settling || st == .active then d.detect ch high
  else d.updChan ch (fun k => { k with bias := if high then .high else .low })

/-- The bias returns inside the window (R269): OPEN and SHORT become DEBOUNCE, an arrival that ends a TEDS exclusion. -/
def Dev.biasReturn (d : Dev) (ch : Nat) : Dev :=
  let st := (d.chan ch).st
  if st == .opened || st == .shorted then
    (d.debounce ch).updChan ch (fun k => { k with confirmStale := k.confirmDue, tedsExcl := false })
  else d.updChan ch (fun k => { k with bias := .inside })

/-! ### A FRONT close (R284, R319, R328) -/

/-- The FRONT domain closes: everything of probes, acquisition and the survey is lost, and outstanding commands are answered
PARTNER_GONE (R284, R308, R319). -/
def Dev.frontClose (d : Dev) : Dev :=
  let ofReq := fun (r : TedsReq) => r.reads ++ r.writes.map (·.1) ++ r.lifeCmds
  let teds := (match d.front.teds with | some r => ofReq r | none => []) ++ (d.front.tedsQueue.map ofReq).flatten
  let urg := (match d.svy.serving with | some u => u.cmds | none => []) ++ (d.svy.urgents.map (·.cmds)).flatten
  let cal := match d.svy.cal with | some c => [c.1] | none => []
  let cmds := teds ++ d.front.cals.map (·.cmd) ++ urg ++ cal
  let d := { d with front := .reset, svy := .reset }.clearRegs 0x40000 0x30000
  cmds.foldl (fun d c => d.refuse c stPartnerGone) d

/-! ### Host commands (R569 to R572) -/

/-- PROBE_CONFIG (R569). -/
def cmdProbeConfig (channel ops : Byte) (sens sup : Word) (c : Cmd) (d : Dev) : Dev :=
  let ch := channel.toNat
  let o := ops.toNat
  if ch > 15 ∨ o = 0 ∨ o > 7 ∨ wfld sup 28 4 ≠ 0 then d.refuse c stBadParam
  else if !d.isOpen 2 then d.refuse c stPartnerGone
  else
    let d := if bitOf o 0 then d.setReg (aSens ch) sens else d
    let d := if bitOf o 1 then d.updChan ch (fun k => { k with tedsExcl := false }) else d
    let d := if bitOf o 2 then d.setReg aSup sup else d
    d.ok c

/-- EXC_SET (R263, R569). -/
def cmdExcSet (mask : Half) (codes : List Half) (c : Cmd) (d : Dev) : Dev :=
  if codes.length ≠ 16 then d.refuse c stBadLength
  else if mask.toNat = 0 || codes.any (fun x => x.toNat ≥ 4096) then d.refuse c stBadParam
  else if !d.isOpen 2 then d.refuse c stPartnerGone
  else
    let d := (onesOf 16 mask.toNat).foldl (fun d ch => d.writeExc ch (nthD codes ch 0).toNat) d
    d.ok c

/-- TEDS_READ (R570). -/
def cmdTedsRead (channel : Byte) (c : Cmd) (d : Dev) : Dev :=
  let ch := channel.toNat
  if ch > 15 then d.refuse c stBadParam
  else if !d.isOpen 2 then d.refuse c stPartnerGone
  else if (d.chan ch).tedsExcl then d.refuse c stBusy
  else d.queueTeds ch (fun r => { r with reads := r.reads ++ [c] })

/-- TEDS_WRITE (R569, R570). -/
def cmdTedsWrite (channel row count : Byte) (data : List Byte) (c : Cmd) (d : Dev) : Dev :=
  let ch := channel.toNat
  let n := count.toNat
  if !([8, 16, 24, 32].contains data.length) then d.refuse c stBadLength
  else if ch > 15 ∨ row.toNat > 15 ∨ n = 0 ∨ n > 4 ∨ row.toNat + n > 16 ∨ data.length ≠ 8 * n then d.refuse c stBadParam
  else if !d.isOpen 2 then d.refuse c stPartnerGone
  else if (d.chan ch).tedsExcl then d.refuse c stBusy
  else d.queueTeds ch (fun r => { r with writes := r.writes ++ [(c, row.toNat, data)] })

/-- PROBE_LIFE GET (R571). -/
def cmdLifeGet (channel : Byte) (c : Cmd) (d : Dev) : Dev :=
  let ch := channel.toNat
  if ch > 15 then d.refuse c stBadParam
  else if !d.isOpen 2 then d.refuse c stPartnerGone
  else
    let k := d.chan ch
    d.reply c stOk (leBytes 1 (b2n k.lifeValid) ++ leBytes 1 (b2n k.expired) ++ leBytes 2 k.seconds ++ leBytes 4 (k.serial.getD 0)
      ++ leBytes 4 k.rated ++ leBytes 4 k.consumed ++ leBytes 2 k.shocks ++ leBytes 6 k.lastUpdate)

/-- PROBE_LIFE SET (R571). -/
def cmdLifeSet (channel : Byte) (rated consumed : Word) (seconds shocks : Half) (c : Cmd) (d : Dev) : Dev :=
  let ch := channel.toNat
  let k := d.chan ch
  if ch > 15 ∨ seconds.toNat > 3599 ∨ shocks.toNat > 3599 then d.refuse c stBadParam
  else if !d.isOpen 2 then d.refuse c stPartnerGone
  else if !k.tedsPresent || k.memory.length < 64 then d.refuse c stBadParam
  else
    let d := d.setChan ch { k with
      rated := rated.toNat, consumed := consumed.toNat, seconds := seconds.toNat, shocks := shocks.toNat, lifeValid := true
      serial := some (basicSerial k.basic) }
    (d.checkExpired ch).ok c

/-- PROBE_LIFE WRITE (R277, R571). -/
def cmdLifeWrite (channel : Byte) (c : Cmd) (d : Dev) : Dev :=
  let ch := channel.toNat
  if ch > 15 then d.refuse c stBadParam
  else if !d.isOpen 2 then d.refuse c stPartnerGone
  else if !(d.chan ch).lifeValid then d.refuse c stBadParam
  else if (d.chan ch).tedsExcl then d.refuse c stBusy
  else d.queueTeds ch (fun r => { r with life := true, lifeCmds := r.lifeCmds ++ [c] })

/-- ACQ_CAL (R281, R284, R572). -/
def cmdAcqCal (mask : Half) (c : Cmd) (d : Dev) : Dev :=
  let chs := onesOf 16 mask.toNat
  if mask.toNat = 0 then d.refuse c stBadParam
  else if !d.isOpen 2 then d.refuse c stPartnerGone
  else if chs.any (fun ch => d.listened ch || (d.chan ch).cal.isSome) then d.refuse c stBusy
  else
    let d := chs.foldl (fun d ch => (d.discardWins ch).updChan ch (fun k => { k with cal := some { phase := 1, off := 0 } })) d
    { d with front.cals := d.front.cals ++ [{ cmd := c, left := chs }] }

/-- A CFG, HOP and ATTEN of ACQ_CONFIG are all in range (R569). -/
def acqConfigOk (cfg hop atten : Word) : Bool :=
  wfld cfg 10 6 == 0 && wfld cfg 23 9 == 0 && wfld cfg 6 4 ≤ 8 && 4 ≤ wfld cfg 16 7 && wfld cfg 16 7 ≤ 64
    && wfld hop 16 16 == 0 && hop.toNat != 0 && wfld atten 16 16 == 0

/-- ACQ_CONFIG (R284, R569, R572). -/
def cmdAcqConfig (mask : Half) (cfg hop atten : Word) (c : Cmd) (d : Dev) : Dev :=
  let chs := onesOf 16 mask.toNat
  if mask.toNat = 0 || !acqConfigOk cfg hop atten then d.refuse c stBadParam
  else if !d.isOpen 2 then d.refuse c stPartnerGone
  else if chs.any d.listened then d.refuse c stBusy
  else
    let d := chs.foldl (fun d ch => ((d.writeAcqCfg ch cfg true).setReg (aAcq ch 4) hop).setReg (aAcq ch 0x14) atten) d
    d.ok c

/-! ### Meanings -/

/-- An event of a probe channel: nothing for a channel that does not exist, or while FRONT has no power. -/
def Dev.frontEvent (d : Dev) (ch : Nat) (f : Dev → Dev) : Dev := if ch < 16 && d.isOpen 2 then f d else d

/-- PROBE_CONFIG (R569). -/
def execProbeConfig (h : CmdHdr) (channel ops : Byte) (sens sup : Word) (s : State) : Host.Outcome State Fault Refusal :=
  onDev s (Dev.hostCmd 0x50 ([channel, ops, 0, 0] ++ wordBytes sens ++ wordBytes sup) h (cmdProbeConfig channel ops sens sup))

/-- EXC_SET (R263, R569). -/
def execExcSet (h : CmdHdr) (mask : Half) (codes : List Half) (s : State) : Host.Outcome State Fault Refusal :=
  onDev s (Dev.hostCmd 0x51 (leBytes 2 mask.toNat ++ (codes.map (fun (x : Half) => leBytes 2 x.toNat)).flatten) h (cmdExcSet mask codes))

/-- TEDS_READ (R570). -/
def execTedsRead (h : CmdHdr) (channel : Byte) (s : State) : Host.Outcome State Fault Refusal :=
  onDev s (Dev.hostCmd 0x52 [channel] h (cmdTedsRead channel))

/-- TEDS_WRITE (R570). -/
def execTedsWrite (h : CmdHdr) (channel row count : Byte) (data : List Byte) (s : State) : Host.Outcome State Fault Refusal :=
  onDev s (Dev.hostCmd 0x53 ([channel, row, count, 0] ++ data) h (cmdTedsWrite channel row count data))

/-- PROBE_LIFE GET (R571). -/
def execProbeLifeGet (h : CmdHdr) (channel : Byte) (s : State) : Host.Outcome State Fault Refusal :=
  onDev s (Dev.hostCmd 0x54 [0, channel] h (cmdLifeGet channel))

/-- PROBE_LIFE SET (R571). -/
def execProbeLifeSet (h : CmdHdr) (channel : Byte) (rated consumed : Word) (seconds shocks : Half) (s : State) :
    Host.Outcome State Fault Refusal :=
  onDev s (Dev.hostCmd 0x54 ([1, channel] ++ wordBytes rated ++ wordBytes consumed ++ leBytes 2 seconds.toNat ++ leBytes 2 shocks.toNat) h
    (cmdLifeSet channel rated consumed seconds shocks))

/-- PROBE_LIFE WRITE (R571). -/
def execProbeLifeWrite (h : CmdHdr) (channel : Byte) (s : State) : Host.Outcome State Fault Refusal :=
  onDev s (Dev.hostCmd 0x54 [2, channel] h (cmdLifeWrite channel))

/-- ACQ_CAL (R281). -/
def execAcqCal (h : CmdHdr) (mask : Half) (s : State) : Host.Outcome State Fault Refusal :=
  onDev s (Dev.hostCmd 0x58 (leBytes 2 mask.toNat) h (cmdAcqCal mask))

/-- ACQ_CONFIG (R569). -/
def execAcqConfig (h : CmdHdr) (mask : Half) (cfg hop atten : Word) (s : State) : Host.Outcome State Fault Refusal :=
  onDev s (Dev.hostCmd 0x59 (leBytes 2 mask.toNat ++ [0, 0] ++ wordBytes cfg ++ wordBytes hop ++ wordBytes atten) h
    (cmdAcqConfig mask cfg hop atten))

/-- EXC_CODE_WRITE (R263): a register write of EXC_CODEn. -/
def execExcCodeWrite (ch : Nat) (code : Word) (s : State) : Host.Outcome State Fault Refusal :=
  onDev s (fun d => d.frontEvent ch (fun d => d.writeExc ch (wfld code 0 12)))

/-- ACQ_GAIN_WRITE (R281): a register write of ACQ_GAIN. -/
def execAcqGainWrite (ch : Nat) (value : Word) (s : State) : Host.Outcome State Fault Refusal :=
  onDev s (fun d => d.frontEvent ch (fun d => d.writeAcqGain ch value))

/-- WINDOW_COMPLETE (R282). -/
def execWindowComplete (ch : Nat) (s : State) : Host.Outcome State Fault Refusal :=
  onDev s (fun d => d.frontEvent ch (fun d => d.completeFull ch))

/-- BIAS_DEPARTURE (R266). -/
def execBiasDeparture (ch : Nat) (high : Bool) (s : State) : Host.Outcome State Fault Refusal :=
  onDev s (fun d => d.frontEvent ch (fun d => d.biasDeparture ch high))

/-- BIAS_RETURN (R269). -/
def execBiasReturn (ch : Nat) (s : State) : Host.Outcome State Fault Refusal :=
  onDev s (fun d => d.frontEvent ch (fun d => d.biasReturn ch))

/-- DEBOUNCE_COMPLETE (R270). -/
def execDebounceComplete (ch : Nat) (s : State) : Host.Outcome State Fault Refusal :=
  onDev s (fun d => d.frontEvent ch (fun d => d.debounceDone ch))

/-- TEDS_ACCESS_START (R272). -/
def execTedsAccessStart (s : State) : Host.Outcome State Fault Refusal := onDev s (fun d => d.frontEvent 0 (fun d => d.tedsStart))

/-- TEDS_ACCESS_COMPLETE (R272). -/
def execTedsAccessComplete (present : Bool) (ident memory : List Byte) (s : State) : Host.Outcome State Fault Refusal :=
  onDev s (fun d => d.frontEvent 0 (fun d => d.tedsComplete present ident memory))

/-- TEDS_STUCK (R273). -/
def execTedsStuck (s : State) : Host.Outcome State Fault Refusal := onDev s (fun d => d.frontEvent 0 (fun d => d.tedsStuck))

/-- SETTLE_COMPLETE (R270). -/
def execSettleComplete (ch : Nat) (s : State) : Host.Outcome State Fault Refusal :=
  onDev s (fun d => d.frontEvent ch (fun d => d.settleDone ch))

/-- LIFE_SECOND (R275). -/
def execLifeSecond (ch : Nat) (s : State) : Host.Outcome State Fault Refusal :=
  onDev s (fun d => d.frontEvent ch (fun d => d.lifeSecond ch))

/-- SHOCK_BLOCK (R275). -/
def execShockBlock (ch : Nat) (s : State) : Host.Outcome State Fault Refusal :=
  onDev s (fun d => d.frontEvent ch (fun d => d.shockBlock ch))

/-- LIFE_AUTO_WRITE (R277). -/
def execLifeAutoWrite (ch : Nat) (s : State) : Host.Outcome State Fault Refusal :=
  onDev s (fun d => d.frontEvent ch (fun d => d.lifeAuto ch))

/-- ACQ_SAMPLE (R280). -/
def execAcqSample (ch : Nat) (raw : Int) (overload : Bool) (s : State) : Host.Outcome State Fault Refusal :=
  onDev s (fun d => d.frontEvent ch (fun d => d.acqSample ch raw overload))

/-- ACQ_CAL_PHASE_END (R281). -/
def execAcqCalPhaseEnd (ch phase : Nat) (s : State) : Host.Outcome State Fault Refusal :=
  onDev s (fun d => d.frontEvent ch (fun d => d.calPhaseEnd ch phase))

end Sys2Proof.Machine
end

