-- ==== Sys2Proof/Machine/Power.lean ====
section
/-! DEFINITION. Shutters, rails and clocks (12_shutters_supplies_clocks.md R322 to R348, R557): opening, closing, DOZE and
WAKE, and what each domain does with its work. -/
namespace Sys2Proof.Machine

/-- The phase codes of SHT_ACTIVE: 0 idle, 1 opening, 2 draining, 3 power cut in progress. -/
def DomPhase.code : DomPhase → Nat
  | .closed | .retained | .opened => 0
  | .waitRail | .waitSpacing | .opening _ => 1
  | .draining .. => 2
  | .cutting .. => 3

/-- A shutter changes phase, with a SHUTTER trace record (R502). -/
def Dev.shut (d : Dev) (n : Nat) (v : DomPhase) : Dev := (d.setDom n v).trace 32 7 (leBytes 1 n ++ leBytes 1 v.code)

/-- The domain's own rails are good (R327). -/
def Dev.railOk (d : Dev) (n : Nat) : Bool :=
  if n = 2 then d.pwr.afeGood else if n = 4 then !Config.partT || d.pwr.cmpGood else true

/-! ### Credits of a domain that opens or closes (R141) -/

/-- The casement receives again: it grants its quotas to every source that is up, and every casement grants it its own. -/
def Dev.grantsFor (d : Dev) (c : Nat) : Dev :=
  let ups := (List.range 40).filter (fun s => if s < 32 then d.casUp s else !d.ghosted s)
  let d := ups.foldl (fun d s => d.grant c s) d
  (List.range 32).foldl (fun d r => if r != c && d.casUp r then d.grant r c else d) d

/-- An edge router's partner is back: every casement's grants to it are counted anew, from the messages it has outstanding. -/
def Dev.grantsTo (d : Dev) (s : Nat) : Dev :=
  (List.range 32).foldl (fun d c =>
    let held := ((d.cas c).req.filter (fun m => m.src == s)).length + (d.mul.net.filter (fun m => m.src == s && m.dst == c)).length
    let d := (d.setCredit s c 0).setGranted c s held
    if d.casUp c then d.grant c s else d) d

/-- Credits and grants of some casements are gone. -/
def Dev.dropCredits (d : Dev) (cs : List Nat) : Dev :=
  let keep := fun (e : Nat × Nat) => !(cs.contains (e.1 / 64) || cs.contains (e.1 % 64))
  { d with mul.credits := d.mul.credits.filter keep, mul.granted := d.mul.granted.filter keep }

/-! ### What a domain does with its work when it closes -/

/-- A pane's quadrant begins to close (R81, R83, R89): its state is recorded, its audit, program or self-test ends. -/
def Dev.paneShut (d : Dev) (p : Nat) : Dev :=
  let v := d.pane p
  if v.st = .shuttered then d
  else
    let d := d.auditAbort p 7
    let d := match v.program with
      | some g => (d.updPane p (fun v => { v with program := none })).progRes p g 4
      | none => d
    let d := match v.selftest with
      | some t => (d.updPane p (fun v => { v with selftest := none })).refuse t.cmd stPartnerGone
      | none => d
    let d := (d.updPane p (fun w => { w with prior := v.st })).setPaneSt p .shuttered
    let d := if v.program.isSome then d.pgmEnUpdate else d
    let d := d.spareLost p
    match d.originOf p with
    | some (i, o) => d.autoGraft i o
    | none => d

/-- Requests that wait for a pane of the quadrant end PARTNER_GONE (R66, R90). -/
def Dev.paneWaits (d : Dev) (q : Nat) : Dev :=
  let gone := d.pctl.audits.filter (fun r => quadOfPane r.pane == q)
  let d := { d with pctl.audits := d.pctl.audits.filter (fun r => quadOfPane r.pane != q) }
  let d := gone.foldl (fun d r => d.auditStatus r stPartnerGone) d
  let progs := (d.pctl.progQueue ++ d.pctl.counted).filter (fun r => quadOfPane r.pane == q)
  let d := { d with
    pctl.progQueue := d.pctl.progQueue.filter (fun r => quadOfPane r.pane != q)
    pctl.counted := d.pctl.counted.filter (fun r => quadOfPane r.pane != q) }
  progs.foldl (fun d r => d.refuse r.cmd stPartnerGone) d

/-- Products of a pane that were not delivered end PARTNER_GONE (R55). -/
def Dev.dropProducts (d : Dev) (p : Nat) : Dev :=
  let v := d.pane p
  (v.running ++ v.queue).foldl (fun d x => d.answerProduct p x (refusedResult stPartnerGone))
    (d.setPane p { v with queue := [], running := [] })

/-- What a casement waits for beyond its closing quadrant ends PARTNER_GONE (R328): remote accesses, requests and products. -/
def Dev.dropWaits (d : Dev) (c : Nat) : Dev :=
  let d := d.updCas c (fun k => { k with fires := k.fires.map (fun f =>
    if f.result.isNone then { f with result := some (refusedResult stPartnerGone) } else f) })
  (List.range 16).foldl (fun d s =>
    let k := d.cas c
    let r := k.rspAt s
    if !r.busy || r.reply.isSome then d
    else if r.fire.isSome then d.setCas c (k.freeRsp s)
    else if k.stalledOn s then d.remoteEnd c s stPartnerGone []
    else d.setCas c (k.setRsp s { r with reply := some (stPartnerGone, 0) })) d

/-- A quadrant's drain ends: undelivered products and unanswered requests end PARTNER_GONE (R27, R55, R148, R328). -/
def Dev.quadDrained (d : Dev) (q : Nat) : Dev :=
  let cs := casOfQuad q
  let d := (panesOfQuad q).foldl (fun d p => d.dropProducts p) d
  let d := cs.foldl (fun d c =>
    let k := d.cas c
    let d := (k.req.filter (fun m => m.typ == tyReqUser)).foldl (fun d m =>
      d.ghostSend { src := c, dst := m.src, typ := tyRsp, len := 0, tag := m.tag, ticket := m.ticket, status := stPartnerGone,
                    notify := false, payload := zeros 32 }) d
    d.dropWaits c) d
  d.loseTickets cs

/-- SILL's drain ends: what it holds is answered by the ghost (R198). -/
def Dev.sillDrained (d : Dev) : Dev :=
  let held := d.sill.held
  let ms := (d.sill.lookups0 ++ d.sill.lookups1).map (·.msg)
  let d := { d with sill := { d.sill with held := [], lookups0 := [], lookups1 := [] } }
  let d := ms.foldl (fun d m => d.respond m stPartnerGone []) d
  let d := held.foldl (fun d h => match h with
    | .msg m => d.respond m stPartnerGone []
    | .write c .. => d.refuse c stPartnerGone
    | .read c .. => d.refuse c stPartnerGone
    | .zero c .. => d.refuse c stPartnerGone
    | .wr m => d.respond m stPartnerGone []
    | .window c .. => d.refuse c stPartnerGone
    | .program c .. => d.refuse c stPartnerGone
    | .dbg .. => { d with dbg := { d.dbg with jtag := { d.dbg.jtag with data0 := if d.dbg.jtag.busy then 0 else d.dbg.jtag.data0, busy := false } } }
    | .door .. => d
    | .reg .. => d) d
  d.stormClose

/-- A domain's drain ends (R328): messages to it meet the ghost, and what is unfinished ends. -/
def Dev.domDrained (d : Dev) (n : Nat) : Dev :=
  if n = 3 then d.stormClose.setFld 0xA0004 1 1 1
  else if n = 4 then (d.sillDrained.setFld 0xA0004 2 1 1).setFld 0xA0004 3 1 1
  else if n = 2 then d.setFld 0xA0004 4 1 1
  else if n = 5 then d.doorClose.setFld 0xA0004 5 1 1
  else if n ≥ 6 then d.quadDrained n
  else d

/-- Length, expiry and near misses of a drain (SHT_DRAIN). -/
def Dev.noteDrain (d : Dev) (us : Nat) (expired : Bool) (nearMiss : Nat) : Dev :=
  ((d.setFld 0x10008 0 5 (min us 20)).setFld 0x10008 5 1 (b2n expired)).addFld 0x10008 16 16 nearMiss

/-- The drain of a domain ends; power is cut within 2 microseconds. -/
def Dev.drainEnd (d : Dev) (n us : Nat) (expired : Bool) (nearMiss : Nat) : Dev :=
  match d.dom n with
  | .draining retain force => ((d.noteDrain us expired nearMiss).shut n (.cutting retain force)).domDrained n
  | _ => d

/-- A close starts (R328, R329): no new work; a forced close has its drain end at once. -/
def Dev.closeStart (d : Dev) (n : Nat) (retain force : Bool) : Dev :=
  let d := { d.shut n (.draining retain force) with pwr.drainAt := Tab.set (fun _ => 0) d.pwr.drainAt n d.now }
  let d := if n = 2 then d.frontClose else if n ≥ 6 then (((panesOfQuad n).foldl (fun d p => d.paneShut p) d).paneWaits n).dropFaults n else d
  if force then d.drainEnd n 0 false 0 else d

/-- A quadrant loses power and everything in it (R330): only conductances, recorded pane states, retained audit records and
grafts, which are not the quadrant's memories, stay. -/
def Dev.quadLost (d : Dev) (q : Nat) : Dev :=
  let cs := casOfQuad q
  let keepReg := fun (a : Nat) => !(0x100000 ≤ a && a < 0x120000 && cs.contains ((a - 0x100000) / 0x1000))
    || (0x800 ≤ a % 0x1000 && a % 0x1000 < 0x900 && a % 0x40 == 0x30)
  let d := (panesOfQuad q).foldl (fun d p => d.updPane p (fun v => { v with ledger := none, calDue := false, calFirst := false })) d
  { d.dropCredits cs with regs := d.regs.filter (fun e => keepReg e.1), csm := d.csm.filter (fun e => !cs.contains e.1) }

/-- SILL loses power: its registers and leases, and its banks and their bitmap unless they are retained; the companion dies
self-refresh (R198, R330, R331). -/
def Dev.sillLost (d : Dev) (retain : Bool) : Dev :=
  let d := d.clearRegs 0x90000 0x10000
  let d := { d with sill := { d.sill with selfRefresh := true, leases := [] } }
  if retain then d
  else
    { d with sill := { d.sill with
        mem := Tab.keep (fun a => !onChip a) d.sill.mem, flips := Tab.keep (fun a => !onChip a) d.sill.flips, written := [],
        clearing := false, scrubBank := 0 } }

/-- Power of a domain is cut (R328 to R331). -/
def Dev.domLost (d : Dev) (n : Nat) (retain : Bool) : Dev :=
  if n = 3 then d.clearRegs 0x80000 0x10000
  else if n = 4 then d.sillLost retain
  else if n ≥ 6 ∧ retain = false then d.quadLost n
  else d

/-! ### Opening -/

/-- ELAPSED of SHT_DOZE: 10 ms units since the last DOZE power cut, frozen by the first retention reopening (R332). -/
def Dev.dozeElapsed (d : Dev) : Nat :=
  match d.pwr.dozeFrozen, d.pwr.dozeCut with
  | some e, _ => e
  | none, some t => min ((d.now - t) / 8000000) (2 ^ 31 - 1)
  | none, none => 0

/-- The domain starts to open (R325, R332). -/
def Dev.openStart (d : Dev) (n : Nat) : Dev :=
  let d := if n ≥ 6 then { d with pwr.lastQuad := some d.now } else d
  let d := if d.pwr.reopening.contains n && d.pwr.dozeFrozen.isNone then { d with pwr.dozeFrozen := some d.dozeElapsed } else d
  d.shut n (.opening 0)

/-- A quadrant keeps its distance from the shutter before it and from the previous quadrant (R325). -/
def Dev.spaced (d : Dev) (first : Bool) : Bool :=
  first && (match d.pwr.lastQuad with | some t => d.now ≥ t + 160000 | none => true)

/-- The domain's turn has come: it waits for its rail or its spacing, or starts (R325, R327). -/
def Dev.openTurn (d : Dev) (n : Nat) (first : Bool) : Dev :=
  let d := if d.dom n = .retained then { d with pwr.reopening := n :: d.pwr.reopening } else d
  if !d.railOk n then d.shut n .waitRail
  else if n ≥ 6 && !d.spaced first then d.shut n .waitSpacing
  else d.openStart n

/-- The shutter command in progress ends with a status. -/
def Dev.opEnd (d : Dev) (op : ShtOp) (st : Byte) : Dev := { d with pwr.cur := none }.refuse op.cmd st

/-- The opening command in progress goes on with its next domain (R324); a domain that is still closing is waited for. -/
def Dev.openNext (d : Dev) (op : ShtOp) (first : Bool) : List Nat → Dev
  | [] => d.opEnd op stOk
  | n :: rest =>
    match d.dom n with
    | .opened => Dev.openNext d op first rest
    | .closed | .retained => { d with pwr.cur := some { op with todo := n :: rest } }.openTurn n first
    | _ => { d with pwr.cur := some { op with todo := n :: rest } }

/-- Entries kept through a DOZE (R113): all stale, the accumulators start anew, and a pane that may compute runs a pair before
its next product. -/
def Pane.restarted (v : Pane) : Pane :=
  let l := v.ledger.map (fun l =>
    { l with cols := l.cols.map (fun (e : LedgerCol) => { e with stale := true }), n := 0, acc := zeroTerms })
  { v with ledger := l, calFirst := l.isSome && v.prior != .suspect }

/-- A pane's quadrant has reopened (R82, R113): restored, or UNVERIFIED with an automatic audit of a retained record. -/
def Dev.paneReopen (d : Dev) (keep : Bool) (p : Nat) : Dev :=
  let v := d.pane p
  if v.st != .shuttered then d
  else
    match v.prior with
    | .retired => d.setPaneSt p .retired
    | .selftest => (d.setPane p v.restarted).setPaneSt p .trusted
    | .trusted | .suspect =>
      if keep then (d.setPane p v.restarted).setPaneSt p v.prior
      else
        let d := d.setPaneSt p .unverified
        match v.record with
        | some r => { d with pctl.audits := d.pctl.audits ++ [{ pane := p, record := r, cmdNo := none }] }
        | none => d
    | _ => d.setPaneSt p .unverified

/-- A casement that was fenced or FAILED when its quadrant closed is neither once it reopens, and its core stays halted
(R151). -/
def Dev.unfence (d : Dev) (c : Nat) : Dev :=
  let k := d.cas c
  let bad := k.core == .fenced || k.core == .failed
  let d := if bad then (d.setCas c { k with core := .halted, drained := false }).setFld (aCsm c 0x000) 0 1 1 else d
  d.setFld 0xA0000 c 1 0

/-- A quadrant is open (R82, R151, R177, R325). -/
def Dev.quadOpened (d : Dev) (q : Nat) : Dev :=
  let kept := d.pwr.reopening.contains q
  let short := match d.pwr.lastQuad, d.pwr.dozeCut with | some t, some c => t < c + 480000000000 | _, _ => false
  let cs := casOfQuad q
  let d := cs.foldl (fun d c => d.unfence c) d
  let d := if kept then d
    else
      let hit := (List.range 16).filter (fun i => cs.any (fun c => bitOf (d.slot i).casements c))
      hit.foldl (fun d i => d.codeLost i) d
  let d := (panesOfQuad q).foldl (fun d p => d.paneReopen (kept && short) p) d
  cs.foldl (fun d c => d.grantsFor c) d

/-- SILL is open (R195, R197, R198): the clear of the banks and the zero fronts start, unless it was retained. -/
def Dev.sillOpened (d : Dev) : Dev :=
  let kept := d.pwr.reopening.contains 4
  let d := (d.setFld 0xA0004 2 1 0).setFld 0xA0004 3 1 0
  { d with sill := { d.sill with selfRefresh := false, fronts := d.sill.fronts || Config.partT, clearing := d.sill.clearing || !kept } }

/-- FRONT is open: HZ60 shows the frequency that the strap gives (R296). -/
def Dev.frontOpened (d : Dev) : Dev :=
  let hz := d.wants60
  { (d.setFld 0xA0004 4 1 0).grantsTo 36 with svy.hz60 := hz }

/-- What a domain does on being open. -/
def Dev.domOpened (d : Dev) (n : Nat) : Dev :=
  if n = 2 then d.frontOpened
  else if n = 3 then d.setFld 0xA0004 1 1 0
  else if n = 4 then d.sillOpened
  else if n = 5 then ((d.setFld 0xA0004 5 1 0).grantsTo 37).trainPorts
  else if n ≥ 6 then d.quadOpened n
  else d

/-- The domain belongs to a closing command that waits for it (R342). -/
def ShtOp.closes (op : ShtOp) (n : Nat) : Bool :=
  (op.kind == .closeMask || op.kind == .force || op.kind == .doze) && op.todo.contains n

/-- The shutter command in progress names a domain's opening as its present work. -/
def ShtOp.opens (op : ShtOp) (n : Nat) : Bool := (op.kind == .openMask || op.kind == .wake) && op.todo.head? == some n

/-- DOZE keeps the quadrants and SILL (R331). -/
def retains (n : Nat) : Bool := n == 4 || n ≥ 6

/-- The close of a command starts on a domain. -/
def Dev.closeFor (d : Dev) (op : ShtOp) (n : Nat) : Dev := d.closeStart n (op.kind == .doze && retains n) (op.kind == .force)

/-- The closing commands under way: the one in progress and the forced ones beside it (R343). -/
def PowerState.closers (p : PowerState) : List ShtOp := p.cur.toList ++ p.forced

/-- A domain that the closing commands wait for is open, its sill cleared: it closes (R342). -/
def Dev.closeWaiting (d : Dev) (n : Nat) : Dev :=
  match d.pwr.closers.find? (fun op => op.closes n) with
  | some op => if n = 4 && d.sill.clearing then d else d.closeFor op n
  | none => d

/-- A domain is closed: no closing command waits for it any longer. -/
def PowerState.leave (p : PowerState) (n : Nat) : PowerState :=
  let f := fun (op : ShtOp) => if op.closes n then { op with todo := op.todo.erase n } else op
  { p with cur := p.cur.map f, forced := p.forced.map f }

/-- RAIL_FAIL of SHT_STATUS names the domain (R327). -/
def Dev.noteRail (d : Dev) (n : Nat) : Dev := d.setFld 0x10000 26 4 n

/-- DOMAIN_OPEN_COMPLETE (R324, R325); a rail that is bad on this tick closes the domain again at once (R348). -/
def Dev.openComplete (d : Dev) (n : Nat) : Dev :=
  match d.dom n with
  | .opening _ =>
    let d := (d.shut n .opened).domOpened n
    let d := { d with pwr.reopening := d.pwr.reopening.filter (· != n), pwr.dozed := d.pwr.dozed.filter (· != n) }
    let bad := !d.railOk n
    let d := if bad then (d.noteRail n).closeStart n false true else d.closeWaiting n
    match d.pwr.cur with
    | some op => if op.opens n then (if bad then d.opEnd op stInternalFault else d.openNext op false (op.todo.drop 1)) else d
    | none => d
  | _ => d

/-- CASEMENT_PAIR_START (R325): the pair's SRAM is zeroed, unless the reopening keeps it. -/
def Dev.pairStart (d : Dev) (n : Nat) : Dev :=
  match d.dom n with
  | .opening k =>
    if n < 6 || k ≥ 4 then d
    else
      let pair := ((casOfQuad n).drop (2 * k)).take 2
      let d := d.setDom n (.opening (k + 1))
      if d.pwr.reopening.contains n then d else pair.foldl (fun d c => d.updCas c (fun k => { k with sram := [], flips := [] })) d
  | _ => d

/-- QUADRANT_START: the spacing has passed (R325). -/
def Dev.quadStart (d : Dev) : Dev :=
  match [6, 7, 8, 9].find? (fun n => d.dom n == .waitSpacing) with
  | some n => d.openStart n
  | none => d

/-- RAIL_GOOD (R327): rails have become good, and a domain that waited for one starts once the clocks run. -/
def Dev.railGood (d : Dev) (afe cmp : Bool) : Dev :=
  let d := { d with pwr := { d.pwr with afeGood := d.pwr.afeGood || afe, cmpGood := d.pwr.cmpGood || cmp } }
  match [2, 4].find? (fun n => d.dom n == .waitRail && d.railOk n) with
  | some n => d.onClock (fun d => d.openStart n)
  | none => d

/-- RAIL_WAIT_TIMEOUT (R327): the domain stays closed and the command ends. -/
def Dev.railTimeout (d : Dev) : Dev :=
  match [2, 4].find? (fun n => d.dom n == .waitRail) with
  | none => d
  | some n =>
    let d := d.shut n (if d.pwr.reopening.contains n then .retained else .closed)
    let d := { d with pwr.reopening := d.pwr.reopening.filter (· != n) }.noteRail n
    match d.pwr.cur with
    | some op => if op.opens n then d.opEnd op stInternalFault else d
    | none => d

/-- The domain of a failed rail, if it is open, is closed as by a forced close, and RAIL_FAIL names it (R327). -/
def Dev.railClose (d : Dev) (n : Nat) : Dev :=
  match d.dom n with
  | .opened => (d.noteRail n).closeStart n false true
  | .draining retain _ => ((d.noteRail n).setDom n (.draining retain true)).drainEnd n 0 false 0
  | _ => d

/-- RAIL_FAIL (R327): the rail is no longer good, and while the clocks run its domain closes. -/
def Dev.railFail (d : Dev) (n : Nat) : Dev :=
  if !(n == 2 || (n == 4 && Config.partT)) then d
  else (if n = 2 then { d with pwr.afeGood := false } else { d with pwr.cmpGood := false }).onClock (fun d => d.railClose n)

/-! ### Commands -/

/-- The domains that WAKE reopens, ascending (R332). -/
def Dev.toWake (d : Dev) : List Nat := (List.range 10).filter (fun n => d.pwr.dozed.contains n && d.dom n != .opened)

/-- A DOZE has completed (SHT_DOZE.DOZED). -/
def Dev.dozeOver (d : Dev) (op : ShtOp) : Dev := if op.kind = .doze then { d with pwr.dozeDone := true } else d

/-- A shutter command begins (R324, R331, R342, R347). A DOZE that finds nothing to close cuts no power: what an earlier one
closed stays for WAKE. -/
def Dev.opBegin (d : Dev) (op : ShtOp) : Dev :=
  match op.kind with
  | .openMask => d.openNext op true op.todo
  | .wake => d.openNext op true d.toWake
  | _ =>
    let ns := op.todo.filter (fun n => match d.dom n with | .closed | .retained => false | _ => true)
    if ns.isEmpty then (d.dozeOver op).opEnd op stOk
    else
      let op := { op with todo := ns }
      let waits := fun (d : Dev) (n : Nat) => op.fully && n == 4 && d.sill.clearing
      ns.foldl (fun d n => if d.isOpen n && !waits d n then d.closeFor op n else d) { d with pwr.cur := some op }

/-- A shutter command is accepted: it begins, or waits behind the one in progress (R324). -/
def Dev.opAccept (d : Dev) (op : ShtOp) : Dev :=
  if d.pwr.cur.isNone && d.pwr.queue.isEmpty then d.opBegin op else { d with pwr.queue := d.pwr.queue ++ [op] }

/-- SHUTTER_COMMAND_START: the next waiting command begins (R324). -/
def Dev.opNext (d : Dev) : Dev :=
  match d.pwr.cur, d.pwr.queue with
  | none, op :: rest => { d with pwr.queue := rest }.opBegin op
  | _, _ => d

/-- A closing command ends once its last domain is closed; DOZE notes the time of the cut (R328, R332). -/
def Dev.closeDone (d : Dev) : Dev :=
  let ended := d.pwr.forced.filter (fun op => op.todo.isEmpty)
  let d := { d with pwr.forced := d.pwr.forced.filter (fun op => !op.todo.isEmpty) }
  let d := ended.foldl (fun d (op : ShtOp) => d.ok op.cmd) d
  match d.pwr.cur with
  | none => d
  | some op =>
    match op.kind with
    | .openMask | .wake =>
      (match op.todo with
      | n :: _ => (match d.dom n with | .closed | .retained => d.openNext op false op.todo | _ => d)
      | [] => d)
    | _ =>
      if op.todo.isEmpty then
        let d := if op.kind = .doze then { d with pwr := { d.pwr with dozeCut := some d.now, dozeFrozen := none } } else d
        (d.dozeOver op).opEnd op stOk
      else d

/-- POWER_CUT (R328 to R331); a domain closed because its rail failed is reported (R327). -/
def Dev.powerCut (d : Dev) (n : Nat) : Dev :=
  match d.dom n with
  | .cutting retain _ =>
    let named := d.pwr.closers.any (fun op => op.closes n)
    let dozes : Bool := match d.pwr.cur with | some op => op.kind == .doze && op.closes n | none => false
    let d := (d.shut n (if retain then .retained else .closed)).domLost n retain
    let d := { d with pwr := (if dozes then { d.pwr with dozed := n :: d.pwr.dozed.filter (· != n) } else d.pwr).leave n }
    let d := if named then d else d.noteState 6 n 0
    d.closeDone
  | _ => d

/-- A mask of R557 with a reserved bit, or naming domain 0 or 1. -/
def badMask (m : Nat) : Bool := fld m 0 2 != 0 || fld m 10 5 != 0

/-- The domains that a mask names. -/
def maskDoms (m : Nat) : List Nat := onesOf 10 m

/-- An opening command ends DOZING (R383). -/
def Dev.undoze (d : Dev) : Dev := if d.sys.main = .dozing then d.setMain .ajar else d

/-- SHUTTER_OPEN (R324, R557). -/
def cmdShutterOpen (mask : Half) (c : Cmd) (d : Dev) : Dev :=
  let m := mask.toNat
  if badMask m || bitOf m 15 then d.refuse c stBadParam
  else
    let d := d.undoze
    if m = 0 then d.ok c else d.opAccept { cmd := c, kind := .openMask, todo := maskDoms m }

/-- A forced close overtakes the ordinary close that drains one of its domains (R343). -/
def Dev.overtakes (d : Dev) (ns : List Nat) : Bool :=
  match d.pwr.cur with
  | some op => (op.kind == .closeMask || op.kind == .doze) && ns.any (fun n => match d.dom n with | .draining .. => true | _ => false)
  | none => false

/-- The forced close's drains end on the tick of acceptance (R343); what is closed already is skipped. -/
def Dev.forceBegin (d : Dev) (op : ShtOp) : Dev :=
  let ns := op.todo.filter (fun n => match d.dom n with | .closed | .retained => false | _ => true)
  ns.foldl (fun d n => match d.dom n with
    | .opened => d.closeStart n false true
    | .draining .. => (d.setDom n (.draining false true)).drainEnd n 0 false 0
    | _ => d) { d with pwr.forced := d.pwr.forced ++ [{ op with todo := ns }] }

/-- SILL's opening is in progress (R342). -/
def Dev.sillOpening (d : Dev) : Bool := match d.dom 4 with | .waitRail | .opening _ => true | _ => false

/-- SHUTTER_CLOSE (R328, R329, R557). -/
def cmdShutterClose (mask : Half) (c : Cmd) (d : Dev) : Dev :=
  let m := mask.toNat
  let ns := maskDoms (m % 1024)
  if badMask m then d.refuse c stBadParam
  else if ns.isEmpty then d.ok c
  else if bitOf m 15 then
    let op : ShtOp := { cmd := c, kind := .force, todo := ns, fully := d.sillOpening }
    if d.overtakes ns then d.forceBegin op else d.opAccept op
  else d.opAccept { cmd := c, kind := .closeMask, todo := ns, fully := d.sillOpening }

/-- DOZE (R331, R383). -/
def cmdDoze (c : Cmd) (d : Dev) : Dev :=
  if !d.busySlots.isEmpty then d.refuse c stBusy
  else (d.setMain .dozing).opAccept { cmd := c, kind := .doze, todo := [3, 4, 5, 6, 7, 8, 9] }

/-- WAKE (R332, R347, R383). -/
def cmdWake (c : Cmd) (d : Dev) : Dev := d.undoze.opAccept { cmd := c, kind := .wake, todo := [] }

/-- CLOCK_CONFIG (R340, R557). -/
def cmdClockConfig (value : Byte) (c : Cmd) (d : Dev) : Dev :=
  if value.toNat > 3 then d.refuse c stBadParam else (d.setFld 0x10014 0 2 value.toNat).ok c

/-! ### MULLION and the RMII references (R323, R340) -/

/-- MULLION opens 20 microseconds after HINGE, which opens with frame time 0 (R323, R339). -/
def Dev.openMullion (d : Dev) : Dev :=
  if d.dom 0 == .opened && d.dom 1 == .closed && d.now ≥ 16000 then d.setDom 1 .opened else d

/-- The RMII reference is 1/16 of the core clock; on its falling edge an enable of CLK_CTRL, with DOOR open, takes effect
(R337, R340). -/
def Dev.refTick (d : Dev) : Dev :=
  if d.now % 16 = 8 then { d with pwr.refOn := if d.isLive 5 then d.fldAt 0x10014 0 2 else 0 } else d

/-- SLA_REFCLK (port 0) or SLB_REFCLK (port 1) is driven high (R340). -/
def Dev.refClk (d : Dev) (port : Nat) : Bool := bitOf d.pwr.refOn port && d.isLive 5 && d.clocked && d.now % 16 < 8

/-! ### Meanings -/

/-- SHUTTER_OPEN (R324, R557). -/
def execShutterOpen (h : CmdHdr) (mask : Half) (s : State) : Host.Outcome State Fault Refusal :=
  onDev s (Dev.hostCmd 0x10 (leBytes 2 mask.toNat) h (cmdShutterOpen mask))

/-- SHUTTER_CLOSE (R328). -/
def execShutterClose (h : CmdHdr) (mask : Half) (s : State) : Host.Outcome State Fault Refusal :=
  onDev s (Dev.hostCmd 0x11 (leBytes 2 mask.toNat) h (cmdShutterClose mask))

/-- SHUTTER_CLOSE with FORCE (R329, R343). -/
def execShutterCloseForce (h : CmdHdr) (mask : Half) (s : State) : Host.Outcome State Fault Refusal :=
  let m : Half := mask ||| 0x8000
  onDev s (Dev.hostCmd 0x11 (leBytes 2 m.toNat) h (cmdShutterClose m))

/-- DOZE (R331, R383). -/
def execDoze (h : CmdHdr) (s : State) : Host.Outcome State Fault Refusal := onDev s (Dev.hostCmd 0x12 [] h cmdDoze)

/-- WAKE (R332). -/
def execWake (h : CmdHdr) (s : State) : Host.Outcome State Fault Refusal := onDev s (Dev.hostCmd 0x13 [] h cmdWake)

/-- CLOCK_CONFIG (R340). -/
def execClockConfig (h : CmdHdr) (value : Byte) (s : State) : Host.Outcome State Fault Refusal :=
  onDev s (Dev.hostCmd 0x14 [value] h (cmdClockConfig value))

/-- SHUTTER_COMMAND_START (R324). -/
def execShutterCommandStart (s : State) : Host.Outcome State Fault Refusal := onDev s Dev.opNext

/-- CASEMENT_PAIR_START (R325). -/
def execCasementPairStart (n : Nat) (s : State) : Host.Outcome State Fault Refusal := onDev s (fun d => d.pairStart n)

/-- DOMAIN_OPEN_COMPLETE (R324, R325). -/
def execDomainOpenComplete (n : Nat) (s : State) : Host.Outcome State Fault Refusal := onDev s (fun d => d.openComplete n)

/-- RAIL_WAIT_TIMEOUT (R327). -/
def execRailWaitTimeout (s : State) : Host.Outcome State Fault Refusal := onDev s Dev.railTimeout

/-- RAIL_FAIL (R327). -/
def execRailFail (n : Nat) (s : State) : Host.Outcome State Fault Refusal := onAny s (fun d => d.railFail n)

/-- RAIL_GOOD (R327). -/
def execRailGood (afe cmp : Bool) (s : State) : Host.Outcome State Fault Refusal := onAny s (fun d => d.railGood afe cmp)

/-- QUADRANT_START (R325). -/
def execQuadrantStart (s : State) : Host.Outcome State Fault Refusal := onDev s Dev.quadStart

/-- DRAIN_END (R328, R341). -/
def execDrainEnd (n us : Nat) (expired : Bool) (nearMiss : Nat) (s : State) : Host.Outcome State Fault Refusal :=
  onDev s (fun d => d.drainEnd n us expired nearMiss)

/-- POWER_CUT (R328). -/
def execPowerCut (n : Nat) (s : State) : Host.Outcome State Fault Refusal := onDev s (fun d => d.powerCut n)

end Sys2Proof.Machine
end

