-- ==== Sys2Proof/Machine/Reset.lean ====
section
/-! DEFINITION. Reset, option load and failed starts (13_reset_and_failed_starts.md R349 to R377): requests and their
record, what each level clears, release, option load, DOORSTEP and the rows of the reset sources. -/
namespace Sys2Proof.Machine

/-- LEVEL of R359. -/
def RstLevel.code : RstLevel → Nat
  | .core => 0 | .sys => 1 | .por => 2 | .lintelPor => 3

/-- The level that a LEVEL parameter names (R350, R553). -/
def levelOf (v : Nat) : RstLevel := if v = 0 then .core else if v = 1 then .sys else .por

/-- The higher of two levels. -/
def RstLevel.max (a b : RstLevel) : RstLevel := if a.code < b.code then b else a

/-! ### What a reset clears (R353) -/

/-- The command has lost its reply: no route leads to STACK_ID 4, so none is sent (R542, R589). -/
def Cmd.lost (c : Cmd) : Cmd := { c with fromPort := some 4 }

/-- A reset cuts a commit (R437, R453): how far it had come is a free value. -/
def Dev.cutCommit (d : Dev) : Dev :=
  match d.jamb.commit with
  | none => d
  | some c =>
    let (n, d) := d.draw
    let k := Config.freeNat n % 5
    match c.owner with
    | .lock _ => if k = 4 then { d with jamb.lock := true } else d
    | _ =>
      if k = 0 then d.spoilPage 0
      else
        let d := { d with jamb := d.jamb.setPage 0 c.data }
        if k = 1 then { d with jamb.marker := .invalid }
        else if k = 2 then ({ d with jamb.marker := .valid c.page }).spoilPage c.page
        else if k = 3 then { d with jamb := { (d.jamb.setPage c.page c.data) with marker := .valid c.page } }
        else { d with jamb := { (d.jamb.setPage c.page c.data) with commits := d.jamb.commits + 1 } }

/-- LAST as a POR or SYSRST leaves it (R450): 4 when that reset loses an OPEN buffer, the one that a device commit saved
included. -/
def Dev.lastAfterReset (d : Dev) : Nat :=
  let saved := match d.jamb.commit with | some c => c.saved.isSome | none => false
  if d.jamb.buf.isSome || saved || (d.rst.asserted.isSome && d.jamb.last == 4) then 4 else 0

/-- The jamb controller, its buffer and its queues are cleared; the array, the control row and its lock stay (R353). -/
def Dev.clearJamb (d : Dev) : Dev :=
  let last := d.lastAfterReset
  let d := d.cutCommit
  { d with jamb := { JambState.reset with
      mem := d.jamb.mem, flips := d.jamb.flips, marker := d.jamb.marker, commits := d.jamb.commits, lock := d.jamb.lock
      last := last } }

/-- CORERST spares the jamb controller: its commit runs on without a reply, a saved host buffer and the hinge's waiting
program counts are lost (R353, R449, R450). -/
def Dev.spareJamb (d : Dev) : Dev :=
  let isLog := fun (j : DevJob) => match j with | .faultLog .. => true | _ => false
  let lose := fun (c : JCommit) =>
    { c with owner := (match c.owner with | .host _ => .host none | .lock _ => .lock none | o => o)
             saved := none, savedLost := c.saved.isSome }
  { d with jamb := { d.jamb with commit := d.jamb.commit.map lose, devQueue := d.jamb.devQueue.filter isLog } }

/-- A pane after a reset: conductances stay, everything else is as new (R32, R81, R353). -/
def paneCleared (opened : Bool) (v : Pane) : Pane :=
  { paneDefault 0 with cells := v.cells, st := if opened then .unverified else .shuttered }

/-- Every pane is UNVERIFIED; in a quadrant that is not open it stays SHUTTERED (R81, R353). -/
def Dev.clearPanes (d : Dev) : Dev :=
  (List.range 128).foldl (fun d p => d.updPane p (paneCleared (d.isOpen (quadOfPane p)))) d

/-- FRONT runs on through a CORERST; commands that waited for it are lost (R353, R320, R589). -/
def Dev.spareFront (d : Dev) : Dev :=
  let teds := fun (r : TedsReq) =>
    { r with reads := [], lifeCmds := [], writes := r.writes.map (fun (e : Cmd × Nat × List Byte) => (e.1.lost, e.2)) }
  let urgent := fun (u : Urgent) => { u with cmds := [] }
  { d with
    front := { d.front with
      teds := d.front.teds.map teds, tedsQueue := d.front.tedsQueue.map teds
      cals := d.front.cals.map (fun (c : CalCmd) => { c with cmd := c.cmd.lost }) }
    svy := { d.svy with
      urgents := d.svy.urgents.map urgent, serving := d.svy.serving.map urgent
      cal := d.svy.cal.map (fun (e : Cmd × Nat × Rat × Rat × Bool) => (e.1.lost, e.2)) } }

/-- Shutters stay as they stand; the command in progress completes without a reply, waiting ones are lost (R345, R589). -/
def Dev.sparePower (d : Dev) : Dev :=
  let lose := fun (o : ShtOp) => { o with cmd := o.cmd.lost }
  { d with pwr := { d.pwr with cur := d.pwr.cur.map lose, forced := d.pwr.forced.map lose, queue := [] } }

/-- DOOR's ports, forwarding table and offsets stay; the hinge's epochs, adjacency database and commands are lost (R353, R428). -/
def Dev.spareDoor (d : Dev) : Dev :=
  let drop := fun (p : SitePort) => { p with awaits := p.awaits.map (fun (w : SiteAwait) => { w with cmd := none }) }
  let d := [0, 1].foldl (fun d p => d.updSite p drop) d
  { d with
    stk := { d.stk with
      epoch := 0, inactive := [], committed := [], hbSteps := [], forwards := [], rstAwaits := [], recvd := [], formed := false }
    fab := { d.fab with db := [], conflicts := [], users := [], userDropped := 0, tableCmds := [] } }

/-- Every level ends BOLTED and clears counters, dumps and trace control; the TAP, the debug module and the latch points
stay; halted harts start again, and the hinge core is cleared with what a debugger wrote into it (R353, R513). -/
def Dev.spareDebug (d : Dev) : Dev :=
  let d := d.clearRegs 0xC0010 8
  { d with dbg := { d.dbg with
      bolted := false, quiet := false, ownCause := false, cause := 0, hart := 0, skipped := 0, dumps := [], counters := [],
      fifo := [], traceNext := 0, traceWrapped := false, traceFull := false, traceDropped := 0
      jtag := { d.dbg.jtag with halted := 0, hingeRegs := [], busy := false } } }

/-- What every level clears: the hinge with its queues, the host link, mullion, casements, storm, pane states, models, check
tables, sill descriptors and leases, challenges and sessions (R353). A burn of the seal is cut (R481). -/
def Dev.clearCore (d : Dev) : Dev :=
  let d := (((d.clearRegs 0 0x10000).clearRegs 0x80000 0x10000).clearRegs 0xA0000 0x10000).clearRegs 0x100000 0x20000
  let d := d.clearPanes.spareDebug
  let cut := match d.db.burning with | some (_, h) => some h | none => d.db.burnCut
  let d := { d with
    hl := .reset
    sys := { SysState.reset with ft := d.sys.ft, ftLatch := d.sys.ftLatch }
    db := { d.db with challenge := none, privileged := false, verifs := [], burning := none, burnCut := cut }
    pctl := .reset, csm := [], mul := .reset, mdl := .reset, storm := .reset, chk := .reset
    sill := { d.sill with descs := [], leases := [], held := [], lookups0 := [], lookups1 := [] } }
  (List.range 32).foldl (fun d c => if d.casUp c then d.grantsFor c else d) d

/-- What SYSRST clears beside: every domain loses power, HINGE and MULLION too until release (R323, R344); FRONT, DOOR, sill contents, the jamb controller, the tamper policy, the straps and
the reset registers but RST_CAUSE (R353). -/
def Dev.clearSys (d : Dev) : Dev :=
  let d := ((d.clearRegs 0x10000 0x100).clearRegs 0x10104 0xFEFC).clearJamb
  let d := ((d.clearRegs 0x30000 0x40000).clearRegs 0x90000 0x10000).clearRegs 0xB0000 0x10000
  { d with
    lin.policy := 0xA005
    rst := { d.rst with straps := 0, pllLock := false }
    pwr := { PowerState.reset with
      dom := [(0, .closed), (1, .closed)], afeGood := d.pwr.afeGood, cmpGood := d.pwr.cmpGood, pgmGood := d.pwr.pgmGood }
    sys.ftLatch := 0
    sill := .reset, front := .reset, svy := .reset, stk := .reset, fab := .reset }

/-- What POR clears beside: RST_CAUSE and the debug logic with the TAP; a sealed device has EXT_BOLT_EN 0 (R353, R505). -/
def Dev.clearPor (d : Dev) : Dev :=
  let d := (d.clearRegs 0x10100 4).clearRegs 0xC0000 0x10000
  let d := { d with dbg := { DebugState.reset with lineLow := d.dbg.lineLow } }
  if d.db.sealed then d.setFld 0xC0000 0 1 0 else d

/-- The lintel starts anew: keys, counter, history, alarm latch and registers (R353, R442); CLOCK is masked until the crystal
starts (R638). -/
def Dev.clearLintel (d : Dev) (fromVddio : Bool) : Dev :=
  { d.clearRegs 0x20000 0x10000 with lin := { LintelState.reset with fromVddio := fromVddio, clkMasked := true } }

/-- Everything of R353 that a level of the main supply's logic clears. -/
def Dev.clear (d : Dev) (l : RstLevel) : Dev :=
  match l with
  | .core => d.sparePower.spareFront.spareDoor.spareJamb.clearCore
  | .sys => d.clearSys.clearCore
  | .por | .lintelPor => d.clearSys.clearCore.clearPor

/-! ### Requests (R350 to R359) -/

/-- A history entry of R359. -/
def histEntry (cause level : Nat) (promoted : Bool) (rtc : Nat) : Nat :=
  cause + level * 16 + b2n promoted * 64 + rtc % 2 ^ 48 * 65536

/-- A recognised request is recorded: count, history and SEEN (R358, R359). -/
def Dev.recordReset (d : Dev) (cause : Nat) (level : RstLevel) (promoted : Bool) : Dev :=
  { d with lin := { d.lin with
      count := satInc 32 d.lin.count
      hist := (histEntry cause level.code promoted d.lin.rtc :: d.lin.hist).take 8 } }

/-- SEEN of RST_CAUSE has the bit of every cause of this reset. -/
def Dev.markSeen (d : Dev) : Dev := d.rst.causes.foldl (fun d e => d.setFld 0x10100 (15 + e.1) 1 1) d

/-- The level in force for this reset, counting option load (R356, R369). -/
def ResetState.level (r : ResetState) : Option RstLevel :=
  match r.asserted with
  | some l => some l
  | none => if r.optionLoad then some ((r.causes.map (·.2)).foldl RstLevel.max .core) else none

/-- A request is recognised (R354, R356, R358): every one of sources 1 to 9 is promoted on a sealed device; internal reset
asserts, or goes on at the higher of the two levels; option load and a start in progress end, and so does DOORSTEP with its
DOORSTEP_REASON (R365). -/
def Dev.requestReset (d : Dev) (cause : Nat) (level : RstLevel) : Dev :=
  let promoted := d.db.sealed && cause ≤ 9
  let lvl := if promoted then .por else level
  let applied := match d.rst.level with | some l => l.max lvl | none => lvl
  let fresh := d.rst.level.isNone
  let d := d.clear applied
  let d := { d with rst := { d.rst with
      asserted := some applied
      causes := (if fresh then [] else d.rst.causes) ++ [(cause, lvl)]
      promoted := (!fresh && d.rst.promoted) || promoted
      optionLoad := false, starting := false, hingeUp := false, hostPending := none
      rstoutLow := d.rst.rstoutLow || applied.code ≥ 1 }, lin := { d.lin with doorReason := 0 } }
  (d.recordReset cause applied promoted).markSeen

/-- A request from logic of the main supply: none is recognised in DARK (R379). -/
def Dev.request (d : Dev) (cause : Nat) (level : RstLevel) : Dev :=
  if d.rst.supplyLow then d else d.requestReset cause level

/-- A monitored rail falls: DARK, with a SUPPLY POR (R350, R379). -/
def Dev.supplyLoss (d : Dev) : Dev :=
  if d.rst.supplyLow then d
  else
    let d := d.requestReset 1 .por
    { d with rst := { d.rst with supplyLow := true }, sys := { d.sys with main := .dark } }

/-- RST_N low is recognised: a SYSRST request until it returns high, recorded once (R355, R358, R368). -/
def Dev.rstnLow (d : Dev) : Dev :=
  if d.rst.pinLow then d
  else
    let d := { d with rst := { d.rst with pinLow := true } }
    d.request 3 .sys

/-- The monitors release: the power-up is a SUPPLY request of its own, recorded unless it is that of a lintel POR (R350, R358;
DEDUCED, log entry 121); the device stays DARK until release, and a low on RST_N is recognised now (R617, R355). -/
def Dev.monitorRelease (d : Dev) : Dev :=
  if !d.rst.supplyLow then d
  else
    let d := { d with rst := { d.rst with supplyLow := false } }
    let d := if d.rst.asserted = some .lintelPor then d
      else { d.requestReset 1 .por with sys := { (d.requestReset 1 .por).sys with main := .dark } }
    if d.rst.pinLow then d.request 3 .sys else d

/-- The root PLL locks: it starts when the supplies are good, and after a loss of lock only a reset brings it back (R338). -/
def Dev.pllLocked (d : Dev) : Dev :=
  if d.rst.supplyLow || d.rst.asserted.isNone then d else { d with rst := { d.rst with pllLock := true } }

/-! ### Starts (R363 to R367) -/

/-- The start-failure record of R365. -/
def Dev.startFailRecord (d : Dev) : Nat :=
  d.lin.failCount + d.lin.reason0 * 4 + d.lin.reason1 * 32 + d.lin.reason2 * 256 + d.lin.doorReason * 2048

/-- The start fails: counted, its reason stored; every reason but WATCHDOG brings a SYSRST with cause START_FAIL (R365). -/
def Dev.startFail (d : Dev) (reason : Nat) : Dev :=
  let d := { d with
    rst := { d.rst with starting := false }
    lin := { d.lin with
      failCount := min 3 (d.lin.failCount + 1), reason0 := reason, reason1 := d.lin.reason0, reason2 := d.lin.reason1 } }
  if reason = 2 then d else d.request 9 .sys

/-- DOORSTEP is entered (R366). -/
def Dev.enterDoorstep (d : Dev) : Dev :=
  let d := { d with
    rst := { d.rst with starting := false }
    lin := { d.lin with
      doorReason := d.lin.reason0
      hist := match d.lin.hist with | e :: l => (if bitOf e 7 then e else e + 128) :: l | [] => [] }
    sys := { d.sys with doorstepNote := true } }
  d.setMain .doorstep

/-- The hinge starts at its ROM entry, or in DOORSTEP with three failed starts on record (R360, R366, R376). -/
def Dev.hingeStart (d : Dev) : Dev :=
  let d := { d with rst := { d.rst with hingeUp := true, causes := [] } }
  if d.lin.failCount ≥ 3 then d.enterDoorstep else d

/-- RST_CAUSE at release: the lowest cause that asked for the level applied (R350). -/
def Dev.writeRstCause (d : Dev) (l : RstLevel) : Dev :=
  let cs := (d.rst.causes.filter (fun e => e.2 == l)).map (·.1)
  let last := cs.foldl Nat.min (cs.headD 0)
  ((d.setFld 0x10100 0 4 last).setFld 0x10100 4 2 l.code).setFld 0x10100 6 1 (b2n d.rst.promoted)

/-- Internal reset releases (R338, R339, R356, R363, R379, R445): no request is active and the PLL has locked. WAKING is
entered, HINGE opens (R323) and a start begins. A partner that holds BOLT_IO low bolts the device again (R513). -/
def Dev.resetRelease (d : Dev) : Dev :=
  match d.rst.asserted with
  | none => d
  | some l =>
    if d.rst.pinLow || d.rst.supplyLow || !d.rst.pllLock || wbit d.dbg.jtag.dmcontrol 1 then d
    else
      let cold := l.code ≥ 1
      let d := d.writeRstCause l
      let d := if cold then { d with sys := { d.sys with ft := 0 } }.setDom 0 .opened else d
      let d := { d with
        sys := { d.sys with main := .waking, since := d.nowWord }
        lin := { d.lin with armed := if l.code ≥ 2 then false else d.lin.armed }
        rst := { d.rst with asserted := none, starting := true, optionLoad := cold } }
      let d := if cold then d else d.hingeStart
      if d.dbg.lineLow && d.bitAt 0xC0000 0 then d.boltNow 3 0 else d

/-! ### Option load (R360 to R362) -/

/-- Step 2: the interrupted commit is completed or rolled back (R437). The answer is OPT_STATUS.JOURNAL. -/
def JambState.recover (j : JambState) : Nat × JambState :=
  match j.marker with
  | .clear => (0, j)
  | .valid p => (1, { (j.setPage p (j.page 0)) with marker := .clear, commits := j.commits + 1 })
  | .invalid => (2, { j with marker := .clear, commits := j.commits + 1 })

/-- Groups corrected in pages 1 to 15 and the first uncorrectable page, 0 for none (R362). -/
def JambState.optionPages (j : JambState) : Nat × Nat :=
  let ps := (List.range 16).drop 1
  ((ps.map (fun p => j.corrected p 0 15)).foldl (· + ·) 0, ((ps.find? (fun p => j.ueMask p 0 15 != 0)).getD 0))

/-- The OPT_STATUS word. -/
def optStatus (trim : Bool) (journal corrected ue time : Nat) : Word :=
  BitVec.ofNat 32 (b2n trim + journal * 2 + min 255 corrected * 256 + ue * 65536 + min 255 time * 16777216)

/-- ROLE of a STACK_ID (R405): 0 the master, 1 the standby, 2 and 3 followers. -/
def roleOf (id : Nat) : Nat := min id 2

/-- Option load completes (R360, R362, R366): straps, journal, factory pages, OPT_STATUS; then RSTOUT_N is released and the
hinge starts, or the start fails. The fuses have been read. -/
def Dev.optionLoaded (d : Dev) (straps time : Nat) : Dev :=
  let (journal, j) := d.jamb.recover
  let (corr, ue) := j.optionPages
  let d := { d with
    jamb := { j with lockSeen := j.lock, jcount := min j.commits (2 ^ 32 - 1) }
    rst := { d.rst with straps := straps % 16, optionLoad := false } }
  let d := d.setReg 0x1010C (optStatus (ue == 0) journal corr ue time)
  let d := if d.db.sealed then d.setFld 0xC0000 0 1 0 else d
  if ue ≠ 0 && d.lin.failCount < 3 then { d with rst := { d.rst with causes := [] } }.startFail 3
  else
    let d := { d with
      rst := { d.rst with rstoutLow := false }
      stk := { d.stk with role := roleOf d.stackId } }
    let d := (d.setDom 1 .opened).hingeStart
    if d.stackId ≠ 0 && d.sys.main != .doorstep then d.openStart 5 else d

/-- OPTION_LOAD_COMPLETE, with the fuses as they are read (R360, R455, R481). -/
def optionLoadComplete (straps time : Nat) (s : State) : State :=
  if !s.dev.rst.optionLoad || !s.dev.clocked then s
  else
    let s := fusesRead s
    { s with dev := s.dev.optionLoaded straps time }

/-! ### Watchdog and deadline -/

/-- The hinge watchdog runs: not in reset, not while BOLTED or with hart 32 halted (R352, R491). -/
def Dev.hwdtRuns (d : Dev) : Bool :=
  d.rst.asserted.isNone && !d.rst.supplyLow && !d.dbg.bolted && !bitOf d.dbg.jtag.halted 32

/-- The hinge watchdog expires: a start before AJAR has failed, and SYSRST follows (R352, R364, R365). -/
def Dev.hwdtExpire (d : Dev) : Dev :=
  if !d.hwdtRuns then d
  else (if d.rst.starting then d.startFail 2 else d).request 5 .sys

/-- The 50 ms deadline expires: AJAR reached on that tick wins and is a near miss (R363, R364). -/
def Dev.ajarTimeout (d : Dev) (ajarThisTick : Bool) : Dev :=
  if ajarThisTick then d.satFld 0x10110 0 16
  else if d.rst.starting && !d.dbg.bolted then d.startFail 1
  else d

/-! ### Commands -/

/-- RESET (R351, R553): OK, and the reset begins once the reply has left. -/
def cmdReset (level : Byte) (c : Cmd) (d : Dev) : Dev :=
  if level.toNat > 2 then d.refuse c stBadParam
  else
    { d.ok c with rst := { (d.ok c).rst with hostPending := some (levelOf level.toNat) } }

/-- START_ABORT (R364, R553): the reply enters the stream before the SYSRST. -/
def cmdStartAbort (c : Cmd) (d : Dev) : Dev :=
  let d := d.ok c
  if d.rst.starting then d.startFail 4 else d

/-- DOORSTEP_RELEASE (R367). -/
def cmdDoorstepRelease (c : Cmd) (d : Dev) : Dev :=
  { d with lin := { d.lin with failCount := 0, reason0 := 0, reason1 := 0, reason2 := 0, doorReason := 0 } }.ok c

/-- The host's reset begins (R351). -/
def Dev.hostReset (d : Dev) : Dev :=
  match d.rst.hostPending with
  | some l => d.request 4 l
  | none => d

/-! ### Meanings -/

/-- RESET (R351). -/
def execReset (h : CmdHdr) (level : Byte) (s : State) : Host.Outcome State Fault Refusal :=
  onDev s (Dev.hostCmd 0x03 [level] h (cmdReset level))

/-- START_ABORT (R364). -/
def execStartAbort (h : CmdHdr) (s : State) : Host.Outcome State Fault Refusal := onDev s (Dev.hostCmd 0x04 [] h cmdStartAbort)

/-- DOORSTEP_RELEASE (R367). -/
def execDoorstepRelease (h : CmdHdr) (s : State) : Host.Outcome State Fault Refusal :=
  onDev s (Dev.hostCmd 0x05 [] h cmdDoorstepRelease)

/-- HOST_RESET (R351). -/
def execHostReset (s : State) : Host.Outcome State Fault Refusal := onAny s Dev.hostReset

/-- HWDT_KICK (R352): the count restarts, its time being the outside's; a kick on the tick of expiry is a near miss. -/
def execHwdtKick (onExpiryTick : Bool) (s : State) : Host.Outcome State Fault Refusal :=
  onDev s (fun d => if onExpiryTick && d.hwdtRuns then d.satFld 0x10110 16 16 else d)

/-- MAIN_SUPPLY_LOSS (R350, R379). -/
def execMainSupplyLoss (s : State) : Host.Outcome State Fault Refusal := onAny s Dev.supplyLoss

/-- BROWN_OUT (R350). -/
def execBrownOut (s : State) : Host.Outcome State Fault Refusal := onAny s (fun d => d.request 2 .por)

/-- MONITOR_RELEASE (R617). -/
def execMonitorRelease (s : State) : Host.Outcome State Fault Refusal := onAny s Dev.monitorRelease

/-- PLL_LOCK (R338). -/
def execPllLock (s : State) : Host.Outcome State Fault Refusal := onAny s Dev.pllLocked

/-- PLL_LOCK_LOSS (R338): the root is gated, so frame time stops and no command is taken. -/
def execPllLockLoss (s : State) : Host.Outcome State Fault Refusal :=
  onAny s (fun d => { d with rst := { d.rst with pllLock := false } })

/-- RST_N_LOW (R355). -/
def execRstNLow (s : State) : Host.Outcome State Fault Refusal := onAny s Dev.rstnLow

/-- RST_N_HIGH (R355). -/
def execRstNHigh (s : State) : Host.Outcome State Fault Refusal :=
  onAny s (fun d => { d with rst := { d.rst with pinLow := false } })

/-- RESET_STRETCH_END (R356). -/
def execResetStretchEnd (s : State) : Host.Outcome State Fault Refusal := onAny s Dev.resetRelease

/-- OPTION_LOAD_COMPLETE (R360). -/
def execOptionLoadComplete (straps time : Nat) (s : State) : Host.Outcome State Fault Refusal :=
  .next (optionLoadComplete straps time s)

/-- HWDT_EXPIRY (R352, R365). -/
def execHwdtExpiry (s : State) : Host.Outcome State Fault Refusal := onAny s Dev.hwdtExpire

/-- AJAR_TIMEOUT (R364). -/
def execAjarTimeout (ajarThisTick : Bool) (s : State) : Host.Outcome State Fault Refusal :=
  onAny s (fun d => d.ajarTimeout ajarThisTick)

/-- LINTEL_POR (R350, R377, R442): the lintel and everything else start anew; its own record is the one entry of R358, and
the SUPPLY request of that power-up, which is not recorded, is SEEN too. -/
def Dev.lintelPor (d : Dev) (fromVddio : Bool) : Dev :=
  let d := (d.clear .lintelPor).clearLintel fromVddio
  let d := { d with
    rst := { d.rst with
      asserted := some .lintelPor, causes := [(10, .lintelPor)], promoted := false, optionLoad := false, starting := false
      hingeUp := false, hostPending := none, rstoutLow := true }
    sys := { d.sys with main := if d.rst.supplyLow then .dark else d.sys.main } }
  d.markSeen.setFld 0x10100 16 1 1

/-- LINTEL_POR (R442). -/
def execLintelPor (fromVddio : Bool) (s : State) : Host.Outcome State Fault Refusal := onAny s (fun d => d.lintelPor fromVddio)

/-- SYS_RESET with value 01: where the instruction is allowed, CORERST with cause DEBUG (R484, R486). -/
def execSysResetCorerst (s : State) : Host.Outcome State Fault Refusal :=
  onAny s (fun d => if d.jtagOpen then (d.loadIr 0x22).request 6 .core else d.loadIr 0x22)

/-- SYS_RESET with value 10 (R484, R486). -/
def execSysResetSysrst (s : State) : Host.Outcome State Fault Refusal :=
  onAny s (fun d => if d.jtagOpen then (d.loadIr 0x22).request 6 .sys else d.loadIr 0x22)

/-- The master's RESET acts at its level (R350, R406). -/
def Dev.masterReset (d : Dev) (level : Byte) : Dev := if level.toNat ≤ 1 then d.request 7 (levelOf level.toNat) else d

/-- A RESET frame: in DOORSTEP, where R366 keeps DOOR closed, a follower takes it all the same (R376; DEDUCED, log entry 218). -/
def Dev.resetFrame (d : Dev) (f : StkHdr) (level : Byte) : Dev :=
  if d.sys.main = .doorstep && d.stackId ≠ 0 then d.masterReset level
  else d.stkRecv f 0xC 2 [level] (fun d => d.masterReset level)

/-- STACK_RESET: a RESET frame for this device (R400, R406). -/
def execStackReset (f : StkHdr) (level : Byte) (s : State) : Host.Outcome State Fault Refusal :=
  onDev s (fun d => d.resetFrame f level)

end Sys2Proof.Machine
end

