-- ==== Sys2Proof/Machine/Lintel.lean ====
section
/-! DEFINITION. The lintel's clock and wake logic (16_jamb_and_lintel.md R442 to R445, R638) and tamper events
(17_deadbolt.md R469 to R476). -/
namespace Sys2Proof.Machine

/-! ### Real-time counter and wake -/

/-- A register read puts its word on the register bus (R9). -/
def Dev.onBus (d : Dev) (w : Word) : Dev := { d with sys := { d.sys with busData := w } }

/-- A read of RTC_LO latches RTC_HI (R444). -/
def Dev.latchRtc (d : Dev) : Dev := { d with lin := { d.lin with rtcLatch := d.lin.rtc / 2 ^ 32 } }

/-- The value of RTC_LO. -/
def Dev.rtcLo (d : Dev) : Word := BitVec.ofNat 32 d.lin.rtc

/-- A write to ALARM_HI arms the alarm (R445). -/
def Dev.writeAlarmHi (d : Dev) (v : Word) : Dev :=
  let d := d.regWritePlain 0x20010 v
  { d with lin := { d.lin with armed := true } }

/-- A write of 1 to WAKE.ALARM (R445). -/
def Dev.clearWakeAlarm (d : Dev) : Dev := { d with lin := { d.lin with wakeAlarm := false } }

/-- A write of 1 to WAKE.EXT (W1C). -/
def Dev.clearWakeExt (d : Dev) : Dev := { d with lin := { d.lin with wakeExt := false } }

/-- A write of 1 to WAKE.DISARM (R445). -/
def Dev.disarm (d : Dev) : Dev := { d with lin := { d.lin with armed := false } }

/-- The 48-bit alarm value (R445). -/
def Dev.alarmAt (d : Dev) : Nat := (d.reg 0x2000C).toNat + d.fldAt 0x20010 0 16 * 2 ^ 32

/-- The counter equals or passes the armed value: WAKE.ALARM is set and the alarm disarms (R445). -/
def Dev.wakeAlarm (d : Dev) : Dev :=
  if d.lin.armed && d.alarmAt ≤ d.lin.rtc then { d with lin := { d.lin with wakeAlarm := true, armed := false } } else d

/-! ### Tamper (R469 to R476) -/

/-- A tamper-log entry (DB_TLOGk). -/
def tlogEntry (source policy : Nat) (erased dark : Bool) (rtc : Nat) : Nat :=
  source + policy * 8 + b2n erased * 32 + b2n dark * 64 + rtc % 2 ^ 48 * 65536

/-- The sources that have become active: not CLOCK while it is masked, not GLITCH while the supply is absent (R469, R638). -/
def Dev.tamperNew (d : Dev) (active : Nat) : List Nat :=
  (onesOf 8 active).filter (fun s => !bitOf d.lin.active s && !(s == 5 && d.lin.clkMasked) && !(s == 7 && d.rst.supplyLow))

/-- Events are logged in ascending source number (R473). -/
def Dev.logTamper (d : Dev) (news : List Nat) (erased : Bool) : Dev :=
  news.foldl (fun d s =>
    let e := tlogEntry s (policyOf d.lin.policy s) erased d.rst.supplyLow d.lin.rtc
    { d with lin := { d.lin with
        tlog := (e :: d.lin.tlog).take 4, evCount := satInc 16 d.lin.evCount, unreported := d.lin.unreported + 1 } }) d

/-- NOTE_ALARM with the unreported entries, oldest first, while the host link is up (R473, R530). -/
def Dev.noteAlarm (d : Dev) : Dev :=
  if !d.hl.ready || d.lin.unreported = 0 then d
  else
    let es := (d.lin.tlog.take (min 4 d.lin.unreported)).reverse
    let d := { d with lin := { d.lin with unreported := 0 } }
    d.note 7 ((es.map (leBytes 8)).flatten) true

/-- The whole key store is zeroed (R470, R472); verifications in progress fail (R480). -/
def Dev.eraseKeys (d : Dev) : Dev :=
  { d with
    lin := { d.lin with keys := [], erased := true }
    db := { d.db with verifs := d.db.verifs.map (fun (v : Verify) => { v with digest := [] }) } }

/-- The alarm latch is set by sources whose policy is ALARM or above: the session ends, and STATE_CHANGE follows where the
overlay is new (R467, R474). -/
def Dev.setAlarm (d : Dev) (sources : List Nat) : Dev :=
  let was := d.lin.alarm
  let d := { d with
    lin := { d.lin with alarm := true, latched := maskOfList (onesOf 8 d.lin.latched ++ sources) }
    db := { d.db with privileged := false } }
  if was then d else d.stateChanged

/-- Tamper events act under the highest policy among them, once (R470 to R476). -/
def Dev.tamper (d : Dev) (active : Nat) : Dev :=
  let news := d.tamperNew active
  let pol := (news.map (policyOf d.lin.policy)).foldl Nat.max 0
  let grave := news.filter (fun s => policyOf d.lin.policy s ≥ 1)
  let d := d.logTamper news (pol ≥ 2)
  let d := { d with lin := { d.lin with active := active % 256, clkOk := d.lin.clkMasked || !bitOf active 5 } }
  let d := if pol ≥ 2 then d.eraseKeys else d
  let d := if pol ≥ 1 then (d.setAlarm grave).sendAlarm pol else d
  let d := d.noteAlarm
  if pol ≥ 3 then d.request 8 .por else d

/-! ### Meanings -/

/-- RTC_LO_READ (R444). -/
def execRtcLoRead (s : State) : Host.Outcome State Fault Refusal := onDev s (fun d => d.latchRtc.onBus d.rtcLo)

/-- ALARM_HI_WRITE (R445). -/
def execAlarmHiWrite (value : Word) (s : State) : Host.Outcome State Fault Refusal := onDev s (fun d => d.writeAlarmHi value)

/-- WAKE_ALARM_CLEAR (R445). -/
def execWakeAlarmClear (s : State) : Host.Outcome State Fault Refusal := onDev s Dev.clearWakeAlarm

/-- WAKE_DISARM (R445). -/
def execWakeDisarm (s : State) : Host.Outcome State Fault Refusal := onDev s Dev.disarm

/-- EXTERNAL_WAKE (R445, R451). -/
def execExternalWake (s : State) : Host.Outcome State Fault Refusal :=
  onAny s (fun d => { d with lin := { d.lin with wakeExt := true } })

/-- WAKE_ALARM (R445). -/
def execWakeAlarm (s : State) : Host.Outcome State Fault Refusal := onAny s Dev.wakeAlarm

/-- LINTEL_SUPPLY_SWITCH (R442): no state is lost; LIN_STATUS shows the supply in use and whether VBAT is good. -/
def execLintelSupplySwitch (supply : LintelSupply) (s : State) : Host.Outcome State Fault Refusal :=
  onAny s (fun d => { d with lin := { d.lin with fromVddio := supply.toVddio, vbatOk := supply.vbatOk } })

/-- LINTEL_CRYSTAL_START (R443, R638). -/
def execLintelCrystalStart (s : State) : Host.Outcome State Fault Refusal :=
  onAny s (fun d => { d with lin := { d.lin with clkMasked := false, clkOk := true } })

/-- TAMPER_EVENT (R469, R470). -/
def execTamperEvent (active : Byte) (s : State) : Host.Outcome State Fault Refusal := onAny s (fun d => d.tamper active.toNat)

end Sys2Proof.Machine
end

