-- ==== Sys2Proof/Machine/Survey.lean ====
section
/-! DEFINITION. The survey converter's commands and events (11_survey.md). -/
namespace Sys2Proof.Machine

/-! ### Codes (R297, R301, R312) -/

/-- The largest code of a result. -/
def svyMax : Int := 2097151

/-- The unclamped code of a density of `packets` in `periods` (R297); with n0 = nr the spec states none and it is free. -/
def Dev.densityCode (d : Dev) (packets periods : Nat) : Int × Dev :=
  let n0 := d.fldAt 0x40010 0 24
  let nr := d.fldAt 0x40014 0 24
  if n0 = nr then
    let (n, d) := d.draw
    (sxt 32 (Config.freeWord n).toNat, d)
  else
    let n : Rat := (packets : Rat) / (periods : Rat) - (n0 : Rat) / 16777216
    (roundAway (1048576 * n / ((((nr : Int) - (n0 : Int) : Int) : Rat) / 16777216)), d)

/-- A result word in the SVY_LASTc layout, NEW set. -/
def resultWord (ch : Nat) (code : Int) (ovr taint uncal : Bool) : Word :=
  BitVec.ofNat 32 (tc 22 code + b2n ovr * 2 ^ 22 + b2n taint * 2 ^ 23 + b2n uncal * 2 ^ 24 + 2 ^ 25 + ch * 2 ^ 26)

/-- A result as it is written (R299). -/
structure SvyResult where
  ch : Nat
  code : Int
  ovr : Bool
  taint : Bool
  uncal : Bool
  start : Nat
  first : Nat

/-- A result is written to SVY_LASTc, and to a slot, with its end time; channel 47 is checked (R298), and supervision and
the ledger get theirs (R299). -/
def Dev.svyResult (d : Dev) (r : SvyResult) (slot : Option Nat) : Dev :=
  let w := resultWord r.ch r.code r.ovr r.taint r.uncal
  let put := fun (d : Dev) (a : Nat) => (d.setReg a w).setReg (a + 4) d.nowWord
  let d := put d (0x40300 + 8 * r.ch)
  let d := match slot with | some k => put d (0x40200 + 8 * k) | none => d
  let now := d.now
  let d := { d with svy.lastAt := d.svy.lastAt.filter (fun (e : Nat × Nat) => e.1 != r.ch) ++ [(r.ch, now)] }
  let d := if r.ch = 47 && !r.ovr && !r.taint && !r.uncal && (r.code > 1048576 + 5243 || r.code < 1048576 - 5243) then
      (d.setFld aSvyStatus 4 1 1).faultLog 5 0 0 (tc 32 r.code)
    else d
  (d.readTemp r.ch).superviseResult r.ch r.code r.ovr r.start r.first

/-- A conversion of the sequence ends (R301): it joins the running result, which is written when it has 2^AVG conversions;
after the entry's last result the next entry starts. -/
def Dev.seqConversion (d : Dev) (c : Conv) (code : Int) (ovr : Bool) : Dev :=
  match d.svy.latched with
  | none => d
  | some w =>
    let v := d.svy
    let avg := wfld w 20 4
    let sum := v.sum + code
    let n := v.summed + 1
    let ovr := v.sumOvr || ovr
    let taint := v.sumTaint || c.taint
    if n < 2 ^ avg then
      ({ d with svy := { v with summed := n, sum := sum, sumOvr := ovr, sumTaint := taint } }).convStart .seq c.ch (wfld w 29 2) v.entry
    else
      let r : SvyResult := { ch := c.ch, code := roundAway ((sum : Rat) / ((2 ^ avg : Nat) : Rat)), ovr := ovr, taint := taint,
                             uncal := v.sumUncal, start := v.sumStart, first := v.sumNo }
      let done := v.results + 1
      let d := { d with svy := { v with summed := 0, sum := 0, sumOvr := false, sumTaint := false, results := done } }
      if done ≤ wfld w 6 4 then
        (d.convStart .seq c.ch (wfld w 29 2) v.entry).svyResult r (some (wfld w 24 5))
      else
        (d.takeEntry (seqFrom (v.entry + 1) d.seqLen)).svyResult r (some (wfld w 24 5))

/-- A calibration's conversion ends (R310, R311, R321): four of the shorted input, four of the reference. -/
def Dev.calConversion (d : Dev) (c : Conv) (packets : Nat) : Dev :=
  match d.svy.cal with
  | none => d
  | some (cmd, n, s0, sr, mixed) =>
    let q : Rat := (packets : Rat) / (svyPeriods c.period d.svy.hz60 : Rat)
    let s0 := if n < 4 then s0 + q else s0
    let sr := if n < 4 then sr else sr + q
    if n + 1 < 8 then { d with svy.cal := some (cmd, n + 1, s0, sr, mixed) }.svyPump
    else
      let mean := fun (x : Rat) => (clampI 0 0xFFFFFF (roundR (x / 4 * 16777216))).toNat
      let d := (d.setFld 0x40010 0 24 (mean s0)).setFld 0x40014 0 24 (mean sr)
      let d := { d with svy := { d.svy with cal := none, uncal := d.svy.uncal && mixed } }
      (d.ok cmd).svyPump

/-- An integration ends with `packets` charge packets (R295, R297, R312). -/
def Dev.conversionEnd (d : Dev) (packets : Nat) (overload : Bool) : Dev :=
  match d.svy.conv with
  | none => d
  | some c =>
    let d := { d with svy.conv := none }
    if c.what == .cal then { d with svy.last := none }.calConversion c packets
    else
      let (raw, d) := d.densityCode packets (svyPeriods c.period d.svy.hz60)
      let code := clampI (-svyMax) svyMax raw
      let ovr := overload || raw > svyMax || raw < -svyMax
      let r : SvyResult := { ch := c.ch, code := code, ovr := ovr, taint := c.taint, uncal := c.uncal, start := c.start, first := c.no }
      match c.what with
      | .urgent =>
        let cmds := match d.svy.serving with | some u => u.cmds | none => []
        let d := { d with svy := { d.svy with serving := none, last := some (48, c.ch, ovr) } }
        let d := d.svyPump.svyResult r none
        let data := wordBytes (resultWord r.ch r.code r.ovr r.taint r.uncal) ++ wordBytes d.nowWord
        cmds.foldl (fun d cmd => d.reply cmd stOk data) d
      | .single =>
        let d := { d with svy := { d.svy with single := false, last := some (48, c.ch, ovr) } }
        ((d.setFld aSvyCtrl 16 1 0).svyPump).svyResult r none
      | _ => { d with svy.last := some (d.svy.entry, c.ch, ovr) }.seqConversion c code ovr

/-- A pre-delay ends: the entry's first conversion begins (R301). -/
def Dev.predelayEnd (d : Dev) : Dev :=
  match d.svy.latched with
  | none => d
  | some w => if d.svy.predelay then d.convStart .seq (wfld w 0 6) (wfld w 29 2) d.svy.entry else d

/-! ### Commands and register writes -/

/-- A sequence entry's word is in range (R303, R549). -/
def entryOk (w : Word) : Bool := wfld w 0 6 ≤ 47 && wfld w 20 4 ≤ 8 && wfld w 29 2 ≤ 2 && !wbit w 31

/-- SURVEY_SEQ (R303, R569). -/
def cmdSurveySeq (flags first count length : Byte) (entries : List Word) (c : Cmd) (d : Dev) : Dev :=
  let f := first.toNat
  let n := count.toNat
  if entries.length ≠ n then d.refuse c stBadLength
  else if flags.toNat > 1 || f > 31 || f + n > 32 || length.toNat > 32 || !entries.all entryOk then d.refuse c stBadParam
  else if !d.isOpen 2 then d.refuse c stPartnerGone
  else
    let d := (entries.zip (List.range n)).foldl (fun d (e : Word × Nat) => d.setReg (0x40100 + 4 * (f + e.2)) e.1) d
    let d := if length.toNat = 0 then d else d.setFld 0x40008 0 6 length.toNat
    let d := if bitOf flags.toNat 0 then
        let d := d.svyAbandon
        { d with svy := { d.svy with latched := none, entry := 0, results := 0 } }
      else d
    (d.svyPump).ok c

/-- SURVEY_URGENT (R306, R308). -/
def cmdSurveyUrgent (channel : Byte) (c : Cmd) (d : Dev) : Dev :=
  if channel.toNat > 47 then d.refuse c stBadParam
  else if !d.isOpen 2 then d.refuse c stPartnerGone
  else d.urgentRequest channel.toNat [c]

/-- SURVEY_CAL (R310, R317). -/
def cmdSurveyCal (c : Cmd) (d : Dev) : Dev :=
  if !d.isOpen 2 then d.refuse c stPartnerGone
  else if d.svy.cal.isSome then d.refuse c stBusy
  else { d.svyAbandon with svy.cal := some (c, 0, 0, 0, false) }.svyPump

/-- A write of 1 to SINGLE_GO (R304): in single mode, and while it reads 0. -/
def Dev.singleGo (d : Dev) : Dev :=
  if d.fldAt aSvyCtrl 0 2 = 2 && !d.svy.single then
    ({ (d.setFld aSvyCtrl 16 1 1) with svy.single := true }).svyPump
  else d

/-- A write to MODE (R305): a change abandons the running sequence or single conversion; a single one is lost. -/
def Dev.writeSvyMode (d : Dev) (mode : Nat) : Dev :=
  let m := if mode % 4 = 3 then 0 else mode % 4
  if m = d.fldAt aSvyCtrl 0 2 then d
  else
    let d := (d.svyAbandon.svyRerun.setFld aSvyCtrl 0 2 m).setFld aSvyCtrl 16 1 0
    ({ d with svy.single := false }).svyPump

/-- A write to SVY_CTRL (R296, R304, R305, R309). -/
def Dev.writeSvyCtrl (d : Dev) (v : Word) : Dev :=
  let old := d.reg aSvyCtrl
  let w := regAfter aSvyCtrl old (v &&& 0xFFFEFFFF)
  let d := d.setReg aSvyCtrl (wset w 0 2 (wfld old 0 2))
  let d := d.writeSvyMode (wfld v 0 2)
  if wbit v 16 then d.singleGo else d

/-- A write to SVY_CALREF (R311): nr, and UNCAL is cleared. -/
def Dev.writeCalRef (d : Dev) (v : Word) : Dev := { (d.setFld 0x40014 0 24 v.toNat) with svy.uncal := false }

/-- A read of SVY_SLOTk or SVY_LASTc latches its time register until that is read (R300). -/
def Dev.readSvyResult (d : Dev) (a : Nat) : Word × Dev :=
  let t := d.reg (a + 4)
  (d.reg a, { d with svy.latches := (a + 4, t) :: d.svy.latches.filter (fun (e : Nat × Word) => e.1 != a + 4) })

/-- A read of a time register: the latched word if there is one, which it releases (R300). -/
def Dev.readSvyTime (d : Dev) (a : Nat) : Word × Dev :=
  match d.svy.latches.find? (fun e => e.1 == a) with
  | some (_, t) => (t, { d with svy.latches := d.svy.latches.filter (fun (e : Nat × Word) => e.1 != a) })
  | none => (d.reg a, d)

/-- The value that a read puts on the register bus. -/
def Dev.putBus (r : Word × Dev) : Dev := { r.2 with sys.busData := r.1 }

/-! ### Meanings -/

/-- SURVEY_SEQ (R303). -/
def execSurveySeq (h : CmdHdr) (flags first length : Byte) (entries : List Word) (s : State) : Host.Outcome State Fault Refusal :=
  let count := BitVec.ofNat 8 entries.length
  onDev s (Dev.hostCmd 0x55 ([flags, first, count, length] ++ (entries.map wordBytes).flatten) h
    (cmdSurveySeq flags first count length entries))

/-- SURVEY_URGENT (R308). -/
def execSurveyUrgent (h : CmdHdr) (channel : Byte) (s : State) : Host.Outcome State Fault Refusal :=
  onDev s (Dev.hostCmd 0x56 [channel] h (cmdSurveyUrgent channel))

/-- SURVEY_CAL (R310). -/
def execSurveyCal (h : CmdHdr) (s : State) : Host.Outcome State Fault Refusal := onDev s (Dev.hostCmd 0x57 [] h cmdSurveyCal)

/-- SINGLE_GO (R304). -/
def execSingleGo (s : State) : Host.Outcome State Fault Refusal := onDev s (fun d => d.frontEvent 0 (fun d => d.singleGo))

/-- SVY_MODE_WRITE (R305). -/
def execSvyModeWrite (mode : Nat) (s : State) : Host.Outcome State Fault Refusal :=
  onDev s (fun d => d.frontEvent 0 (fun d => d.writeSvyMode mode))

/-- SVY_MAINS_WRITE (R296): a value of 3 stores 0; it takes effect at the next conversion start. -/
def execSvyMainsWrite (mains : Nat) (s : State) : Host.Outcome State Fault Refusal :=
  onDev s (fun d => d.frontEvent 0 (fun d => d.setFld aSvyCtrl 2 2 (if mains % 4 = 3 then 0 else mains % 4)))

/-- SVY_LOWPWR_WRITE (R309): it takes effect at the next conversion start. -/
def execSvyLowpwrWrite (on : Bool) (s : State) : Host.Outcome State Fault Refusal :=
  onDev s (fun d => d.frontEvent 0 (fun d => d.setFld aSvyCtrl 4 1 (b2n on)))

/-- SVY_CALREF_WRITE (R311). -/
def execSvyCalrefWrite (value : Word) (s : State) : Host.Outcome State Fault Refusal :=
  onDev s (fun d => d.frontEvent 0 (fun d => d.writeCalRef value))

/-- SVY_RESULT_READ (R300): of SVY_LASTk, or of SVY_SLOTk. -/
def execSvyResultRead (last : Bool) (k : Nat) (s : State) : Host.Outcome State Fault Refusal :=
  onDev s (fun d =>
    if k < (if last then 48 else 32) then d.frontEvent 0 (fun d => Dev.putBus (d.readSvyResult ((if last then 0x40300 else 0x40200) + 8 * k)))
    else d)

/-- SURVEY_CONVERSION_END (R295). -/
def execSurveyConversionEnd (packets : Nat) (overload : Bool) (s : State) : Host.Outcome State Fault Refusal :=
  onDev s (fun d => d.frontEvent 0 (fun d => d.conversionEnd packets overload))

/-- SURVEY_PREDELAY_END (R301). -/
def execSurveyPredelayEnd (s : State) : Host.Outcome State Fault Refusal :=
  onDev s (fun d => d.frontEvent 0 (fun d => d.predelayEnd))

end Sys2Proof.Machine
end

