-- ==== Sys2Proof/Machine/System.lean ====
section
/-! DEFINITION. System commands (20_command_reference.md R552 to R555), hinge patches, and the end of a signature's
verification (R461, R480). -/
namespace Sys2Proof.Machine

/-! ### NOP, IDENTIFY, GET_STATE (R552) -/

/-- NOP. -/
def cmdNop (c : Cmd) (d : Dev) : Dev := d.ok c

/-- IDENTIFY's 24 bytes (R552). The part's constants leave whatever the factory pages hold, an uncorrectable identity page at
option load (R362) included (DESIGN CHOICE, log entry 203). -/
def Dev.identity (d : Dev) : List Byte :=
  leBytes 1 (b2n Config.partT) ++ leBytes 1 (b2n Config.gradeIndustrial) ++ leBytes 1 Config.silicon.toNat
    ++ leBytes 1 (d.stackId + b2n (bitOf d.rst.straps 0) * 4 + b2n d.db.sealed * 8)
    ++ uidBytes ++ leBytes 4 Config.romVersion.toNat ++ leBytes 4 d.sys.patch.version.toNat

def cmdIdentify (c : Cmd) (d : Dev) : Dev := d.reply c stOk d.identity

/-- GET_STATE: the state word and DEV_SINCE. -/
def cmdGetState (c : Cmd) (d : Dev) : Dev := d.reply c stOk (leBytes 4 d.stateWord ++ leBytes 4 d.sys.since.toNat)

/-! ### Patches (R554, R555) -/

/-- SIZE of a patch whose first bytes are here; none before byte 8 (R555). -/
def patchSize (b : List Byte) : Option Nat := if b.length < 8 then none else some (uAt b 4 4)

/-- The checks of R554 on a whole patch. -/
def patchValid (b : List Byte) : Bool :=
  let size := uAt b 4 4
  let entry := uAt b 0x10 4
  uAt b 0 2 == 0x4850 && uAt b 2 1 == 1 && uAt b 3 1 == 0 && 256 ≤ size && size ≤ 65536 && size % 4 == 0 && b.length == size
    && uAt b 8 4 == Config.romVersion.toNat && uAt b 0xC 4 != 0
    && 0x100 ≤ entry && entry < size && entry % 2 == 0 && allZero (bytesAt b 0x14 100)
    && uAt b 0x78 4 == crc32 (b.drop 0x100) && uAt b 0x7C 4 == crc32 (b.take 0x7C)

/-- The patch is accepted: its body is copied to the patch area and started, and the last packet replies (R555). -/
def Dev.applyPatch (d : Dev) (b : List Byte) (c : Cmd) : Dev :=
  { d with sys := { d.sys with patch :=
      { staged := [], verifying := none, version := BitVec.ofNat 32 (uAt b 0xC 4), area := b.drop 0x100 } } }.ok c

/-- The whole patch is refused: the firmware in force stays (R555). -/
def Dev.dropPatch (d : Dev) (c : Cmd) (st : Byte) : Dev :=
  { d with sys := { d.sys with patch := { d.sys.patch with staged := [], verifying := none } } }.refuse c st

/-- The packet that completes SIZE (R555, R463). -/
def Dev.patchComplete (d : Dev) (b : List Byte) (c : Cmd) : Dev :=
  if !patchValid b then d.dropPatch c stBadImage
  else
    match d.judgeAuth (bytesAt b 0x80 128) with
    | .accept => d.applyPatch b c
    | .refuse st => d.dropPatch c st
    | .verify =>
      { d with sys := { d.sys with patch := { d.sys.patch with staged := b, verifying := some c } } }.startVerify
        { cmd := c, purpose := .patch, digest := objectDigest b, sig := objectSig b }

/-- PATCH_LOAD (R555). -/
def cmdPatchLoad (offset : Word) (data : List Byte) (c : Cmd) (d : Dev) : Dev :=
  let b := if offset = 0 then data else d.sys.patch.staged ++ data
  if data.length < 1 || data.length > 4092 then d.refuse c stBadLength
  else if offset ≠ 0 && offset.toNat ≠ d.sys.patch.staged.length then d.refuse c stBadParam
  else
    match patchSize b with
    | none => { d with sys := { d.sys with patch := { d.sys.patch with staged := b } } }.ok c
    | some n =>
      if b.length > n then d.refuse c stBadParam
      else if b.length = n then d.patchComplete b c
      else { d with sys := { d.sys with patch := { d.sys.patch with staged := b } } }.ok c

/-! ### The end of a verification (R461) -/

/-- A PRIVILEGE answer is right: the session opens (R467), unless ALARM has come meanwhile (R480). -/
def Dev.openSession (d : Dev) (c : Cmd) : Dev :=
  if d.inAlarm then d.refuse c stSecurityDenied else { d with db := { d.db with privileged := true } }.ok c

/-- The outcome of a verification reaches what waits for it (R160, R461, R467, R477, R555). -/
def Dev.verified (d : Dev) (v : Verify) : Dev :=
  match v.purpose, d.verifyStatus v with
  | .container i, none => d.loadAccept i v.cmd
  | .container i, some st => d.loadFail i v.cmd st
  | .patch, none => d.applyPatch d.sys.patch.staged v.cmd
  | .patch, some st => d.dropPatch v.cmd st
  | .alarmClear, none => d.finishAlarmClear v.cmd
  | .alarmClear, some st => d.refuse v.cmd st
  | .privilege, none => d.openSession v.cmd
  | .privilege, some st => d.refuse v.cmd st

/-- The verification that began first ends. -/
def Dev.verifyEnd (d : Dev) : Dev :=
  match d.db.verifs with
  | [] => d
  | v :: l => { d with db := { d.db with verifs := l } }.verified v

/-! ### Meanings -/

/-- NOP (R552). -/
def execNop (h : CmdHdr) (s : State) : Host.Outcome State Fault Refusal := onDev s (Dev.hostCmd 0x00 [] h cmdNop)

/-- IDENTIFY (R552). -/
def execIdentify (h : CmdHdr) (s : State) : Host.Outcome State Fault Refusal := onDev s (Dev.hostCmd 0x01 [] h cmdIdentify)

/-- GET_STATE (R552). -/
def execGetState (h : CmdHdr) (s : State) : Host.Outcome State Fault Refusal := onDev s (Dev.hostCmd 0x02 [] h cmdGetState)

/-- PATCH_LOAD (R555). -/
def execPatchLoad (h : CmdHdr) (offset : Word) (data : List Byte) (s : State) : Host.Outcome State Fault Refusal :=
  onDev s (Dev.hostCmd 0x06 (leBytes 4 offset.toNat ++ data) h (cmdPatchLoad offset data))

/-- VERIFICATION_COMPLETE (R461). -/
def execVerificationComplete (s : State) : Host.Outcome State Fault Refusal := onDev s Dev.verifyEnd

end Sys2Proof.Machine
end

