-- ==== Sys2Proof/Machine/RegBus.lean ====
section
/-! DEFINITION. The register bus (00_scope.md R9 to R16): what each register reads, what a write does beyond its access code,
and the accesses by command (R556), by message (R128) and by the rows that name a read. -/
namespace Sys2Proof.Machine

/-! ### Addresses (R13, R15) -/

/-- The address belongs to a casement's register block. -/
def inCsm (a : Nat) : Bool := 0x100000 ≤ a && a < 0x120000

/-- Casement of an address in a casement block. -/
def csmOf (a : Nat) : Nat := (a - 0x100000) / 0x1000

/-- An aligned word in a range of the table of 00_scope.md: a register block or a sill window (R13). -/
def regMapped (a : Nat) : Bool :=
  a % 4 == 0 && (a < 0x70000 || (0x80000 ≤ a && a < 0xE0000) || inCsm a || inWindow a 4)

/-- The power domain of a mapped address (R15). -/
def regDomain (a : Nat) : Nat :=
  if inCsm a then quadOf (csmOf a)
  else if a ≥ 0x1000000 then 4
  else
    let b := a / 0x10000
    if 4 ≤ b ∧ b ≤ 6 then 2 else if b = 8 then 3 else if b = 9 then 4 else if b = 0xA then 1 else if b = 0xB then 5 else 0

/-- The register's domain is open (R15, R16). -/
def Dev.regOpen (d : Dev) (a : Nat) : Bool := d.isOpen (regDomain a)

/-! ### What registers read -/

/-- A word from fields. -/
def wordOf (n : Nat) : Word := BitVec.ofNat 32 n

/-- CORE of CSM_STATUS. -/
def CoreSt.code : CoreSt → Nat
  | .halted => 0 | .running => 1 | .fenced => 2 | .failed => 3

/-- Stalled in a custom instruction (CSM_STATUS.WAITING). -/
def CoreWait.custom? : CoreWait → Bool
  | .custom => true | .recv => true | _ => false

/-- Busy RSP slots. -/
def Casement.busySlots (k : Casement) : List Nat := (List.range 16).filter (fun s => (k.rspAt s).busy)

/-- CSM_STATUS. -/
def Dev.csmStatus (d : Dev) (c : Nat) : Word :=
  let k := d.cas c
  wordOf (k.core.code + b2n k.wait.custom? * 4 + min 3 (d.recentRestarts c).length * 16)

/-- CSM_INBOX. -/
def Dev.csmInbox (d : Dev) (c : Nat) : Word :=
  let k := d.cas c
  wordOf (k.req.length + k.busySlots.length * 2 ^ 8 + k.ctl.length * 2 ^ 16)

/-- Registers of a casement block. -/
def Dev.csmView (d : Dev) (a : Nat) : Word :=
  let c := csmOf a
  let o := a % 0x1000
  let p := 4 * c + (o - 0x800) / 0x40
  if o = 0x004 then d.csmStatus c
  else if o = 0x034 then d.csmInbox c
  else if 0x800 ≤ o ∧ o < 0x900 ∧ o % 0x40 = 0x04 then wordOf (d.pane p).st.code
  else if 0x800 ≤ o ∧ o < 0x900 ∧ o % 0x40 = 0x34 then wordOf (d.ledgerStatus p)
  else if 0x800 ≤ o ∧ o < 0x900 ∧ o % 0x40 = 0x38 then
    match (d.pane p).ledger with
    | some l => wordOf l.hWord
    | none => d.reg a
  else d.reg a

/-- STATE of MODEL_STAT. -/
def SlotSt.code : SlotSt → Nat
  | .empty => 0 | .loading => 1 | .loaded => 2 | .started => 3 | .stopping => 4

/-- MODEL_STAT. -/
def Dev.modelStat (d : Dev) (i : Nat) : Word :=
  let s := d.slot i
  wordOf (s.st.code + s.mode * 8 + (d.heldBy i).length * 256 + s.reserve * 65536)

/-- A packet that holds HIRQ_N low is unread (R516). -/
def HostLink.flagged (h : HostLink) : Bool := h.stream.any (·.flagged)

/-- The link status word (R516). -/
def Dev.linkStatus (d : Dev) : Word :=
  wordOf (streamBytes d.hl.stream + (16 - d.hl.slots.length) * 2 ^ 16 + b2n d.hl.flagged * 2 ^ 21 + b2n d.patching * 2 ^ 22
    + b2n d.hl.err * 2 ^ 23 + d.hl.lastErr * 2 ^ 24 + 5 * 2 ^ 28)

/-- CHK_TAU (R233): the tolerance of a pane that is bound, or serves in a graft, now. -/
def Dev.chkTau (d : Dev) : Word :=
  let p := d.fldAt 0x704 0 7
  match if (d.originOf p).isSome then d.tauOf p else none with
  | some t => wordOf (p + min t 0x7FFF * 2 ^ 16 + 2 ^ 31)
  | none => wordOf p

/-- Registers of the hinge-control block. -/
def Dev.hingeView (d : Dev) (a : Nat) : Word :=
  if a = 0x100 then wordOf d.stateWord
  else if a = 0x104 then d.sys.since
  else if a = 0x200 then d.linkStatus
  else if a = 0x210 then wordOf d.hl.seq
  else if 0x400 ≤ a ∧ a < 0x600 ∧ a % 0x20 = 0 then d.modelStat ((a - 0x400) / 0x20)
  else if 0x400 ≤ a ∧ a < 0x600 ∧ a % 0x20 = 4 then wordOf (d.slot ((a - 0x400) / 0x20)).step
  else if a = 0x600 then wordOf (d.mdl.resq.length + d.mdl.high * 2 ^ 16)
  else if a = 0x704 then d.chkTau
  else if a = 0x714 then wset (d.reg a) 0 14 d.pendingCount
  else d.reg a

/-- The domains in some phases, as a mask. -/
def Dev.domMask (d : Dev) (f : DomPhase → Bool) : Nat := maskOfList ((List.range 10).filter (fun n => f (d.dom n)))

/-- SHT_ACTIVE: the domain that opens, or the lowest that closes. -/
def Dev.shtActive (d : Dev) : Word :=
  let opening := (List.range 10).find? (fun n => (d.dom n).code == 1)
  let closing := (List.range 10).find? (fun n => (d.dom n).code ≥ 2)
  let forced := match closing with
    | some n => (match d.dom n with | .draining _ f => f | .cutting _ f => f | _ => false)
    | none => false
  let n := match opening, closing with | some n, _ => n | none, some n => n | none, none => 0
  wordOf (n + (d.dom n).code * 16 + b2n forced * 64 + min 15 d.pwr.queue.length * 256)

/-- Registers of the reset, clock and shutter block. -/
def Dev.resetView (d : Dev) (a : Nat) : Word :=
  if a = 0x10000 then wset (wset (d.reg a) 0 10 (d.domMask (· == .opened))) 16 10 (d.domMask (· == .retained))
  else if a = 0x10004 then d.shtActive
  else if a = 0x1000C then wordOf (d.dozeElapsed + b2n d.pwr.dozeDone * 2 ^ 31)
  else if a = 0x10010 then wordOf (b2n d.rst.pllLock)
  else if a = 0x10018 then wordOf d.now
  else if a = 0x1001C then d.sys.ftLatch
  else if a = 0x10104 then wordOf d.rst.straps
  else d.reg a

/-- Registers of the lintel block. -/
def Dev.lintelView (d : Dev) (a : Nat) : Word :=
  let l := d.lin
  if a = 0x20000 then
    wordOf (b2n l.fromVddio + b2n l.vbatOk * 2 + b2n (l.clkOk && !l.clkMasked) * 4 + b2n (allZero (d.keyBytes 0 2048)) * 8)
  else if a = 0x20004 then d.rtcLo
  else if a = 0x20008 then wordOf l.rtcLatch
  else if a = 0x20014 then wordOf (b2n l.armed + b2n l.wakeExt * 2 + b2n l.wakeAlarm * 4 + b2n l.wakeAlarm * 8)
  else if a = 0x20018 then wordOf l.count
  else if a = 0x2001C then wordOf d.startFailRecord
  else if 0x20020 ≤ a ∧ a < 0x20060 then
    wordOf (nthD l.hist ((a - 0x20020) / 8) 0 / (if a % 8 = 0 then 1 else 2 ^ 32))
  else d.reg a

/-- PAGE of JAMB_STATUS: of the OPEN or committing buffer. -/
def JambState.bufPage (j : JambState) : Nat :=
  match j.commit, j.buf with
  | some c, _ => c.page
  | none, some (p, _) => p
  | none, none => 0

/-- Registers of the jamb block. -/
def Dev.jambView (d : Dev) (a : Nat) : Word :=
  let j := d.jamb
  if a = 0x30000 then
    wordOf (b2n j.busy + b2n j.buf.isSome * 2 + b2n (!j.devQueue.isEmpty) * 4 + b2n j.lockSeen * 8 + j.bufPage * 2 ^ 8 + j.last * 2 ^ 16)
  else if a = 0x30004 then wordOf j.jcount
  else if a = 0x3000C then wset (wset (d.reg a) 0 5 (if j.ring.isSome then j.ringNext.1 else 0)) 8 4 j.logWaiting
  else d.reg a

/-- Channels with a waiting urgent request, as a mask of 48 bits. -/
def Dev.urgentMask (d : Dev) : Nat := maskOfList (d.svy.urgents.map (·.ch))

/-- Registers of the FRONT blocks: survey, supervision, acquisition. -/
def Dev.frontView (d : Dev) (a : Nat) : Word :=
  let v := d.svy
  if a = 0x40004 then
    wordOf ((d.reg a).toNat / 16 % 4 * 16 + b2n v.uncal + b2n v.cal.isSome * 2 + b2n v.serving.isSome * 4 + b2n v.hz60 * 8
      + v.entry * 2 ^ 8 + v.passes * 2 ^ 16)
  else if a = 0x40018 then wordOf d.urgentMask
  else if a = 0x4001C then wordOf (d.urgentMask / 2 ^ 32)
  else if 0x50040 ≤ a ∧ a < 0x50080 then wordOf (d.chan ((a - 0x50040) / 4)).stat
  else if a = 0x500C4 then
    let ch := match d.front.teds with | some r => r.ch | none => 0
    wordOf (b2n d.front.teds.isSome + ch * 2 + b2n (d.bitAt a 5) * 32 + d.front.tedsQueue.length * 2 ^ 8)
  else if 0x60000 ≤ a ∧ a < 0x60200 ∧ a % 0x20 = 0x08 then
    let k := d.chan ((a - 0x60000) / 0x20)
    wordOf ((d.reg a).toNat % 4 + b2n k.cal.isSome * 4 + k.wins.length * 16)
  else if 0x60000 ≤ a ∧ a < 0x60200 ∧ a % 0x20 = 0x0C then BitVec.ofInt 32 (sxt 24 (d.fldAt a 0 24))
  else d.reg a

/-- Item of lane 0 of a slot. -/
def Dev.laneCursor (d : Dev) (i : Nat) : Nat :=
  match d.storm.lanes.find? (fun l => l.slot == i && l.lane == 0) with
  | some l => l.item
  | none => 0

/-- SHADOW_SLOT: of a slot whose instance runs lanes. -/
def Dev.shadowSlot (d : Dev) (i : Nat) : Word :=
  if !d.storm.lanes.any (fun l => l.slot == i) then 0
  else
    match d.walk i with
    | some (q, w) => wordOf (d.laneCursor i + (q - 1) * 2 ^ 13 + w * 2 ^ 16)
    | none => 0

/-- Registers of the storm block. -/
def Dev.stormView (d : Dev) (a : Nat) : Word :=
  let s := d.storm
  if a = 0x80000 then
    wordOf (b2n (s.pass.isSome || s.run.isSome) + (d.reg a).toNat / 2 % 4 * 2 + (s.samples.filter (fun x => x.st != .due)).length * 2 ^ 8)
  else if 0x80040 ≤ a ∧ a < 0x80080 then d.shadowSlot ((a - 0x80040) / 4)
  else d.reg a

/-- Leases held on tables `lo` to `lo + 31`, as a mask. -/
def SillState.leaseMask (s : SillState) (lo : Nat) : Nat :=
  maskOfList ((List.range 32).filter (fun k => s.leases.any (fun e => e.1 == lo + k)))

/-- A zero front's register. -/
def frontWord (row : Nat) : Word := wordOf (row % 2 ^ 23 + b2n (row ≥ dieRows) * 2 ^ 31)

/-- Registers of the sill block. -/
def Dev.sillView (d : Dev) (a : Nat) : Word :=
  let s := d.sill
  if a = 0x90000 then
    wordOf (b2n s.clearing + (d.reg a).toNat / 2 % 4 * 2 + b2n s.selfRefresh * 8 + b2n Config.partT * 2 ^ 8)
  else if a = 0x90010 then frontWord s.front0
  else if a = 0x90014 then frontWord s.front1
  else if a = 0x90018 then wordOf (s.leaseMask 0)
  else if a = 0x9001C then wordOf (s.leaseMask 32)
  else d.reg a

/-- The offset to a STACK_ID as 64 bits (R421). -/
def Dev.offTo (d : Dev) (id : Nat) : Nat :=
  match d.stk.offs.find? (fun e => e.1 == id) with
  | some (_, o) => tc 64 o
  | none => 0

/-- The latched upper half of an offset. -/
def Dev.offHi (d : Dev) (id : Nat) : Word :=
  match d.stk.offLatch.find? (fun e => e.1 == id) with
  | some (_, w) => w
  | none => 0

/-- Registers of the door block. -/
def Dev.doorView (d : Dev) (a : Nat) : Word :=
  if a = 0xB0000 then d.stkStatus
  else if 0xB0010 ≤ a ∧ a < 0xB001C then d.stkPortWord ((a - 0xB0010) / 4)
  else if a = 0xB0020 then wordOf d.stk.epoch
  else if 0xB0040 ≤ a ∧ a < 0xB0060 then
    let id := (a - 0xB0040) / 8
    if a % 8 = 0 then wordOf (d.offTo id) else d.offHi id
  else if a = 0xB0108 then
    wordOf (d.fab.addr + d.fab.origin * 2 ^ 16 + b2n (d.bitAt a 18) * 2 ^ 18 + b2n (d.fab.routes.length > 4096) * 2 ^ 19
      + b2n (d.site 0).nbr.isSome * 2 ^ 20 + b2n (d.site 1).nbr.isSome * 2 ^ 21)
  else d.reg a

/-- The device drives BOLT_IO low: BOLTED with EXT_BOLT_EN and a cause of its own (R492, R508). -/
def Dev.driving (d : Dev) : Bool := d.dbg.bolted && d.bitAt 0xC0000 0 && d.dbg.ownCause

/-- DBG_BOLT. -/
def Dev.dbgBolt (d : Dev) : Word :=
  wordOf (b2n d.dbg.bolted + b2n d.dbg.quiet * 2 + b2n d.driving * 4 + b2n (d.dbg.lineLow || d.driving) * 8 + d.dbg.cause * 16
    + d.dbg.hart * 2 ^ 8 + d.dbg.skipped * 2 ^ 16)

/-- Registers of the debug block. -/
def Dev.debugView (d : Dev) (a : Nat) : Word :=
  let b := d.dbg
  if a = 0xC0004 then d.dbgBolt
  else if a = 0xC0008 then wordOf b.boltFt.toNat
  else if a = 0xC000C then b.boltFtLatch
  else if a = 0xC0014 then
    wordOf (b.traceNext + b2n b.traceWrapped * 2 ^ 16 + b2n b.traceFull * 2 ^ 17 + b2n (d.traceOn && !d.isOpen 4) * 2 ^ 18
      + b.traceDropped * 2 ^ 20)
  else d.reg a

/-- Registers of the deadbolt block. -/
def Dev.deadboltView (d : Dev) (a : Nat) : Word :=
  if a = 0xD0000 then wordOf d.dbStatus
  else if a = 0xD0004 then wordOf d.lin.policy
  else if a = 0xD000C then wordOf d.lin.evCount
  else if 0xD0010 ≤ a ∧ a < 0xD0030 then
    wordOf (nthD d.lin.tlog ((a - 0xD0010) / 8) 0 / (if a % 8 = 0 then 1 else 2 ^ 32))
  else if 0xD0040 ≤ a ∧ a < 0xD0060 then wordOf (uAt d.db.hash (a - 0xD0040) 4)
  else d.reg a

/-- What a register reads, but for what the read itself does (R9, R12). -/
def Dev.regView (d : Dev) (a : Nat) : Word :=
  if inCsm a then d.csmView a
  else
    let b := a / 0x10000
    if b = 0x0 then d.hingeView a
    else if b = 0x1 then d.resetView a
    else if b = 0x2 then d.lintelView a
    else if b = 0x3 then d.jambView a
    else if b = 0x4 ∨ b = 0x5 ∨ b = 0x6 then d.frontView a
    else if b = 0x8 then d.stormView a
    else if b = 0x9 then d.sillView a
    else if b = 0xB then d.doorView a
    else if b = 0xC then d.debugView a
    else if b = 0xD then d.deadboltView a
    else d.reg a

/-! ### Reads with an effect -/

/-- A read of FT_LO latches FT_HI (R339). -/
def Dev.readFtLo (d : Dev) : Word × Dev := (wordOf d.now, { d with sys := { d.sys with ftLatch := wordOf (d.now / 2 ^ 32) } })

/-- A read of DBG_BOLT_FT_LO latches DBG_BOLT_FT_HI (R489). -/
def Dev.readBoltFt (d : Dev) : Word × Dev :=
  (wordOf d.dbg.boltFt.toNat, { d with dbg := { d.dbg with boltFtLatch := wordOf (d.dbg.boltFt.toNat / 2 ^ 32) } })

/-- A read of STK_OFFs_LO latches STK_OFFs_HI (R421). -/
def Dev.readStkOff (d : Dev) (id : Nat) : Word × Dev :=
  let hi := wordOf (d.offTo id / 2 ^ 32)
  (wordOf (d.offTo id), { d with stk.offLatch := (id, hi) :: d.stk.offLatch.filter (fun (e : Nat × Word) => e.1 != id) })

/-- A read of STORM_UTIL: shares of the 10 ms before the read, rounded down (DESIGN CHOICE, log entry 204). -/
def Dev.readUtil (d : Dev) : Word × Dev :=
  (wordOf (d.stormShare 1 + d.stormShare 2 * 2 ^ 10 + d.stormShare 3 * 2 ^ 20), d)

/-- A word of a sill window, with the effects of its read (R183, R196). -/
def Dev.readSillWord (d : Dev) (a : Nat) : Word × Dev :=
  let (r, d) := d.sillRead a 4
  (wordOf (leNat r.bytes), d)

/-- A read of a mapped word: its value and what the read does. -/
def Dev.busRead (d : Dev) (a : Nat) : Word × Dev :=
  if a ≥ 0x1000000 then d.readSillWord a
  else if a = 0x10018 then d.readFtLo
  else if a = 0x20004 then (d.rtcLo, d.latchRtc)
  else if (0x40200 ≤ a ∧ a < 0x40480) ∧ a % 8 = 0 then d.readSvyResult a
  else if (0x40200 ≤ a ∧ a < 0x40480) ∧ a % 8 = 4 then d.readSvyTime a
  else if a = 0x80008 then d.readUtil
  else if (0xB0040 ≤ a ∧ a < 0xB0060) ∧ a % 8 = 0 then d.readStkOff ((a - 0xB0040) / 8)
  else if a = 0xC0008 then d.readBoltFt
  else (d.regView a, d)

/-! ### Writes with an effect -/

/-- CSM_CTRL (R123, R146): RESTART first, then HALT. -/
def Dev.writeCsmCtrl (d : Dev) (c : Nat) (v : Word) : Dev :=
  let a := aCsm c 0x000
  let d := d.setReg a (wset (d.reg a) 1 2 (wfld v 1 2))
  let d := if wbit v 3 then d.ctrlRestart c else d
  d.writeHalt c (wbit v 0)

/-- CSM_WDT (R145). -/
def Dev.writeCsmWdt (d : Dev) (c : Nat) (v : Word) : Dev :=
  let d := d.regWritePlain (aCsm c 0x00C) v
  if wfld v 16 8 = 0xA5 then d.wdtKick c false else d

/-- CSM_QUOTA0 to CSM_QUOTA4: a raised quota is granted at once (R141). -/
def Dev.writeQuota (d : Dev) (c k : Nat) (v : Word) : Dev :=
  let d := d.regWritePlain (aCsm c (0x020 + 4 * k)) v
  if !d.casUp c then d
  else (List.range 8).foldl (fun d j =>
    let s := 8 * k + j
    if (s < 32 && d.casUp s) || (s ≥ 32 && !d.ghosted s) then d.grant c s else d) d

/-- A write in a casement block. -/
def Dev.writeCsmReg (d : Dev) (a : Nat) (v : Word) : Dev :=
  let c := csmOf a
  let o := a % 0x1000
  if o = 0x000 then d.writeCsmCtrl c v
  else if o = 0x00C then d.writeCsmWdt c v
  else if 0x020 ≤ o ∧ o ≤ 0x030 then d.writeQuota c ((o - 0x020) / 4) v
  else if 0x800 ≤ o ∧ o < 0x900 ∧ o % 0x40 = 0x18 then
    let d := d.regWritePlain a v
    if wbit v 31 then d.clrCounts (4 * c + (o - 0x800) / 0x40) else d
  else d.regWritePlain a v

/-- A write in the hinge-control block. -/
def Dev.writeHingeReg (d : Dev) (a : Nat) (v : Word) : Dev :=
  if a = 0x600 then (if wbit v 31 then d.clrHigh else d)
  else if a = 0x700 then d.linSet (wfld v 0 7) (wfld v 7 2) (wfld v 9 14)
  else d.regWritePlain a v

/-- A write in the lintel block (R445). -/
def Dev.writeLintelReg (d : Dev) (a : Nat) (v : Word) : Dev :=
  if a = 0x20010 then d.writeAlarmHi v
  else if a = 0x20014 then
    let d := if wbit v 1 then d.clearWakeExt else d
    let d := if wbit v 2 then d.clearWakeAlarm else d
    if wbit v 4 then d.disarm else d
  else d.regWritePlain a v

/-- A write in the FRONT blocks. -/
def Dev.writeFrontReg (d : Dev) (a : Nat) (v : Word) : Dev :=
  if a = 0x40000 then d.writeSvyCtrl v
  else if a = 0x40008 ∨ (0x40100 ≤ a ∧ a < 0x40180) then (d.regWritePlain a v).svyPump
  else if a = 0x40014 then d.writeCalRef v
  else if 0x50000 ≤ a ∧ a < 0x50040 then d.writeExc ((a - 0x50000) / 4) (wfld v 0 12)
  else if 0x60000 ≤ a ∧ a < 0x60200 ∧ a % 0x20 = 0x00 then d.writeAcqCfg ((a - 0x60000) / 0x20) v false
  else if 0x60000 ≤ a ∧ a < 0x60200 ∧ a % 0x20 = 0x10 then d.writeAcqGain ((a - 0x60000) / 0x20) v
  else d.regWritePlain a v

/-- STORM_CTRL: clearing SHADOW_EN abandons every sample (R223). -/
def Dev.writeStormCtrl (d : Dev) (v : Word) : Dev :=
  let was := d.bitAt 0x80004 0
  let d := d.regWritePlain 0x80004 v
  if was && !wbit v 0 then d.abandonAll else d

/-- MUL_FENCE0: each bit set is a host fence (R146). -/
def Dev.writeFence (d : Dev) (v : Word) : Dev := (onesOf 32 v.toNat).foldl (fun d c => d.hostFence c) d

/-- A write in the door block. -/
def Dev.writeDoorReg (d : Dev) (a : Nat) (v : Word) : Dev :=
  if a = 0xB0004 then (d.regWritePlain a v).trainPorts
  else if a = 0xB0100 then d.writeFabCfg v
  else if a = 0xB0104 then d.writeFabAddr v
  else d.regWritePlain a v

/-- A MARK record (R502), which the debug router makes. -/
def Dev.mark (d : Dev) (v : Nat) : Dev := d.trace 38 9 (leBytes 2 v)

/-- A write in the debug block. -/
def Dev.writeDebugReg (d : Dev) (a : Nat) (v : Word) : Dev :=
  if a = 0xC0014 then
    { d with dbg := { d.dbg with traceWrapped := d.dbg.traceWrapped && !wbit v 16 } }
  else if a = 0xC0018 then d.mark (wfld v 0 16)
  else d.regWritePlain a v

/-- A write of a mapped register (R9), with what it does beyond its access code. -/
def Dev.busWrite (d : Dev) (a : Nat) (v : Word) : Dev :=
  if inCsm a then d.writeCsmReg a v
  else
    let b := a / 0x10000
    if b = 0x0 then d.writeHingeReg a v
    else if b = 0x2 then d.writeLintelReg a v
    else if b = 0x4 ∨ b = 0x5 ∨ b = 0x6 then d.writeFrontReg a v
    else if a = 0x80004 then d.writeStormCtrl v
    else if a = 0xA0000 then d.writeFence v
    else if b = 0xB then d.writeDoorReg a v
    else if b = 0xC then d.writeDebugReg a v
    else if a = 0xD0008 then (if wbit v 0 then d.dropSession else d)
    else d.regWritePlain a v

/-! ### What refuses a write -/

/-- A defined table overlaps bank 15 (R501). -/
def Dev.tableInTrace (d : Dev) : Bool := d.sill.descs.any (fun e => inTrace e.2.base e.2.size)

/-- A sealed device outside a privileged session (R505). -/
def Dev.closed (d : Dev) : Bool := d.db.sealed && !d.db.privileged

/-- What refuses a write of a mapped word by the host or a casement: DBG_CTRL and TRACE_MARK of a closed device (R505), an
enable of the trace over a table (R501), and in the sill windows the trace region and the leases (R192, R193, R501). -/
def Dev.writeRefusal (d : Dev) (who a : Nat) (v : Word) : Option Byte :=
  if a ≥ 0x1000000 then
    if d.traceOn && inTrace a 4 then some stBusy else d.writeGate who a 4
  else if (a = 0xC0000 ∨ a = 0xC0018) ∧ d.closed then some stSecurityDenied
  else if a = 0xC0010 ∧ wbit v 0 ∧ d.tableInTrace then some stBusy
  else none

/-! ### READ_REG and WRITE_REG (R556) -/

/-- `n` consecutive words are read in address order. -/
def Dev.readWords : Nat → Nat → Dev → List Byte × Dev
  | 0, _, d => ([], d)
  | n + 1, a, d =>
    let (w, d) := d.busRead a
    let (bs, d) := Dev.readWords n (a + 4) d
    (wordBytes w ++ bs, d)

/-- READ_REG (R13, R15, R556): of a sill window with the statuses of SILL_READ. -/
def cmdReadReg (addr : Word) (count : Half) (c : Cmd) (d : Dev) : Dev :=
  let a := addr.toNat
  let n := count.toNat
  let l := (List.range n).map (fun k => a + 4 * k)
  if n < 1 ∨ n > 1024 ∨ !l.all regMapped then d.refuse c stBadParam
  else if !l.all d.regOpen then d.refuse c stPartnerGone
  else if a ≥ 0x1000000 then
    if d.sill.clearing then d.sillHold (.read c a (4 * n)) else d.hostRead c a (4 * n)
  else
    let (bs, d) := Dev.readWords n a d
    d.reply c stOk bs

/-- The word that a write brings to a register where `setNow` are the bits that hardware set on the write's own tick: a one
for such a W1C bit does not clear it, the set wins (R11). In a sill window there are no such bits. -/
def setWins (a : Nat) (v setNow : Word) : Word := if a ≥ 0x1000000 then v else v &&& ~~~(setNow &&& (regSpec a).w1c)

/-- The pairs of a WRITE_REG as they act, each with its own word of set bits (R11). -/
def pairsSetWin (pairs : List (Word × Word)) (setNow : List Word) : List (Word × Word) :=
  pairs.zipIdx.map (fun (p : (Word × Word) × Nat) => (p.1.1, setWins p.1.1.toNat p.1.2 (setNow.getD p.2 0)))

/-- One pair of WRITE_REG is applied; in a sill window it may have to wait (R195, R197). The answer is false where the word
cannot be corrected (R183). -/
def Dev.applyPair (d : Dev) (a : Nat) (v : Word) : Bool × Dev :=
  if a ≥ 0x1000000 then
    if d.writeHeld a 4 then (true, d.holdWrite (.reg a (wordBytes v))) else (d.endLeases 32).sillWrite a (wordBytes v)
  else (true, d.busWrite a v)

/-- The pairs are applied in order. -/
def Dev.applyPairs : List (Word × Word) → Bool → Dev → Bool × Dev
  | [], ok, d => (ok, d)
  | p :: l, ok, d =>
    let (k, d) := d.applyPair p.1.toNat p.2
    Dev.applyPairs l (ok && k) d

/-- WRITE_REG (R11, R13, R15, R16, R505, R556): a refusal writes nothing. -/
def cmdWriteReg (pairs : List (Word × Word)) (setNow : List Word) (c : Cmd) (d : Dev) : Dev :=
  if pairs.isEmpty ∨ pairs.length > 512 then d.refuse c stBadLength
  else if d.closed && pairs.any (fun p => p.1.toNat == 0xC0000 || p.1.toNat == 0xC0018) then d.refuse c stSecurityDenied
  else if !pairs.all (fun p => regMapped p.1.toNat) then d.refuse c stBadParam
  else if !pairs.all (fun p => d.regOpen p.1.toNat) then d.refuse c stPartnerGone
  else
    match pairs.findSome? (fun p => d.writeRefusal 32 p.1.toNat p.2) with
    | some st => d.refuse c st
    | none =>
      let (ok, d) := Dev.applyPairs (pairsSetWin pairs setNow) true d
      d.refuse c (if ok then stOk else stInternalFault)

/-- READ_REG (R556). -/
def execReadReg (h : CmdHdr) (addr : Word) (count : Half) (s : State) : Host.Outcome State Fault Refusal :=
  onDev s (Dev.hostCmd 0x07 (wordBytes addr ++ leBytes 2 count.toNat ++ [0, 0]) h (cmdReadReg addr count))

/-- WRITE_REG (R556). -/
def execWriteReg (h : CmdHdr) (writes : RegWrites) (s : State) : Host.Outcome State Fault Refusal :=
  onDev s (Dev.hostCmd 0x08 ((writes.pairs.map (fun (p : Word × Word) => wordBytes p.1 ++ wordBytes p.2)).flatten) h
    (cmdWriteReg writes.pairs writes.setNow))

/-! ### Single accesses -/

/-- A write of one word as the bus takes it: unmapped, closed and refused ones have no effect. -/
def Dev.plainWrite (d : Dev) (a : Nat) (v : Word) : Dev :=
  if regMapped a && d.regOpen a && (d.writeRefusal 32 a v).isNone then (d.applyPair a v).2 else d

/-- REGISTER_WRITE (R9, R11). -/
def execRegisterWrite (addr : Word) (word : RegWord) (s : State) : Host.Outcome State Fault Refusal :=
  onDev s (fun d => d.plainWrite addr.toNat (setWins addr.toNat word.value word.setNow))

/-- FT_LO_READ (R339). -/
def execFtLoRead (s : State) : Host.Outcome State Fault Refusal := onDev s (fun d => Dev.putBus d.readFtLo)

/-- STK_OFF_LO_READ (R421): of a STACK_ID from 0 to 3, while DOOR is open. -/
def execStkOffLoRead (id : Nat) (s : State) : Host.Outcome State Fault Refusal :=
  onDev s (fun d => if id < 4 && d.isOpen 5 then Dev.putBus (d.readStkOff id) else d)

/-- DBG_BOLT_FT_LO_READ (R489). -/
def execDbgBoltFtLoRead (s : State) : Host.Outcome State Fault Refusal := onDev s (fun d => Dev.putBus d.readBoltFt)

/-- TRACE_MARK (R502, R505). -/
def execTraceMark (value : Word) (s : State) : Host.Outcome State Fault Refusal :=
  onDev s (fun d => if d.closed then d else d.mark (wfld value 0 16))

/-! ### REG_RD and REG_WR (R128) -/

/-- The router at which a register is reached (R128). -/
def regRouter (a : Nat) : Nat :=
  if inCsm a then csmOf a
  else
    let b := a / 0x10000
    if 4 ≤ b ∧ b ≤ 6 then 36 else if b = 8 then 33 else if b = 9 then 34 else if b = 0xB then 37 else if b = 0xC then 38 else 32

/-- A register that messages reach: no sill window, and at its own router. -/
def regServed (a dst : Nat) : Bool := regMapped a && a < 0x1000000 && regRouter a == dst

/-- REG_RD is served (R13, R15, R128). -/
def Dev.serveRegRd (d : Dev) (m : Msg) : Dev :=
  let a := uAt m.payload 0 4
  if !regServed a m.dst then d.respond m stBadParam []
  else if !d.regOpen a then d.respond m stPartnerGone []
  else
    let (w, d) := d.busRead a
    d.respond m stOk (padTo 32 (wordBytes w))

/-- REG_WR is served. -/
def Dev.serveRegWr (d : Dev) (m : Msg) : Dev :=
  let a := uAt m.payload 0 4
  let v := wordOf (uAt m.payload 4 4)
  if !regServed a m.dst then d.respond m stBadParam []
  else if !d.regOpen a then d.respond m stPartnerGone []
  else
    match d.writeRefusal m.src a v with
    | some st => d.respond m st []
    | none => (d.busWrite a v).respond m stOk []

/-- REG_RD (R128). -/
def execRegRd (src dst : Nat) (s : State) : Host.Outcome State Fault Refusal :=
  onNet s src dst (fun d => d.arrive src dst tyRegRd (fun m d => d.serveRegRd m))

/-- REG_WR (R128). -/
def execRegWr (src dst : Nat) (s : State) : Host.Outcome State Fault Refusal :=
  onNet s src dst (fun d => d.arrive src dst tyRegWr (fun m d => d.serveRegWr m))

end Sys2Proof.Machine
end

