-- ==== Sys2Proof/Machine/CoreRv.lean ====
section
/-! DEFINITION. A casement core's instructions other than the custom ones (05_casements_and_mullion.md R122, R125 to R127):
RV32IMC with Zicsr in machine mode, as the RISC-V specifications, which the manual cites, define them. -/
namespace Sys2Proof.Machine

/-! ### Compressed instructions: the 32-bit instruction that each stands for -/

/-- Encodings of the RV32I formats, from a non-negative or two's-complement immediate. -/
def encI (imm rs1 f3 rd op : Nat) : Nat := imm % 4096 * 2 ^ 20 + rs1 * 2 ^ 15 + f3 * 2 ^ 12 + rd * 2 ^ 7 + op
def encR (f7 rs2 rs1 f3 rd op : Nat) : Nat := f7 * 2 ^ 25 + rs2 * 2 ^ 20 + rs1 * 2 ^ 15 + f3 * 2 ^ 12 + rd * 2 ^ 7 + op
def encS (imm rs2 rs1 f3 : Nat) : Nat := fld imm 5 7 * 2 ^ 25 + rs2 * 2 ^ 20 + rs1 * 2 ^ 15 + f3 * 2 ^ 12 + fld imm 0 5 * 2 ^ 7 + 0x23
def encB (imm rs2 rs1 f3 : Nat) : Nat :=
  fld imm 12 1 * 2 ^ 31 + fld imm 5 6 * 2 ^ 25 + rs2 * 2 ^ 20 + rs1 * 2 ^ 15 + f3 * 2 ^ 12 + fld imm 1 4 * 2 ^ 8 + fld imm 11 1 * 2 ^ 7 + 0x63
def encJ (imm rd : Nat) : Nat :=
  fld imm 20 1 * 2 ^ 31 + fld imm 1 10 * 2 ^ 21 + fld imm 11 1 * 2 ^ 20 + fld imm 12 8 * 2 ^ 12 + rd * 2 ^ 7 + 0x6F

/-- Sign-extend an `n`-bit number to 32 bits, as a number. -/
def sx (n v : Nat) : Nat := tc 32 (sxt n v)

/-- Quadrant 0. -/
def rvc0 (h : Nat) : Option Nat :=
  let rd := 8 + fld h 2 3
  let rs1 := 8 + fld h 7 3
  let off := fld h 10 3 * 8 + fld h 6 1 * 4 + fld h 5 1 * 64
  match fld h 13 3 with
  | 0 =>
    let imm := fld h 11 2 * 16 + fld h 7 4 * 64 + fld h 6 1 * 4 + fld h 5 1 * 8
    if imm = 0 then none else some (encI imm 2 0 rd 0x13)
  | 2 => some (encI off rs1 2 rd 0x03)
  | 6 => some (encS off rd rs1 2)
  | _ => none

/-- Offset of C.J and C.JAL. -/
def rvcJump (h : Nat) : Nat :=
  sx 12 (fld h 12 1 * 2 ^ 11 + fld h 11 1 * 16 + fld h 9 2 * 256 + fld h 8 1 * 1024 + fld h 7 1 * 64 + fld h 6 1 * 128 + fld h 3 3 * 2
    + fld h 2 1 * 32)

/-- Offset of C.BEQZ and C.BNEZ. -/
def rvcBranch (h : Nat) : Nat :=
  sx 9 (fld h 12 1 * 256 + fld h 10 2 * 8 + fld h 5 2 * 64 + fld h 3 2 * 2 + fld h 2 1 * 32)

/-- Quadrant 1. -/
def rvc1 (h : Nat) : Option Nat :=
  let rd := fld h 7 5
  let rp := 8 + fld h 7 3
  let rs2 := 8 + fld h 2 3
  let imm6 := fld h 12 1 * 32 + fld h 2 5
  match fld h 13 3 with
  | 0 => some (encI (sx 6 imm6) rd 0 rd 0x13)
  | 1 => some (encJ (rvcJump h) 1)
  | 2 => some (encI (sx 6 imm6) 0 0 rd 0x13)
  | 3 =>
    if imm6 = 0 then none
    else if rd = 2 then
      some (encI (sx 10 (fld h 12 1 * 512 + fld h 6 1 * 16 + fld h 5 1 * 64 + fld h 3 2 * 128 + fld h 2 1 * 32)) 2 0 2 0x13)
    else some (sx 6 imm6 % 2 ^ 20 * 2 ^ 12 + rd * 2 ^ 7 + 0x37)
  | 4 =>
    match fld h 10 2 with
    | 0 => if fld h 12 1 = 1 then none else some (encR 0 imm6 rp 5 rp 0x13)
    | 1 => if fld h 12 1 = 1 then none else some (encR 0x20 imm6 rp 5 rp 0x13)
    | 2 => some (encI (sx 6 imm6) rp 7 rp 0x13)
    | _ =>
      if fld h 12 1 = 1 then none
      else match fld h 5 2 with
        | 0 => some (encR 0x20 rs2 rp 0 rp 0x33)
        | 1 => some (encR 0 rs2 rp 4 rp 0x33)
        | 2 => some (encR 0 rs2 rp 6 rp 0x33)
        | _ => some (encR 0 rs2 rp 7 rp 0x33)
  | 5 => some (encJ (rvcJump h) 0)
  | 6 => some (encB (rvcBranch h) 0 rp 0)
  | _ => some (encB (rvcBranch h) 0 rp 1)

/-- Quadrant 2. -/
def rvc2 (h : Nat) : Option Nat :=
  let rd := fld h 7 5
  let rs2 := fld h 2 5
  match fld h 13 3 with
  | 0 => if fld h 12 1 = 1 then none else some (encR 0 rs2 rd 1 rd 0x13)
  | 2 => if rd = 0 then none else some (encI (fld h 12 1 * 32 + fld h 4 3 * 4 + fld h 2 2 * 64) 2 2 rd 0x03)
  | 4 =>
    if fld h 12 1 = 0 then
      (if rs2 != 0 then some (encR 0 rs2 0 0 rd 0x33) else if rd = 0 then none else some (encI 0 rd 0 0 0x67))
    else if rs2 != 0 then some (encR 0 rs2 rd 0 rd 0x33)
    else if rd = 0 then some 0x00100073
    else some (encI 0 rd 0 1 0x67)
  | 6 => some (encS (fld h 9 4 * 4 + fld h 7 2 * 64) rs2 2 2)
  | _ => none

/-- The 32-bit instruction of a 16-bit one; none: illegal. -/
def rvcExpand (h : Nat) : Option Nat :=
  match fld h 0 2 with
  | 0 => rvc0 h
  | 1 => rvc1 h
  | _ => rvc2 h

/-! ### Arithmetic -/

/-- A word as a signed integer. -/
def sgn (w : Word) : Int := w.toInt

/-- Base operations of OP and OP-IMM, by funct3; `alt` selects SUB and SRA. -/
def rvAlu (f3 : Nat) (alt : Bool) (a b : Word) : Word :=
  match f3 with
  | 0 => if alt then a - b else a + b
  | 1 => a <<< (b.toNat % 32)
  | 2 => if sgn a < sgn b then 1 else 0
  | 3 => if a.toNat < b.toNat then 1 else 0
  | 4 => a ^^^ b
  | 5 => if alt then a.sshiftRight (b.toNat % 32) else a >>> (b.toNat % 32)
  | 6 => a ||| b
  | _ => a &&& b

/-- Operations of the M extension, by funct3: a division by zero gives all ones, or the dividend as remainder, and the overflow
-2^31 / -1 gives -2^31 and remainder 0. -/
def rvMul (f3 : Nat) (a b : Word) : Word :=
  match f3 with
  | 0 => a * b
  | 1 => BitVec.ofInt 32 (sgn a * sgn b / 2 ^ 32)
  | 2 => BitVec.ofInt 32 (sgn a * (b.toNat : Int) / 2 ^ 32)
  | 3 => BitVec.ofNat 32 (a.toNat * b.toNat / 2 ^ 32)
  | 4 => if b = 0 then 0xFFFFFFFF else BitVec.ofInt 32 (Int.tdiv (sgn a) (sgn b))
  | 5 => if b = 0 then 0xFFFFFFFF else BitVec.ofNat 32 (a.toNat / b.toNat)
  | 6 => if b = 0 then a else BitVec.ofInt 32 (Int.tmod (sgn a) (sgn b))
  | _ => if b = 0 then a else BitVec.ofNat 32 (a.toNat % b.toNat)

/-- A branch is taken, by funct3; none: no such branch. -/
def rvBranch (f3 : Nat) (a b : Word) : Option Bool :=
  match f3 with
  | 0 => some (a == b)
  | 1 => some (a != b)
  | 4 => some (decide (sgn a < sgn b))
  | 5 => some (decide (sgn b ≤ sgn a))
  | 6 => some (decide (a.toNat < b.toNat))
  | 7 => some (decide (b.toNat ≤ a.toNat))
  | _ => none

/-! ### Ends of an instruction -/

/-- A jump: rd takes the link, the pc the target. -/
def Casement.jump (k : Casement) (rd : Nat) (link target : Word) : Casement :=
  ({ (k.setX rd link).retire with pc := target }).boundary

/-- The instruction of `n` bytes ends with a value in rd. -/
def Dev.rvDone (d : Dev) (c n rd : Nat) (v : Word) : Dev := d.updCas c (fun k => k.done n rd v)

/-- An illegal instruction (R122). -/
def Dev.illegal (d : Dev) (c w : Nat) : Dev := d.exception c 2 (BitVec.ofNat 32 w)

/-! ### CSRs (R122, R125, R126, R134) -/

/-- mip: the machine external interrupt is pending (R126). -/
def Casement.mip (k : Casement) : Word := if Nat.land k.irqPend (k.csrAt 0x7C3).toNat != 0 then 0x800 else 0

/-- A CSR's value, and what its read does; none: no such CSR. The cycle counter is a free value, the model having no cycles of a
core. -/
def Dev.csrRead (d : Dev) (c n : Nat) : Option (Word × Dev) :=
  let k := d.cas c
  if [0x300, 0x301, 0x304, 0x305, 0x340, 0x341, 0x342, 0x343, 0xB02, 0xB82, 0x7C0, 0x7C1, 0x7C2, 0x7C3, 0x7C5].contains n then
    some (k.csrAt n, d)
  else if n = 0x310 ∨ n = 0x320 ∨ (0x323 ≤ n ∧ n ≤ 0x33F) ∨ (0xB03 ≤ n ∧ n ≤ 0xB1F) ∨ (0xB83 ≤ n ∧ n ≤ 0xB9F) then some (0, d)
  else if n = 0x344 then some (k.mip, d)
  else if n = 0xB00 ∨ n = 0xB80 then
    let (i, d) := d.draw
    some (Config.freeWord i, d)
  else if n = 0xF11 ∨ n = 0xF12 ∨ n = 0xF13 ∨ n = 0xF15 then some (Config.csrId n, d)
  else if n = 0xF14 then some (wordOf c, d)
  else if n = 0x7C4 then some (wordOf k.irqPend, d)
  else if n = 0xFC0 then some (wordOf d.now, d.setCas c { k with ftLatch := wordOf (d.now / 2 ^ 32) })
  else if n = 0xFC1 then some (k.ftLatch, d)
  else none

/-- The bits of a CSR that a write stores; 0 for those it does not change. -/
def csrMask (n : Nat) : Word :=
  if n = 0x300 then 0x88
  else if n = 0x304 then 0x800
  else if n = 0x305 then 0xFFFFFFFD
  else if n = 0x341 then 0xFFFFFFFE
  else if n = 0x340 ∨ n = 0x342 ∨ n = 0x343 ∨ n = 0xB02 ∨ n = 0xB82 ∨ n = 0x7C1 then 0xFFFFFFFF
  else if n = 0x7C0 then 0x3FFFF
  else if n = 0x7C3 then 0xF
  else if n = 0x7C5 then 0xFFFF
  else 0

/-- Write a CSR: au_status is cleared by ones, the others take the bits of their mask. -/
def Casement.csrWrite (k : Casement) (n : Nat) (v : Word) : Casement :=
  if n = 0x7C2 then k.setCsr n (k.csrAt n &&& ~~~v)
  else k.setCsr n ((k.csrAt n &&& ~~~(csrMask n)) ||| (v &&& csrMask n))

/-- A Zicsr instruction: `f3` its form, `src` its operand, `reads` and `writes` what it does to the CSR. A write of a read-only
CSR number is illegal. -/
def Dev.rvCsr (d : Dev) (c w : Nat) : Dev :=
  let k := d.cas c
  let n := fld w 20 12
  let f3 := fld w 12 3
  let rd := fld w 7 5
  let src : Word := if f3 ≥ 5 then wordOf (fld w 15 5) else k.xr (fld w 15 5)
  let writes := f3 % 4 = 1 || fld w 15 5 != 0
  if f3 = 4 ∨ (writes && fld n 10 2 == 3) then d.illegal c w
  else
    match d.csrRead c n with
    | none => d.illegal c w
    | some (old, d') =>
      let d := if f3 % 4 = 1 && rd = 0 then d else d'
      let new := match f3 % 4 with | 1 => src | 2 => old ||| src | _ => old &&& ~~~src
      let d := d.rvDone c 4 rd old
      if writes then d.updCas c (fun k => k.csrWrite n new) else d

/-! ### Loads and stores (R127) -/

/-- Where a data access goes. -/
inductive Place where
  /-- The local SRAM. -/
  | sram (o : Nat)
  /-- The own register block. -/
  | own (o : Nat)
  /-- A register block, through its router. -/
  | reg (router : Nat)
  /-- A sill window, through its edge. -/
  | sill (router : Nat)
  /-- No place of the core's map, or one that the access may not use. -/
  | fault
  deriving DecidableEq, Repr

/-- A place in memory, where an access that is not aligned is address-misaligned; elsewhere it is an access fault (R13). -/
def Place.memory : Place → Bool
  | .sram _ => true
  | .sill _ => true
  | _ => false

/-- The place of an access of `n` bytes (R13, R127): an access of a register that is not an aligned word has none. -/
def placeOf (a n : Nat) (store : Bool) : Place :=
  if 0x80000000 ≤ a ∧ a < 0x80040000 then (if store && a ≥ 0x80034F00 then .fault else .sram (a - 0x80000000))
  else if 0x80040000 ≤ a ∧ a < 0x80041000 then (if n = 4 ∧ a % 4 = 0 then .own (a - 0x80040000) else .fault)
  else if a < 0x120000 then (if n = 4 && a % 4 == 0 && regMapped a then .reg (regRouter a) else .fault)
  else if a < 0x80000000 && inWindow a n then .sill (sillEdge a)
  else .fault

/-- A request of the core to a router, holding an RSP slot (R143); with none free the core stays on the instruction. -/
def Dev.remote (d : Dev) (c typ router : Nat) (payload : List Byte) (wait : Nat → CoreWait) : Dev :=
  match (d.cas c).takeSlot with
  | none => d
  | some (s, tag, k) =>
    (d.setCas c { k with wait := wait s }).netSend
      { src := c, dst := router, typ := typ, len := 0, tag := tag, ticket := 0, status := 0, notify := false, payload := payload }

/-- A load of `size` bytes (R127, R495). -/
def Dev.rvLoad (d : Dev) (c n rd size : Nat) (signed : Bool) (a : Word) : Dev :=
  let pc := (d.cas c).pc
  let a := a.toNat
  let p := placeOf a size false
  if p.memory && a % size != 0 then d.exception c 4 (wordOf a)
  else
    match p with
    | .fault => d.exception c 5 (wordOf a)
    | .sram o => d.eccGuard c o size fun d =>
      (d.rvDone c n rd (loadValue size signed (d.sramBytes c o size))).latchEvent c pc (dataMatch 2 a)
    | .own o =>
      let (w, d) := d.busRead (aCsm c o)
      (d.rvDone c n rd w).latchEvent c pc (dataMatch 2 a)
    | .reg r => d.remote c tyRegRd r (leBytes 4 a) (fun s => .load s rd size signed a)
    | .sill r => d.remote c tySillRd r (leBytes 4 a ++ leBytes 1 size) (fun s => .load s rd size signed a)

/-- A store of `size` bytes (R127, R495). -/
def Dev.rvStore (d : Dev) (c n size : Nat) (v a : Word) : Dev :=
  let pc := (d.cas c).pc
  let a := a.toNat
  let bs := leBytes size v.toNat
  let p := placeOf a size true
  if p.memory && a % size != 0 then d.exception c 6 (wordOf a)
  else
    match p with
    | .fault => d.exception c 7 (wordOf a)
    | .sram o => d.eccGuard c o (if size = 4 then 0 else size) fun d => ((d.sramStore c o bs).rvDone c n 0 0).latchEvent c pc (dataMatch 3 a)
    | .own o => ((d.rvDone c n 0 0).busWrite (aCsm c o) v).latchEvent c pc (dataMatch 3 a)
    | .reg r => d.remote c tyRegWr r (leBytes 4 a ++ bs) (fun s => .store s a)
    | .sill r => d.remote c tySillWr r (leBytes 4 a ++ bs) (fun s => .store s a)

/-! ### Execution -/

/-- MRET: the handler of the previous trap has returned (R122, R146). -/
def Casement.mret (k : Casement) : Casement :=
  let ms := k.csrAt 0x300
  let k := (k.setCsr 0x300 (wset (wset (wset ms 3 1 (b2n (wbit ms 7))) 7 1 1) 11 2 3)).retire
  { k with pc := k.csrAt 0x341, inTrap := false }.boundary

/-- The custom instructions as they are encoded (R129). -/
def Dev.rvCustom (d : Dev) (c w : Nat) : Dev :=
  let rd := fld w 7 5
  let rs1 := fld w 15 5
  let rs2 := fld w 20 5
  let f7 := fld w 25 7
  if fld w 0 7 = 0x0B then
    match fld w 12 3, f7 with
    | 0, 0 => d.pnFire c rd rs1 rs2
    | 0, 1 => d.pnCollect c rd rs1 rs2
    | 1, op => if op ≤ 7 then d.auOp op c rd rs1 rs2 else d.illegal c w
    | _, _ => d.illegal c w
  else if f7 != 0 then d.illegal c w
  else
    match fld w 12 3 with
    | 0 => d.mqSend c rd rs1 rs2
    | 1 => d.mqRecv c rd rs1
    | 2 => d.mqWait c rd rs1
    | 3 => d.mqReply c rd rs1 rs2
    | 4 => d.mqFree c rd rs1
    | 5 => d.slLookup c rd rs1 rs2
    | 6 =>
      let x := (d.cas c).xr rs1
      d.slLease c rd (wfld x 0 6) (wbit x 8)
    | _ => d.illegal c w

/-- SYSTEM: ECALL, EBREAK, MRET, WFI, which may end at once, and Zicsr. -/
def Dev.rvSystem (d : Dev) (c n w : Nat) : Dev :=
  if w = 0x00000073 then d.exception c 11 0
  else if w = 0x00100073 then d.exception c 3 (d.cas c).pc
  else if w = 0x30200073 then d.updCas c Casement.mret
  else if w = 0x10500073 then d.rvDone c n 0 0
  else if fld w 12 3 = 0 then d.illegal c w
  else d.rvCsr c w

/-- The signed immediates of the formats. -/
def immI (w : Nat) : Word := BitVec.ofInt 32 (sxt 12 (fld w 20 12))
def immS (w : Nat) : Word := BitVec.ofInt 32 (sxt 12 (fld w 25 7 * 32 + fld w 7 5))
def immB (w : Nat) : Word :=
  BitVec.ofInt 32 (sxt 13 (fld w 31 1 * 4096 + fld w 7 1 * 2048 + fld w 25 6 * 32 + fld w 8 4 * 2))
def immJ (w : Nat) : Word :=
  BitVec.ofInt 32 (sxt 21 (fld w 31 1 * 2 ^ 20 + fld w 12 8 * 4096 + fld w 20 1 * 2048 + fld w 21 10 * 2))

/-- OP-IMM: shifts have their funct7. -/
def immLegal (f3 f7 : Nat) : Bool := !(f3 == 1 && f7 != 0) && !(f3 == 5 && f7 != 0 && f7 != 0x20)

/-- The core executes the instruction `w` of `n` bytes; `raw` is what was fetched. -/
def Dev.rvExec (d : Dev) (c n w raw : Nat) : Dev :=
  let k := d.cas c
  let pc := k.pc
  let next := pc + BitVec.ofNat 32 n
  let rd := fld w 7 5
  let f3 := fld w 12 3
  let f7 := fld w 25 7
  let a := k.xr (fld w 15 5)
  let b := k.xr (fld w 20 5)
  match fld w 0 7 with
  | 0x37 => d.rvDone c n rd (wordOf (w / 4096 * 4096))
  | 0x17 => d.rvDone c n rd (pc + wordOf (w / 4096 * 4096))
  | 0x6F => d.updCas c (fun k => k.jump rd next (pc + immJ w))
  | 0x67 => if f3 = 0 then d.updCas c (fun k => k.jump rd next ((a + immI w) &&& 0xFFFFFFFE)) else d.illegal c raw
  | 0x63 =>
    match rvBranch f3 a b with
    | some t => d.updCas c (fun k => k.jump 0 0 (if t then pc + immB w else next))
    | none => d.illegal c raw
  | 0x03 =>
    if f3 ≤ 2 then d.rvLoad c n rd (2 ^ f3) true (a + immI w)
    else if f3 = 4 ∨ f3 = 5 then d.rvLoad c n rd (2 ^ (f3 - 4)) false (a + immI w)
    else d.illegal c raw
  | 0x23 => if f3 ≤ 2 then d.rvStore c n (2 ^ f3) b (a + immS w) else d.illegal c raw
  | 0x13 => if immLegal f3 f7 then d.rvDone c n rd (rvAlu f3 (f3 == 5 && f7 == 0x20) a (immI w)) else d.illegal c raw
  | 0x33 =>
    if f7 = 0 then d.rvDone c n rd (rvAlu f3 false a b)
    else if f7 = 1 then d.rvDone c n rd (rvMul f3 a b)
    else if f7 = 0x20 && (f3 == 0 || f3 == 5) then d.rvDone c n rd (rvAlu f3 true a b)
    else d.illegal c raw
  | 0x0F => if f3 = 0 then d.rvDone c n 0 0 else d.illegal c raw
  | 0x73 => d.rvSystem c n w
  | 0x0B => d.rvCustom c w
  | 0x2B => d.rvCustom c w
  | _ => d.illegal c raw

/-- Fetch and execute: from the local SRAM only. -/
def Dev.coreStep (d : Dev) (c : Nat) : Dev :=
  let pc := (d.cas c).pc.toNat
  if pc < 0x80000000 ∨ pc ≥ 0x80040000 then d.exception c 1 (wordOf pc)
  else
    d.eccGuard c (pc - 0x80000000) 2 fun d =>
    let h := leNat (d.sramBytes c (pc - 0x80000000) 2)
    if h % 4 ≠ 3 then
      match rvcExpand h with
      | some w => d.rvExec c 2 w h
      | none => d.illegal c h
    else if pc + 4 > 0x80040000 then d.exception c 1 (wordOf (pc + 2))
    else d.eccGuard c (pc - 0x80000000) 4 fun d =>
      let w := leNat (d.sramBytes c (pc - 0x80000000) 4)
      d.rvExec c 4 w w

/-! ### Meanings -/

/-- CORE_INSTRUCTION (R122). -/
def execCoreInstruction (c : Nat) (s : State) : Host.Outcome State Fault Refusal := onCore c s (fun d => d.coreStep c)

/-- FRAME_TIME_CSR_READ (R125): a read of CSR 0xFC0. -/
def execFrameTimeCsrRead (c : Nat) (rd : BitVec 5) (s : State) : Host.Outcome State Fault Refusal :=
  onCore c s (fun d =>
    match d.csrRead c 0xFC0 with
    | some (v, d) => d.rvDone c 4 rd.toNat v
    | none => d)

end Sys2Proof.Machine
end

