-- ==== Sys2Proof/Machine/Mesh.lean ====
section
/-! DEFINITION. How messages cross the mullion mesh (05_casements_and_mullion.md R136 to R140, R155): router positions, X-then-Y
routes, input buffers and link credits, and the choice of each output, one core tick at a time. -/
namespace Sys2Proof.Machine

/-! ### Positions and routes (R136, R137) -/

/-- Directions of a router's ports. -/
def pNorth : Nat := 0
def pEast : Nat := 1
def pSouth : Nat := 2
def pWest : Nat := 3
/-- The port of the partner itself: the casement's or the edge block's interface. -/
def pOwn : Nat := 4
/-- The way out to the partner: where an arriving message waits to be taken. -/
def pOut : Nat := 5

/-- The casement router at (x, y) (R6, R136). -/
def routerAt (x y : Nat) : Nat := 8 * y + x

/-- Where an edge router hangs: its border casement router and that router's port (R136). -/
def attachOf (e : Nat) : Nat × Nat :=
  match e with
  | 32 => (routerAt 3 0, pNorth)
  | 33 => (routerAt 3 3, pSouth)
  | 34 => (routerAt 0 1, pWest)
  | 35 => (routerAt 7 1, pEast)
  | 36 => (routerAt 0 2, pWest)
  | 37 => (routerAt 7 2, pEast)
  | 38 => (routerAt 4 0, pNorth)
  | _ => (routerAt 4 3, pSouth)

/-- The port on which a message that leaves by a port enters the neighbour. -/
def facing (p : Nat) : Nat :=
  if p = pNorth then pSouth else if p = pSouth then pNorth else if p = pEast then pWest else if p = pWest then pEast else p

/-- The casement router through which a destination is reached. -/
def columnRouter (dst : Nat) : Nat := if dst < 32 then dst else (attachOf dst).1

/-- The port by which a message for `dst` leaves router `r` (R137): first along X, then along Y, then to the partner or over
the final hop to the edge router. -/
def outPort (r dst : Nat) : Nat :=
  if r = dst then pOut
  else if r ≥ 32 then pOwn
  else
    let q := columnRouter dst
    if r % 8 < q % 8 then pEast
    else if r % 8 > q % 8 then pWest
    else if r / 8 < q / 8 then pSouth
    else if r / 8 > q / 8 then pNorth
    else (attachOf dst).2

/-- The next buffer on a message's way from router `r`: router and input port. An edge router has one link, to its attach
point. -/
def nextBuffer (r dst : Nat) : Nat × Nat :=
  let p := outPort r dst
  if p = pOut then (r, pOut)
  else if r ≥ 32 then attachOf r
  else if r = columnRouter dst ∧ dst ≥ 32 then (dst, pNorth)
  else if p = pEast then (r + 1, pWest)
  else if p = pWest then (r - 1, pEast)
  else if p = pSouth then (r + 8, pNorth)
  else (r - 8, pSouth)

/-! ### Buffers and credits (R140) -/

/-- A message's flits. -/
def Msg.flits (m : Msg) : Nat := m.len + 1

/-- Flits of a message whose credits a buffer has not yet returned: all from the forwarding of its head on, and then one
fewer for each tick after the head has gone on (R140). -/
def heldFlits (now flits : Nat) (after : Option Nat) : Nat :=
  match after with
  | none => flits
  | some s => flits - min flits (now - s)

/-- Flits that a message holds in the input buffer `p` of router `r`. -/
def trailFlits (now flits r p : Nat) : Option Nat → List Hop → Nat
  | _, [] => 0
  | after, h :: l => (if h.router = r ∧ h.port = p then heldFlits now flits after else 0) + trailFlits now flits r p (some h.since) l

/-- Flits in the input buffer of router `r`, port `p`, channel `vc`. -/
def Dev.bufferFlits (d : Dev) (r p vc : Nat) : Nat :=
  ((d.mul.net.filter (fun m => vcOf m.typ == vc)).map (fun m => trailFlits d.now m.flits r p none m.trail)).sum

/-- The downstream buffer has credits for the whole message: it holds 16 flits for each channel (R140). -/
def Dev.hasRoom (d : Dev) (m : Msg) (r p : Nat) : Bool := d.bufferFlits r p (vcOf m.typ) + m.flits ≤ 16

/-- The link into the input `p` of router `r` still carries flits of a message, one a tick (R137). -/
def Dev.linkBusy (d : Dev) (r p : Nat) : Bool :=
  d.mul.net.any (fun m => m.trail.any (fun h => h.router == r && h.port == p && d.now < h.since + m.flits))

/-- A message goes on its way while its network runs: while BOLTED only those of the hinge and debug routers do (R490). -/
def Dev.flows (d : Dev) (m : Msg) : Bool :=
  !d.dbg.bolted || m.src == 32 || m.src == 38 || m.dst == 32 || m.dst == 38

/-- The message replaced by its further one, at its place. -/
def Dev.putMsg (d : Dev) (m m' : Msg) : Dev := { d with mul.net := d.mul.net.map (fun x => if x = m then m' else x) }

/-- The head enters a buffer now. -/
def Msg.enter (m : Msg) (now r p : Nat) : Msg := { m with trail := { router := r, port := p, since := now } :: m.trail }

/-! ### Entry (R132, R140, R146) -/

/-- Frame time of the last CTL message that a source sent a casement. -/
def Dev.ctlLast (d : Dev) (s c : Nat) : Option Nat := (d.mul.ctlSent.find? (fun e => e.1 == 64 * s + c)).map (·.2)

/-- The hinge and debug routers send at most one CTL message to a casement in any 16 core ticks (R140). -/
def Dev.ctlSpaced (d : Dev) (m : Msg) : Bool :=
  if (m.src = 32 ∨ m.src = 38) ∧ m.dst < 32 ∧ vcOf m.typ = 2 then
    match d.ctlLast m.src m.dst with
    | some t => d.now ≥ t + 16
    | none => true
  else true

/-- The oldest message that waits in the interface of a router on a channel. -/
def Dev.waiting (d : Dev) (s vc : Nat) : Option Msg :=
  d.mul.net.find? (fun m => m.src == s && vcOf m.typ == vc && m.trail.isEmpty && d.flows m)

/-- The interface at router `s` injects the oldest message of a channel, CTL before RSP before REQ, when the router's own
input has room for it (R140). -/
def Dev.inject (d : Dev) (s : Nat) : Dev :=
  if d.linkBusy s pOwn then d
  else
    let ready := [2, 1, 0].filterMap (fun vc =>
      match d.waiting s vc with
      | some m => if d.hasRoom m s pOwn && d.ctlSpaced m then some m else none
      | none => none)
    match ready with
    | [] => d
    | m :: _ =>
      let d := d.putMsg m (m.enter d.now s pOwn)
      if (m.src = 32 ∨ m.src = 38) ∧ m.dst < 32 ∧ vcOf m.typ = 2 then
        { d with mul.ctlSent := d.mul.ctlSent.filter (fun e => e.1 != 64 * m.src + m.dst) ++ [(64 * m.src + m.dst, d.now)] }
      else d

/-! ### Forwarding (R137, R140) -/

/-- The present buffer of a message: router, port and frame time of entry. -/
def Msg.hop (m : Msg) : Option Hop := m.trail.head?

/-- The message that is next out of an input buffer and channel: the one whose head came first. -/
def Dev.bufferHead (d : Dev) (r p vc : Nat) : Option Msg :=
  (d.mul.net.filter (fun m => vcOf m.typ == vc && (match m.hop with | some h => h.router == r && h.port == p | none => false))).foldl
    (fun (a : Option Msg) m =>
      match a, m.hop with
      | none, _ => some m
      | some b, some h => (match b.hop with | some g => if h.since < g.since then some m else a | none => a)
      | some _, none => a) none

/-- A head is ready to leave router `r` by port `o`: it has been there for the two ticks of R137, no closing domain holds it
(R328), and the next buffer has credits for the whole message. -/
def Dev.canLeave (d : Dev) (r o : Nat) (m : Msg) : Bool :=
  let nb := nextBuffer r m.dst
  d.flows m && outPort r m.dst == o && !(o == pOut && d.holdsHead m) && d.hasRoom m nb.1 nb.2
    && (match m.hop with | some h => d.now ≥ h.since + 2 | none => false)

/-- Key of an output's turn on a channel. -/
def turnKey (r o vc : Nat) : Nat := 32 * r + 4 * o + vc

/-- The input that an output served last on a channel. -/
def Dev.turn (d : Dev) (r o vc : Nat) : Nat := Tab.get (fun _ => 0) d.mul.turns (turnKey r o vc)

/-- The inputs of a router in the order in which an output serves them next, round-robin (R140). -/
def inputsAfter (last : Nat) : List Nat := (List.range 5).map (fun k => (last + 1 + k) % 5)

/-- The message that an output serves on a channel, with its input. -/
def Dev.chosen (d : Dev) (r o vc : Nat) : Option (Nat × Msg) :=
  (inputsAfter (d.turn r o vc)).findSome? (fun p =>
    match d.bufferHead r p vc with
    | some m => if d.canLeave r o m then some (p, m) else none
    | none => none)

/-- An output forwards one head, CTL before RSP before REQ, when its link is free (R140). -/
def Dev.forward (d : Dev) (r o : Nat) : Dev :=
  match [2, 1, 0].findSome? (fun vc => (d.chosen r o vc).map (fun e => (vc, e))) with
  | none => d
  | some (vc, p, m) =>
    let nb := nextBuffer r m.dst
    if d.linkBusy nb.1 nb.2 then d
    else
      let d := d.putMsg m (m.enter d.now nb.1 nb.2)
      { d with mul.turns := Tab.set (fun _ => 0) d.mul.turns (turnKey r o vc) p }

/-- Where heads stand: router and the port by which each leaves, each once. -/
def Dev.outputs (d : Dev) : List (Nat × Nat) :=
  (d.mul.net.filterMap (fun m =>
    match m.hop with
    | some h => if h.port = pOut then none else some (h.router, outPort h.router m.dst)
    | none => none)).eraseDups

/-- Sources with a message in their interface, each once. -/
def Dev.sources (d : Dev) : List Nat := (d.mul.net.filterMap (fun m => if m.trail.isEmpty then some m.src else none)).eraseDups

/-- One core tick of the mesh: every output forwards at most one head, and every interface injects at most one. -/
def Dev.meshTick (d : Dev) : Dev :=
  if d.mul.net.isEmpty then d
  else
    let d := d.outputs.foldl (fun d e => d.forward e.1 e.2) d
    d.sources.foldl (fun d s => d.inject s) d

end Sys2Proof.Machine
end

