-- ==== Sys2Proof/Machine/Pins.lean ====
section
/-! DEFINITION. What the block's pins carry (21_signals_and_board.md R593, R609): the drive of every digital signal and the
order of the boundary-scan cells. -/
namespace Sys2Proof.Machine

/-- The digital signals outside the TAP (R609). -/
inductive Pin where
  | tedsIo | tedsSel (n : Nat) | tedsMode
  | refclk (p : Nat) | crsdv (p : Nat) | txen (p : Nat) | rxd (p n : Nat) | txd (p n : Nat)
  | mdc (p : Nat) | mdio (p : Nat) | phyRst (p : Nat) | phyInt (p : Nat)
  | tamp (n : Nat) | lwake | rst | rstout | hirq | hcs | hsck
  | hostSel | mainsSel | stackId (n : Nat) | hio (n : Nat) | boltIo | trig (n : Nat) | stkAlive | pgmEn
  deriving DecidableEq, Repr

/-- The balls of a site port, rows G to M or P to Y (R591). -/
def sitePins (p : Nat) : List Pin :=
  [.refclk p, .crsdv p, .txen p, .rxd p 0, .txd p 0, .rxd p 1, .txd p 1, .mdc p, .mdio p, .phyRst p, .phyInt p]

/-- The 49 digital signal balls in row and column order, which is the order of the boundary-scan register from TDI (R591,
R609). -/
def scanPins : List Pin :=
  [.tedsIo, .tedsSel 0, .tedsSel 1, .tedsSel 2, .tedsSel 3, .tedsMode] ++ sitePins 0 ++ sitePins 1
    ++ [.tamp 0, .tamp 1, .lwake, .rst, .rstout, .hirq, .hcs, .hsck]
    ++ [.hostSel, .mainsSel, .stackId 0, .stackId 1, .hio 0, .hio 1, .hio 2, .hio 3, .boltIo, .trig 0, .trig 1, .stkAlive, .pgmEn]

/-- What the block does with a pin: nothing (an input, a released or high-impedance output), drives it low or high, drives it
with a level that the model does not hold, or pulls it low or not. -/
inductive Drive where
  | off | low | high | driven | maybeLow
  deriving DecidableEq, Repr

/-- A level. -/
def level (b : Bool) : Drive := if b then .high else .low

/-- An open-drain output. -/
def pull (b : Bool) : Drive := if b then .low else .off

/-- The open-drain pins, which drive only a 0 (R593, R609). -/
def openDrain (p : Pin) : Bool := [.tedsIo, .lwake, .rstout, .hirq, .boltIo].contains p

/-- The pins that are inputs only (R593). -/
def inputOnly : Pin → Bool
  | .crsdv _ | .rxd _ _ | .phyInt _ | .tamp _ | .rst | .hcs | .hsck | .hostSel | .mainsSel | .stackId _ => true
  | _ => false

/-- What the block's own logic drives on a pin between transactions (R593): a FRONT or DOOR pin has its reset state while the
domain is closed, and without the main supply only the lintel's pins are driven (R594). What the bits of a TEDS access, of a
site frame or of a management frame are at a moment, and the level of a TRIG output, the model does not hold. -/
def Dev.drive (d : Dev) (p : Pin) : Drive :=
  match p with
  | .lwake => pull d.lin.wakeAlarm
  | p =>
    if d.rst.supplyLow then .off
    else match p with
      | .rstout => pull d.rst.rstoutLow
      | .hirq => pull d.hl.hirqLow
      | .boltIo => pull d.driving
      | .pgmEn => level d.pctl.pgmEn
      | .tedsIo => if d.front.tedsMode then .maybeLow else .off
      | .tedsSel n => level (bitOf d.front.tedsSel n)
      | .tedsMode => level d.front.tedsMode
      | .refclk i => level (d.refClk i)
      | .txen i | .txd i _ | .mdc i => if d.siteEnabled i then .driven else .low
      | .mdio i => if d.siteEnabled i then .driven else .off
      | .phyRst i => level (d.site i).phyUp
      | .trig n => if d.trigMode n == 3 then .driven else .off
      | .stkAlive => if d.stackId == 0 && d.isOpen 5 then level d.stk.aliveOut else .off
      | _ => .off

/-- What leaves on a pin: under EXTEST the boundary latches, an enable cell of 1 driving the output cell's value, an open-drain
pin driving only a 0 and an input nothing (R609). -/
def Dev.pin (d : Dev) (i : Nat) (p : Pin) : Drive :=
  if d.dbg.jtag.extest then
    let b := d.dbg.jtag.boundary
    if inputOnly p || !bitOf b (3 * i + 2) then .off
    else if openDrain p then pull (!bitOf b (3 * i + 1))
    else level (bitOf b (3 * i + 1))
  else d.drive p

/-- The output and enable cells of a pin as SAMPLE captures them, 2 bits: what the model does not hold is taken from `free`. -/
def sampleCells (free : Nat) : Drive → Nat
  | .off => free % 2
  | .low => 2
  | .high => 3
  | .driven => 2 + free % 2
  | .maybeLow => free / 2 % 2 * 2

/-- The output and enable cells of the whole register as SAMPLE captures them. -/
def Dev.sampleOuts (d : Dev) (free : Nat) : Nat :=
  (scanPins.zipIdx.map (fun (e : Pin × Nat) => sampleCells (free / 4 ^ e.2) (d.drive e.1) * 2 ^ (3 * e.2 + 1))).sum

/-- VREF_OUT carries 1.25 V; otherwise 0 V (R593). -/
def Dev.vrefOut (d : Dev) : Bool := d.isOpen 2

/-- PEXCn in codes of 2.5 V ÷ 4,096 (R263, R593). -/
def Dev.pexc (d : Dev) (n : Nat) : Nat := if d.isOpen 2 then d.fldAt (0x50000 + 4 * n) 0 12 else 0

end Sys2Proof.Machine
end

