-- ==== Sys2Proof/Machine/Debug.lean ====
section
/-! DEFINITION. Bolts, latch points, tensor dumps, counters, the trace and the JTAG port (18_debug.md, R579, R580). -/
namespace Sys2Proof.Machine

/-! ### The bolt (R489 to R493) -/

/-- BOLT (R489, R579). -/
def cmdBolt (c : Cmd) (d : Dev) : Dev := (d.boltNow 1 0).ok c

/-- The device's own cause is cleared (R493). -/
def Dev.unbolt (d : Dev) : Dev := { d with dbg := { d.dbg with ownCause := false } }

/-- UNBOLT (R493, R579): the reply shows whether a partner still holds BOLT_IO. -/
def cmdUnbolt (c : Cmd) (d : Dev) : Dev :=
  let d := d.unbolt
  d.reply c stOk (wordBytes d.dbgBolt)

/-- BOLT_IO has been low for 8 core ticks (R489). -/
def Dev.lineFalls (d : Dev) : Dev :=
  let d := { d with dbg := { d.dbg with lineLow := true } }
  if d.bitAt 0xC0000 0 then d.onClock (fun d => d.boltNow 3 0) else d

/-- BOLT_IO has been high for 8 core ticks; with no own cause left the device leaves BOLTED and every frozen unit resumes
(R493). -/
def Dev.boltRelease (d : Dev) : Dev :=
  if d.driving then d
  else
    let d := { d with dbg := { d.dbg with lineLow := false } }
    if !d.dbg.bolted || d.dbg.ownCause || !d.clocked then d
    else
      let d := { d with dbg := { d.dbg with bolted := false, quiet := false, cause := 0, hart := 0 } }
      let d := d.stateChanged
      let d := (List.range 3).foldl (fun d p => d.stkDrain ((d.port p).queue.length + 1) p) d
      d.settle.pumpWindows

/-- All frozen units have become quiescent (R490). -/
def Dev.boltQuiet (d : Dev) : Dev := { d with dbg := { d.dbg with quiet := d.dbg.bolted } }

/-- A TRIG pin in bolt-input mode goes low (R489). -/
def Dev.trigBolt (d : Dev) (pin : Nat) : Dev := if pin < 2 && d.trigMode pin == 1 then d.boltNow 5 0 else d

/-- A TRIG pin in MARK mode falls (R502). -/
def Dev.trigMark (d : Dev) (pin value : Nat) : Dev := if pin < 2 && d.trigMode pin == 2 then d.mark value else d

/-! ### Latch points (R495, R579) -/

/-- A latch point's fields are in range (R579). -/
def latchOk (hart index mtch actions : Byte) (count : Half) : Bool :=
  hart.toNat ≤ 32 && index.toNat ≤ 3 && mtch.toNat ≤ 5 && actions.toNat < 64 && (count != 0 || mtch == 0)
    && !(mtch == 4 && hart == 32) && !(mtch == 5 && hart.toNat < 32)

/-- LATCH_SET (R495, R579): MATCH 0 clears the point, another sets it with its count restarted. -/
def cmdLatchSet (hart index mtch actions : Byte) (count : Half) (value mask step : Word) (c : Cmd) (d : Dev) : Dev :=
  if !latchOk hart index mtch actions count then d.refuse c stBadParam
  else
    let k := 4 * hart.toNat + index.toNat
    let p : LatchPoint := { mtch := mtch.toNat, actions := actions.toNat, count := count.toNat, seen := 0, armed := true,
                            value := value, mask := mask, step := step }
    let rest := d.dbg.points.filter (fun e => e.1 != k)
    { d with dbg := { d.dbg with points := if mtch = 0 then rest else rest ++ [(k, p)] } }.ok c

/-! ### Tensor dumps (R498, R580) -/

/-- The entry of a symbol in a slot's table (R497). -/
def Slot.symbol (s : Slot) (symbol : Nat) : Option (List Byte) :=
  match s.model with
  | some m => if m.symbols.isEmpty then none else (symbols m.symbols).find? (fun e => uAt e 0 2 == symbol)
  | none => none

/-- DUMP_TENSOR ARM (R498, R580): the command waits for its capture. -/
def cmdDumpArm (slot : Byte) (symbol : Half) (step : Word) (c : Cmd) (d : Dev) : Dev :=
  let i := slot.toNat
  let s := d.slot i
  if i > 15 then d.refuse c stBadParam
  else if s.st != .started then d.refuse c stBusy
  else
    match s.symbol symbol.toNat with
    | none => d.refuse c stBadParam
    | some e =>
      if (step - wordOf s.step).toNat ≥ 2 ^ 31 then d.refuse c stBadParam
      else if d.dbg.dumps.length ≥ 4 then d.refuse c stBusy
      else
        let x : Dump := { cmd := c, slot := i, symbol := symbol.toNat, step := step.toNat, kind := uAt e 2 1, casement := uAt e 3 1,
                          place := uAt e 4 1, occurrence := uAt e 5 1, length := uAt e 8 4, seen := 0 }
        { d with dbg := { d.dbg with dumps := d.dbg.dumps ++ [x] } }

/-- DUMP_TENSOR CANCEL (R498, R580). -/
def cmdDumpCancel (slot : Byte) (symbol : Half) (step : Word) (c : Cmd) (d : Dev) : Dev :=
  match d.dbg.dumps.find? (fun x => x.slot == slot.toNat && x.symbol == symbol.toNat && x.step == step.toNat) with
  | none => d.refuse c stBadParam
  | some x => (d.endDump x stOk).ok c

/-! ### Counters and histograms (R499, R500) -/

/-- The counter is a histogram: 8 buckets and a high-water word. -/
def isHistogram (id : Nat) : Bool :=
  id < 0x18 || (0x40 ≤ id && id ≤ 0x44) || (0x100 ≤ id && id < 0x200 && id % 16 == 5)

/-- The ids of R499. -/
def isCounter (id : Nat) : Bool :=
  isHistogram id || (0x20 ≤ id && id < 0x40) || (0x50 ≤ id && id < 0x58) || (0x60 ≤ id && id < 0x68)
    || (0x100 ≤ id && id < 0x200 && id % 16 < 8)

/-- The words of a counter. -/
def Dev.counterWords (d : Dev) (id : Nat) : List Nat :=
  if isHistogram id then (List.range 9).map (d.counter id)
  else if 0x50 ≤ id ∧ id < 0x58 then [Tab.get (fun _ => 0) d.mul.edgeGhost (id - 0x50)]
  else [d.counter id 0]

/-- Clear a counter. -/
def Dev.clearCounter (d : Dev) (id : Nat) : Dev :=
  if 0x50 ≤ id ∧ id < 0x58 then { d with mul.edgeGhost := Tab.set (fun _ => 0) d.mul.edgeGhost (id - 0x50) 0 }
  else { d with dbg := { d.dbg with counters := Tab.dropRange (16 * id) 16 d.dbg.counters } }

/-- A counter as COUNTERS_READ returns it (R580). -/
def Dev.counterEntry (d : Dev) (id : Nat) : List Byte :=
  let ws := d.counterWords id
  leBytes 2 id ++ leBytes 2 ws.length ++ (ws.map (leBytes 4)).flatten

/-- COUNTERS_READ (R468, R499, R505, R580): a global id of a closed device refuses the whole command. -/
def cmdCountersRead (flags count : Byte) (ids : List Half) (c : Cmd) (d : Dev) : Dev :=
  let l := ids.map (·.toNat)
  if l.length ≠ count.toNat then d.refuse c stBadLength
  else if d.closed && l.any (fun id => id < 0x100) then d.refuse c stSecurityDenied
  else if flags.toNat > 1 || l.isEmpty || l.length > 64 || !l.all isCounter then d.refuse c stBadParam
  else
    let data := (l.map d.counterEntry).flatten
    (if flags = 1 then l.foldl (fun d id => d.clearCounter id) d else d).reply c stOk data

/-- The bucket of an occupancy `o` of a queue of capacity `c` (R500). -/
def bucketOf (o c : Nat) : Nat := if o = 0 then 0 else min 7 ((7 * o + c - 1) / c)

/-- One sample of a histogram. -/
def Dev.sampleQueue (d : Dev) (id o c : Nat) : Dev :=
  let b := bucketOf o c
  let d := d.setCounter id b (satInc 32 (d.counter id b))
  if o > d.counter id 8 then d.setCounter id 8 o else d

/-- Flits of a VC that stand in an edge router, which holds 16 of them (R140): on their way to it or waiting to be taken. -/
def Dev.edgeLoad (d : Dev) (e vc : Nat) : Nat :=
  min 16 (d.bufferFlits (32 + e) pNorth vc + d.bufferFlits (32 + e) pOut vc)

/-- An edge router's VC is sampled: histogram 3 times the edge plus the VC. -/
def Dev.sampleEdge (d : Dev) (k : Nat) : Dev := d.sampleQueue k (d.edgeLoad (k / 3) (k % 3)) 16

/-- HISTOGRAM_SAMPLE: every queue's occupancy is counted (R500). -/
def Dev.sampleAll (d : Dev) : Dev :=
  let d := (List.range 24).foldl (fun d k => d.sampleEdge k) d
  let d := d.sampleQueue 0x40 d.hl.slots.length 16
  let d := d.sampleQueue 0x41 d.mdl.resq.length 256
  let d := d.sampleQueue 0x42 d.sill.lookups0.length Config.lookupCap
  let d := d.sampleQueue 0x43 d.sill.lookups1.length Config.lookupCap
  let d := d.sampleQueue 0x44 (d.storm.samples.filter (fun x => x.st != .due)).length 64
  (List.range 16).foldl (fun d i => d.sampleQueue (0x105 + 16 * i) (d.heldBy i).length 128) d

/-! ### The trace (R501, R503, R580) -/

/-- TRACE_CONFIG. -/
def cmdTraceConfig (ctrl : Word) (flags : Byte) (c : Cmd) (d : Dev) : Dev :=
  if flags.toNat > 1 || ctrl &&& 0xFC00FFFC != 0 then d.refuse c stBadParam
  else if wbit ctrl 0 && d.tableInTrace then d.refuse c stBusy
  else
    let d := d.setReg 0xC0010 ctrl
    let d := if flags = 1 then
        { d with dbg := { d.dbg with traceNext := 0, traceWrapped := false, traceFull := false, traceDropped := 0 } }
      else d
    d.ok c

/-- TRACE_RECORD_WRITE: the oldest record of the FIFO is written through sill1; while SILL is closed it is dropped. -/
def Dev.traceWrite (d : Dev) : Dev :=
  match d.dbg.fifo with
  | [] => d
  | r :: rest =>
    if !d.traceOn || d.sill.clearing then d
    else
      let d := { d with dbg := { d.dbg with fifo := rest } }
      if !d.isOpen 4 || d.dbg.traceFull then { d with dbg := { d.dbg with traceDropped := satInc 12 d.dbg.traceDropped } }
      else
        let n := d.dbg.traceNext
        let d := d.sillStore (0x1F00000 + 16 * n) r
        if n < 65535 then { d with dbg := { d.dbg with traceNext := n + 1 } }
        else if d.bitAt 0xC0010 1 then { d with dbg := { d.dbg with traceFull := true } }
        else { d with dbg := { d.dbg with traceNext := 0, traceWrapped := true } }

/-! ### Harts of the debug module (R487, R488) -/

/-- The hart is there: a casement whose quadrant has power, or the hinge core. -/
def Dev.hartUp (d : Dev) (h : Nat) : Bool := h == 32 || (h < 32 && d.isPowered (quadOf h))

/-- A halt request takes effect (R487, R496). -/
def Dev.dmHalt (d : Dev) (h : Nat) : Dev := if d.hartUp h then d.haltHart h else d

/-- A resume request: the hart runs on; what a debugger wrote to the hinge core's registers is the hinge's again. -/
def Dev.dmResume (d : Dev) (h : Nat) : Dev :=
  if !d.hartHalted h then d
  else
    let j := d.dbg.jtag
    { d with dbg := { d.dbg with jtag := { j with
        halted := maskOfList ((onesOf 33 j.halted).filter (· != h)), resumeAck := maskOfList (onesOf 33 j.resumeAck ++ [h])
        hingeRegs := if h = 32 then [] else j.hingeRegs } } }

/-- The result of an abstract command: it waits for sill (R195, R197), a value, or cmderr (2 not supported, 3 exception). -/
inductive AbsOut where
  | wait
  | value (w : Word)
  | done
  | error (e : Nat)
  deriving DecidableEq, Repr

/-- dcsr of a halted hart: version 4, machine mode, halted by request (PRESUMED from the RISC-V debug specification). -/
def dcsrWord : Word := 0x400000C3

/-- Access Register on a casement hart: general registers, CSRs, dpc and dcsr. -/
def Dev.accCasReg (d : Dev) (c regno : Nat) (write : Bool) (v : Word) : AbsOut × Dev :=
  let k := d.cas c
  if 0x1000 ≤ regno ∧ regno < 0x1020 then
    if write then (.done, d.setCas c (k.setX (regno - 0x1000) v)) else (.value (k.xr (regno - 0x1000)), d)
  else if regno = 0x7B1 then
    if write then (.done, d.setCas c { k with pc := v &&& 0xFFFFFFFE, judged := false }) else (.value k.pc, d)
  else if regno = 0x7B0 then (if write then .done else .value dcsrWord, d)
  else if regno < 0x1000 then
    match d.csrRead c regno with
    | none => (.error 3, d)
    | some (w, d') =>
      if !write then (.value w, d')
      else if fld regno 10 2 = 3 then (.error 3, d)
      else (.done, d.setCas c (k.csrWrite regno v))
  else (.error 2, d)

/-- Access Register on the hinge core, whose registers the manual does not give: a written register holds its value until the
hart resumes, any other reads a free value. -/
def Dev.accHingeReg (d : Dev) (regno : Nat) (write : Bool) (v : Word) : AbsOut × Dev :=
  let j := d.dbg.jtag
  if regno ≥ 0x1020 then (.error 2, d)
  else if regno = 0x1000 then (if write then .done else .value 0, d)
  else if write then
    (.done, { d with dbg := { d.dbg with jtag := { j with hingeRegs := (regno, v) :: j.hingeRegs.filter (fun e => e.1 != regno) } } })
  else
    match j.hingeRegs.find? (fun e => e.1 == regno) with
    | some (_, w) => (.value w, d)
    | none =>
      let (i, d) := d.draw
      (.value (Config.freeWord i), d)

/-- Access Memory by a casement hart in its own map (R127, R487), at once: a closed place loads zero and stores nothing. -/
def Dev.accCasMem (d : Dev) (c a n : Nat) (write : Bool) (v : Word) : AbsOut × Dev :=
  let read := fun (r : Word × Dev) => (AbsOut.value r.1, r.2)
  if a % n ≠ 0 then (.error 3, d)
  else
    match placeOf a n write with
    | .fault => (.error 3, d)
    | .sram o => if write then (.done, d.sramStore c o (leBytes n v.toNat)) else (.value (wordOf (leNat (d.sramBytes c o n))), d)
    | .own o => if write then (.done, d.busWrite (aCsm c o) v) else read (d.busRead (aCsm c o))
    | .reg _ =>
      if !d.regOpen a then (if write then .done else .value 0, d)
      else if write then (.done, if (d.writeRefusal c a v).isNone then d.busWrite a v else d)
      else read (d.busRead a)
    | .sill _ =>
      if !d.isOpen 4 then (if write then .done else .value 0, d)
      else if write then
        if (d.writeGate c a n).isSome then (.done, d)
        else if d.writeHeld a n then (.wait, d.sillHold (.dbg a n true v))
        else (.done, (d.sillWrite a (leBytes n v.toNat)).2)
      else if d.sill.clearing then (.wait, d.sillHold (.dbg a n false v))
      else
        let (r, d) := d.sillRead a n
        (.value (wordOf (leNat r.bytes)), d)

/-- Access Memory by the hinge core: its memory is not in the manual; a read gives a free value, a write changes nothing that
the manual names. -/
def Dev.accHingeMem (d : Dev) (write : Bool) : AbsOut × Dev :=
  if write then (.done, d)
  else
    let (i, d) := d.draw
    (.value (Config.freeWord i), d)

/-- Access Register on a hart that must be halted (cmderr 4 otherwise). -/
def Dev.accReg (d : Dev) (h regno : Nat) (write : Bool) (v : Word) : AbsOut × Dev :=
  if !d.hartHalted h then (.error 4, d)
  else if h = 32 then d.accHingeReg regno write v
  else d.accCasReg h regno write v

/-- Access Memory on a hart that must be halted; `size` 0 byte, 1 half-word, 2 word. -/
def Dev.accMem (d : Dev) (h a size : Nat) (write : Bool) (v : Word) : AbsOut × Dev :=
  if !d.hartHalted h then (.error 4, d)
  else if size > 2 then (.error 2, d)
  else if h = 32 then d.accHingeMem write
  else d.accCasMem h a (2 ^ size) write v

/-- An abstract command ends: data0 takes the value, or cmderr the error. -/
def Dev.absEnd (r : AbsOut × Dev) : Dev :=
  let d := r.2
  let j := d.dbg.jtag
  let j := match r.1 with
    | .wait => { j with busy := true }
    | .value w => { j with data0 := w }
    | .done => j
    | .error e => { j with cmderr := e }
  { d with dbg := { d.dbg with jtag := j } }

/-! ### Registers of the debug module (R487; layouts PRESUMED from the RISC-V external debug specification) -/

/-- The selected hart. -/
def Dev.hartSel (d : Dev) : Nat := wfld d.dbg.jtag.dmcontrol 16 10

/-- dmstatus of the selected hart. -/
def Dev.dmStatus (d : Dev) : Word :=
  let h := d.hartSel
  let two := fun (lo : Nat) (b : Bool) => b2n b * 3 * 2 ^ lo
  let up := d.hartUp h
  wordOf (Config.dmVersion % 16 + 2 ^ 7 + two 8 (up && d.hartHalted h) + two 10 (up && !d.hartHalted h) + two 12 (h < 32 && !up)
    + two 14 (h > 32) + two 16 (h ≤ 32 && bitOf d.dbg.jtag.resumeAck h))

/-- A read through the DMI. -/
def Dev.dmRead (d : Dev) (a : Nat) : Word :=
  let j := d.dbg.jtag
  if a = 0x04 then j.data0
  else if a = 0x05 then j.data1
  else if a = 0x10 then j.dmcontrol
  else if a = 0x11 then d.dmStatus
  else if a = 0x13 then wordOf (b2n (j.halted % 2 ^ 32 != 0) + b2n (bitOf j.halted 32) * 2)
  else if a = 0x16 then wordOf (2 + j.cmderr * 2 ^ 8 + b2n j.busy * 2 ^ 12)
  else if a = 0x40 then wordOf (if d.hartSel < 32 then j.halted else j.halted / 2 ^ 32)
  else 0

/-- dmcontrol is written: dmactive, ndmreset and the selected hart are stored, and a halt or resume request acts on it. A rise
of ndmreset asks for SYSRST with cause DEBUG (R350; its level PRESUMED, log entry 162). -/
def Dev.dmControl (d : Dev) (v : Word) : Dev :=
  if !wbit v 0 then
    { d with dbg := { d.dbg with jtag := { d.dbg.jtag with dmcontrol := 0, data0 := 0, data1 := 0, cmderr := 0, resumeAck := 0, busy := false } } }
  else
    let h := wfld v 16 6
    let ndm := wbit d.dbg.jtag.dmcontrol 1
    let ack := if wbit v 30 then maskOfList ((onesOf 33 d.dbg.jtag.resumeAck).filter (· != h)) else d.dbg.jtag.resumeAck
    let d := { d with dbg := { d.dbg with jtag := { d.dbg.jtag with dmcontrol := wordOf (1 + b2n (wbit v 1) * 2 + h * 2 ^ 16), resumeAck := ack } } }
    let d := d.onClock (fun d => if wbit v 31 then d.dmHalt h else if wbit v 30 then d.dmResume h else d)
    if wbit v 1 && !ndm then d.request 6 .sys else d

/-- The command register is written: Access Register (0) or Access Memory (2), unless an error stands; while a command is
busy, cmderr becomes 1 (PRESUMED, log entry 208). -/
def Dev.dmCommand (d : Dev) (v : Word) : Dev :=
  let j := d.dbg.jtag
  let h := d.hartSel
  if j.cmderr != 0 then d
  else if j.busy then { d with dbg := { d.dbg with jtag := { j with cmderr := 1 } } }
  else if wfld v 24 8 = 0 then
    if wbit v 18 then Dev.absEnd (.error 2, d)
    else if !wbit v 17 then Dev.absEnd (.done, d)
    else if wfld v 20 3 ≠ 2 then Dev.absEnd (.error 2, d)
    else Dev.absEnd (d.accReg h (wfld v 0 16) (wbit v 16) j.data0)
  else if wfld v 24 8 = 2 then
    let d := Dev.absEnd (d.accMem h j.data1.toNat (wfld v 20 3) (wbit v 16) j.data0)
    if wbit v 19 && d.dbg.jtag.cmderr == 0 then
      { d with dbg := { d.dbg with jtag := { d.dbg.jtag with data1 := j.data1 + wordOf (2 ^ wfld v 20 3) } } }
    else d
  else Dev.absEnd (.error 2, d)

/-- A write through the DMI; but for dmcontrol it acts only while dmactive is set. -/
def Dev.dmWrite (d : Dev) (a : Nat) (v : Word) : Dev :=
  let j := d.dbg.jtag
  if a = 0x10 then d.dmControl v
  else if !wbit j.dmcontrol 0 then d
  else if a = 0x04 then { d with dbg := { d.dbg with jtag := { j with data0 := v } } }
  else if a = 0x05 then { d with dbg := { d.dbg with jtag := { j with data1 := v } } }
  else if a = 0x16 then { d with dbg := { d.dbg with jtag := { j with cmderr := j.cmderr - Nat.land j.cmderr (wfld v 8 3) } } }
  else if a = 0x17 then d.onClock (fun d => d.dmCommand v)
  else d

/-! ### The TAP (R484 to R486) -/

/-- An instruction that a closed device treats as BYPASS: the bypass register's captured 0 leaves first. -/
def Dev.tapGate (d : Dev) (code : Nat) (f : Dev → Dev) : Dev :=
  let d := d.loadIr code
  if d.jtagOpen then f d else d.shiftOut 0

/-- The IDCODE register (R485). -/
def idcode : Nat := Config.silicon.toNat * 2 ^ 28 + 0x2410 * 2 ^ 12 + 0x5B7 * 2 + 1

/-- The boundary-scan register as captured: the input cells take the pins, the output and enable cells the bits of `outs`
(R609). -/
def boundaryCapture (inputs outs : Nat) : Nat :=
  ((List.range 49).map (fun i => (b2n (bitOf inputs i) + b2n (bitOf outs (3 * i + 1)) * 2 + b2n (bitOf outs (3 * i + 2)) * 4) * 2 ^ (3 * i))).sum

/-- EXTEST: the register is captured and shifted, and its latches drive the pins (R484, R609). -/
def Dev.extest (d : Dev) (shift inputs : Nat) : Dev :=
  let d := d.shiftOut (boundaryCapture inputs d.dbg.jtag.boundary)
  { d with dbg := { d.dbg with jtag := { d.dbg.jtag with boundary := shift % 2 ^ 147, extest := true } } }

/-- SAMPLE/PRELOAD: the cells sample the pins and what the device drives, and the latches are preloaded (R484, R609). -/
def Dev.samplePreload (d : Dev) (shift inputs : Nat) : Dev :=
  let (i, d) := d.draw
  let d := (d.loadIr 0x02).shiftOut (boundaryCapture inputs (d.sampleOuts (Config.freeNat i)))
  { d with dbg := { d.dbg with jtag := { d.dbg.jtag with boundary := shift % 2 ^ 147 } } }

/-- DTMCS: version 1, 7 address bits, no error. -/
def dtmcsWord : Nat := 1 + 7 * 16 + Config.dtmIdle % 8 * 2 ^ 12

/-- DMI: the result of the previous operation leaves, and the operation acts. -/
def Dev.dmi (d : Dev) (op : BitVec 2) (addr : BitVec 7) (data : Word) : Dev :=
  let d := d.shiftOut (d.dbg.jtag.dmiAddr.toNat * 2 ^ 34 + d.dbg.jtag.dmiData.toNat * 4)
  let put := fun (d : Dev) (w : Word) => { d with dbg := { d.dbg with jtag := { d.dbg.jtag with dmiData := w, dmiAddr := addr } } }
  if op = 1 then put d (d.dmRead addr.toNat)
  else if op = 2 then put (d.dmWrite addr.toNat data) data
  else d

/-! ### SCAN_STATE (R494) -/

/-- Lengths of the seven sections. -/
def scanLengths : List Nat := [8, 288, 160, 1568, 16, 32, 32]

/-- The section of a word of the stream, and its place there: 0 is the section's header. -/
def scanPlace : List Nat → Nat → Nat → Option (Nat × Nat)
  | [], _, _ => none
  | n :: l, id, pos => if pos ≤ n then some (id, pos) else scanPlace l (id + 1) (pos - (n + 1))

/-- The header section's words. -/
def Dev.scanHead (d : Dev) (k : Nat) : Word :=
  nthD [0x5343414E, d.dbgBolt ||| (if d.dbg.quiet then 0 else 0x80000000), wordOf d.dbg.boltFt.toNat,
    wordOf (d.dbg.boltFt.toNat / 2 ^ 32), wordOf d.stateWord, wordOf Config.uid.toNat, wordOf (Config.uid.toNat / 2 ^ 32),
    wordOf (Config.uid.toNat / 2 ^ 64)] k 0

/-- STATE of a ticket as the stream codes it: FREE, ISSUED, RUNNING, DONE. -/
def TicketSt.code : TicketSt → Nat
  | .free => 0 | .issued => 1 | .running => 2 | .done => 3

/-- The hinge section's words. -/
def Dev.scanHinge (d : Dev) (k : Nat) : Word :=
  if k < 32 then (if k % 2 = 0 then d.modelStat (k / 2) else wordOf (d.slot (k / 2)).step)
  else
    let t := d.ticket ((k - 32) / 2)
    if k % 2 = 0 then wordOf (t.st.code + t.slot * 256) else wordOf t.step

/-- A casement's words; none where the manual does not give the word's content. -/
def Dev.scanCas (d : Dev) (c k : Nat) : Option Word :=
  let v := d.cas c
  if k < 32 then some (v.xr k)
  else if k < 45 then
    some (nthD [v.pc, v.csrAt 0x300, v.csrAt 0x341, v.csrAt 0x342, v.csrAt 0x343, v.csrAt 0x305, v.csrAt 0x304, v.csrAt 0x7C3,
      wordOf v.irqPend, d.csmInbox c, d.csmStatus c, wordOf (maskOfList v.busySlots)] (k - 32) 0)
  else none

/-- A word of the stream: a section's header, its content, or a free value where the manual names no layout. -/
def Dev.scanWord (d : Dev) (pos : Nat) : Word × Dev :=
  let free := fun (d : Dev) => (Config.freeWord d.draw.1, d.draw.2)
  match scanPlace scanLengths 0 pos with
  | none => (0, d)
  | some (id, 0) => (wordOf (id + nthD scanLengths id 0 * 256), d)
  | some (0, k + 1) => (d.scanHead k, d)
  | some (1, k + 1) => (d.scanHinge k, d)
  | some (3, k + 1) =>
    match d.scanCas (k / 49) (k % 49) with
    | some w => (w, d)
    | none => free d
  | some (4, 1) => (d.stormView 0x80000, d)
  | some (_, _) => free d

/-- SCAN_STATE: the next word of the stream leaves; outside BOLTED, zeros. -/
def Dev.scanState (d : Dev) : Dev :=
  if !d.dbg.bolted then d.shiftOut 0
  else
    let pos := d.dbg.jtag.scanPos
    let (w, d) := d.scanWord pos
    let d := d.shiftOut w.toNat
    { d with dbg := { d.dbg with jtag := { d.dbg.jtag with scanPos := pos + 1 } } }

/-! ### Meanings -/

/-- BOLT (R489). -/
def execBolt (h : CmdHdr) (s : State) : Host.Outcome State Fault Refusal := onDev s (Dev.hostCmd 0x80 [] h cmdBolt)

/-- UNBOLT (R493). -/
def execUnbolt (h : CmdHdr) (s : State) : Host.Outcome State Fault Refusal := onDev s (Dev.hostCmd 0x81 [] h cmdUnbolt)

/-- LATCH_SET (R579). -/
def execLatchSet (h : CmdHdr) (hart index mtch actions : Byte) (count : Half) (value mask step : Word) (s : State) :
    Host.Outcome State Fault Refusal :=
  onDev s (Dev.hostCmd 0x82 ([hart, index, mtch, actions] ++ leBytes 2 count.toNat ++ [0, 0] ++ wordBytes value ++ wordBytes mask
    ++ wordBytes step) h (cmdLatchSet hart index mtch actions count value mask step))

/-- DUMP_TENSOR ARM (R498). -/
def execDumpTensorArm (h : CmdHdr) (slot : Byte) (symbol : Half) (step : Word) (s : State) : Host.Outcome State Fault Refusal :=
  onDev s (Dev.hostCmd 0x83 ([0, slot] ++ leBytes 2 symbol.toNat ++ wordBytes step) h (cmdDumpArm slot symbol step))

/-- DUMP_TENSOR CANCEL (R580). -/
def execDumpTensorCancel (h : CmdHdr) (slot : Byte) (symbol : Half) (step : Word) (s : State) : Host.Outcome State Fault Refusal :=
  onDev s (Dev.hostCmd 0x83 ([1, slot] ++ leBytes 2 symbol.toNat ++ wordBytes step) h (cmdDumpCancel slot symbol step))

/-- COUNTERS_READ (R499). -/
def execCountersRead (h : CmdHdr) (flags : Byte) (ids : List Half) (s : State) : Host.Outcome State Fault Refusal :=
  let count := BitVec.ofNat 8 ids.length
  onDev s (Dev.hostCmd 0x84 ([flags, count] ++ (ids.map (fun (x : Half) => leBytes 2 x.toNat)).flatten) h
    (cmdCountersRead flags count ids))

/-- TRACE_CONFIG (R580). -/
def execTraceConfig (h : CmdHdr) (ctrl : Word) (flags : Byte) (s : State) : Host.Outcome State Fault Refusal :=
  onDev s (Dev.hostCmd 0x85 (wordBytes ctrl ++ [flags]) h (cmdTraceConfig ctrl flags))

/-- BOLT_IO_LOW (R489). -/
def execBoltIoLow (s : State) : Host.Outcome State Fault Refusal := onAny s Dev.lineFalls

/-- TRIG_BOLT (R489). -/
def execTrigBolt (pin : Nat) (s : State) : Host.Outcome State Fault Refusal := onDev s (fun d => d.trigBolt pin)

/-- TRIG_MARK (R502). -/
def execTrigMark (pin value : Nat) (s : State) : Host.Outcome State Fault Refusal := onDev s (fun d => d.trigMark pin value)

/-- BOLT_QUIET (R490). -/
def execBoltQuiet (s : State) : Host.Outcome State Fault Refusal := onDev s Dev.boltQuiet

/-- BOLT_RELEASE (R493). -/
def execBoltRelease (s : State) : Host.Outcome State Fault Refusal := onAny s Dev.boltRelease

/-- HISTOGRAM_SAMPLE (R500). -/
def execHistogramSample (s : State) : Host.Outcome State Fault Refusal := onRun s Dev.sampleAll

/-- TRACE_RECORD_WRITE (R503). -/
def execTraceRecordWrite (s : State) : Host.Outcome State Fault Refusal := onRun s Dev.traceWrite

/-- TAP_RESET (R484): the instruction register holds IDCODE. -/
def execTapReset (s : State) : Host.Outcome State Fault Refusal := onAny s (fun d => d.loadIr 0x01)

/-- EXTEST (R484). -/
def execExtest (shift inputs : Nat) (s : State) : Host.Outcome State Fault Refusal :=
  onAny s (fun d => d.tapGate 0x00 (fun d => d.extest shift inputs))

/-- IDCODE (R485). -/
def execIdcode (s : State) : Host.Outcome State Fault Refusal := onAny s (fun d => (d.loadIr 0x01).shiftOut idcode)

/-- SAMPLE/PRELOAD (R484). -/
def execSamplePreload (shift inputs : Nat) (s : State) : Host.Outcome State Fault Refusal :=
  onAny s (fun d => d.samplePreload shift inputs)

/-- DTMCS (R484): a write that resets the transport's error finds none. -/
def execDtmcs (_value : Word) (s : State) : Host.Outcome State Fault Refusal :=
  onAny s (fun d => d.tapGate 0x10 (fun d => d.shiftOut dtmcsWord))

/-- DMI (R484, R487). -/
def execDmi (op : BitVec 2) (addr : BitVec 7) (data : Word) (s : State) : Host.Outcome State Fault Refusal :=
  onAny s (fun d => d.tapGate 0x11 (fun d => d.dmi op addr data))

/-- DM_HALT_REQUEST (R487). -/
def execDmHaltRequest (hart : Nat) (s : State) : Host.Outcome State Fault Refusal :=
  onAny s (fun d => d.tapGate 0x11 (fun d => d.onClock (fun d => d.dmHalt hart)))

/-- DM_RESUME (R487). -/
def execDmResume (hart : Nat) (s : State) : Host.Outcome State Fault Refusal :=
  onAny s (fun d => d.tapGate 0x11 (fun d => d.onClock (fun d => d.dmResume hart)))

/-- ACCESS_REGISTER (R487). -/
def execAccessRegister (hart regno : Nat) (write : Bool) (value : Word) (s : State) : Host.Outcome State Fault Refusal :=
  onAny s (fun d => d.tapGate 0x11 (fun d => d.onClock (fun d => Dev.absEnd (d.accReg hart regno write value))))

/-- ACCESS_MEMORY (R487). -/
def execAccessMemory (hart : Nat) (addr : Word) (size : Nat) (write : Bool) (value : Word) (s : State) :
    Host.Outcome State Fault Refusal :=
  onAny s (fun d => d.tapGate 0x11 (fun d => d.onClock (fun d => Dev.absEnd (d.accMem hart addr.toNat size write value))))

/-- SCAN_STATE (R494). -/
def execScanState (s : State) : Host.Outcome State Fault Refusal := onAny s (fun d => d.tapGate 0x20 Dev.scanState)

/-- BOLT_REQ with bit 0 (R489). -/
def execBoltReq (s : State) : Host.Outcome State Fault Refusal := onAny s (fun d => d.tapGate 0x21 (fun d => d.onClock (fun d => d.boltNow 2 0)))

/-- BOLT_REQ with bit 1 (R493). -/
def execBoltReqUnbolt (s : State) : Host.Outcome State Fault Refusal := onAny s (fun d => d.tapGate 0x21 Dev.unbolt)

/-- BYPASS (R484): one bit. -/
def execBypass (tdi : Bool) (s : State) : Host.Outcome State Fault Refusal :=
  onAny s (fun d => (d.loadIr 0x3F).shiftOut (b2n tdi))

end Sys2Proof.Machine
end

