-- ==== Sys2Proof/Machine/HostLink.lean ====
section
/-! DEFINITION. The SPI transactions of the host link, the entry of packets into the outbound stream and its start (R514 to
R546). -/
namespace Sys2Proof.Machine

/-! ### Received packets (R518, R522, R523) -/

/-- The bytes of a WRITE transaction, packet by packet: a byte that is no SYNC is discarded; LENGTH above 4,096 and a wrong
CRC get a link reply and end the transaction; bytes that end inside a packet are a truncated packet (R522). -/
def Dev.receive : Nat → List Byte → Dev → Dev
  | 0, _, d => d
  | _ + 1, [], d => d
  | n + 1, x :: rest, d =>
    let b := x :: rest
    let head := if bitOf (nthD b 3 0).toNat 0 then 8 else 6
    let len := uAt b 4 2
    if x ≠ 0xA5 then Dev.receive n rest (d.linkError 1 0)
    else if b.length < 6 then d.linkError 2 1
    else if len > 4096 then (d.linkError 4 3).linkReply (nthD b 1 0) (nthD b 2 0) stBadLength
    else if b.length < head + len + 2 then d.linkError 2 1
    else
      match parseCommand (b.take (head + len + 2)) with
      | none => (d.linkError 3 2).linkReply (nthD b 1 0) (nthD b 2 0) stBadCrc
      | some sl => Dev.receive n (b.drop (head + len + 2)) (d.accept sl)

/-- COMMAND_PACKET (R522): the bytes that a WRITE transaction carries. -/
def execCommandPacket (bytes : List Byte) (s : State) : Host.Outcome State Fault Refusal :=
  onDev s (fun d => if d.hl.ready then Dev.receive (bytes.length + 1) bytes d else d)

/-- TRUNCATED_PACKET (R522): HCS_N rises inside a packet; what it carried is discarded. -/
def execTruncatedPacket (_bytes : List Byte) (s : State) : Host.Outcome State Fault Refusal :=
  onDev s (fun d => if d.hl.ready then d.linkError 2 1 else d)

/-- The instructions of R515. -/
def spiInstruction (code : Byte) : Bool := [0x02, 0x32, 0x0B, 0x6B, 0x05].contains code

/-- UNKNOWN_INSTRUCTION (R515): no pin is driven. -/
def execUnknownInstruction (code : Byte) (s : State) : Host.Outcome State Fault Refusal :=
  onDev s (fun d => if !d.hl.ready || spiInstruction code then d else { d.linkError 1 0 with hl.driven := [] })

/-! ### READ and STATUS (R515, R516, R526, R528) -/

/-- `n` bytes leave the stream, oldest first; a packet that is not read to its end keeps its rest (R526). -/
def takeStream : Nat → List OutPkt → List OutPkt
  | _, [] => []
  | n, p :: l => if p.bytes.length ≤ n then takeStream (n - p.bytes.length) l else { p with bytes := p.bytes.drop n } :: l

/-- The bytes of a stream, oldest first. -/
def streamOf (l : List OutPkt) : List Byte := (l.map (·.bytes)).flatten

/-- A READ of `n` bytes: past the last waiting byte it receives zeros; HIRQ_N is released when no byte of a flagged packet
remains unread (R526, R528); with the last NOTE_VERDICT read, the next may be created (R532). -/
def Dev.readStream (d : Dev) (n : Nat) : Dev :=
  let left := takeStream n d.hl.stream
  let release := d.hl.hirqLow && !left.any (·.flagged)
  { d with hl := { d.hl with
    driven := padTo n ((streamOf d.hl.stream).take n)
    stream := left
    hirqLow := d.hl.hirqLow && !release
    holdoff := d.hl.holdoff || release } }.noteVerdict

/-- READ_TRANSACTION (R526). -/
def execReadTransaction (n : Nat) (s : State) : Host.Outcome State Fault Refusal :=
  onDev s (fun d => if d.hl.ready then d.readStream n else d)

/-- STATUS_TRANSACTION (R516) of `n` bytes: the link status word repeats, and ERR is cleared. -/
def execStatusTransaction (n : Nat) (s : State) : Host.Outcome State Fault Refusal :=
  onDev s (fun d =>
    if d.hl.ready then
      { d with hl := { d.hl with
        driven := (List.range n).map (fun k => nthD (wordBytes d.linkStatus) (k % 4) 0), err := false } }
    else d)

/-- HIRQ_N_HOLDOFF_END (R528). -/
def execHirqNHoldoffEnd (s : State) : Host.Outcome State Fault Refusal :=
  onDev s (fun d => { d with hl := { d.hl with holdoff := false, hirqLow := d.hl.hirqLow || d.hl.flagged } })

/-! ### Entry into the stream (R526, R527, R532) -/

/-- The reply of a slot that waits for room. -/
def CmdSlot.reply (s : CmdSlot) : Option OutPkt := match s.phase with | .waiting p => some p | _ => none

/-- The oldest waiting link reply enters, else the oldest waiting reply, which frees its slot, if the stream has room for all
of it (R526, R527). -/
def Dev.replyEnters (d : Dev) : Dev :=
  match d.hl.linkReplies with
  | p :: l => if d.hl.room p.bytes then { d with hl := { d.hl with linkReplies := l }.push p } else d
  | [] =>
    match d.hl.slots.find? (fun s => s.reply.isSome) with
    | none => d
    | some sl =>
      match sl.reply with
      | some p => if d.hl.room p.bytes then { d with hl := { d.hl with slots := d.hl.slots.erase sl }.push p } else d
      | none => d

/-- REPLY_ENTERS_STREAM (R527). -/
def execReplyEntersStream (s : State) : Host.Outcome State Fault Refusal := onDev s Dev.replyEnters

/-- Nothing that goes before notifications waits (R527). -/
def HostLink.noReplies (h : HostLink) : Bool := h.linkReplies.isEmpty && !h.repliesWaiting

/-- A notification's packet. -/
def Dev.notePkt (d : Dev) (n : Note) : OutPkt :=
  { bytes := notePacket n.typ n.seq n.data, flagged := true, verdict := n.typ == 1 + 32 * d.stackId }

/-- The oldest waiting notification enters if there is room and no reply waits (R527). -/
def Dev.noteEnters (d : Dev) : Dev :=
  match d.hl.notes with
  | [] => d
  | n :: l =>
    let p := d.notePkt n
    if d.hl.ready && d.hl.noReplies && d.hl.room p.bytes then { d with hl := { d.hl with notes := l }.push p } else d

/-- NOTIFICATION_ENTERS_STREAM (R527). -/
def execNotificationEntersStream (s : State) : Host.Outcome State Fault Refusal := onDev s Dev.noteEnters

/-- One NOTE_CONFIRM or NOTE_RETRACT of the oldest waiting resolutions of one kind, at most 64, enters behind everything else
that waits (R527, R532). -/
def Dev.resolEnters (d : Dev) : Dev :=
  match d.hl.resols with
  | [] => d
  | r :: _ =>
    let run := (d.hl.resols.take 64).takeWhile (fun x => x.retract == r.retract)
    let typ := (if r.retract then 3 else 2) + 32 * d.stackId
    let p := d.notePkt { typ := typ, seq := d.hl.seq, data := (run.map (·.data)).flatten }
    if d.hl.ready && d.hl.noReplies && d.hl.notes.isEmpty && d.hl.room p.bytes then
      { d with hl := { d.hl with resols := d.hl.resols.drop run.length, seq := (d.hl.seq + 1) % 65536 }.push p }
    else d

/-- RESOLUTION_ENTERS_STREAM (R532). -/
def execResolutionEntersStream (s : State) : Host.Outcome State Fault Refusal := onDev s Dev.resolEnters

/-! ### Deadlines (R525, R536, R543) -/

/-- The slot of a queued command. -/
def queuedSlot (tag : Byte) (s : CmdSlot) : Bool := s.tag == tag && s.phase == .queued

/-- The command of a slot of the host link. -/
def CmdSlot.cmd (s : CmdSlot) (src : Option Nat) : Cmd := { fromPort := src, op := s.op, tag := s.tag, notify := bitOf s.flags.toNat 1 }

/-- A slot of the host link becomes taken. -/
def Dev.markTaken (d : Dev) (sl : CmdSlot) : Dev :=
  { d with hl := { d.hl with slots := d.hl.slots.map (fun s => if s.tag == sl.tag then { s with phase := .taken } else s) } }

/-- A queued command with a deadline ends with TIMEOUT (R525); one of the master's likewise (R405). Between a RESET and the
reset it asks for, no command that waits gets a reply (R351, R546). -/
def Dev.deadlineExpiry (d : Dev) (tag : Byte) : Dev :=
  if d.rst.hostPending.isSome then d
  else match d.hl.slots.find? (fun s => queuedSlot tag s && s.deadline.isSome) with
  | some sl => (d.markTaken sl).refuse (sl.cmd none) stTimeout
  | none =>
    match d.hl.stackCmds.find? (fun e => e.2.tag == tag && e.2.deadline.isSome) with
    | some e => ({ d with hl := { d.hl with stackCmds := d.hl.stackCmds.erase e } }).refuse (e.2.cmd (some e.1)) stTimeout
    | none => d

/-- DEADLINE_EXPIRY (R525). -/
def execDeadlineExpiry (tag : Byte) (s : State) : Host.Outcome State Fault Refusal := onDev s (fun d => d.deadlineExpiry tag)

/-! ### The link becomes ready (R381, R535) -/

/-- Notifications held from before readiness take the numbers that follow (R529, R535). -/
def renumberNotes : Nat → List Note → List Note
  | _, [] => []
  | n, x :: l => { x with seq := n % 65536 } :: renumberNotes (n + 1) l

/-- The link is ready: LINK_UP is its first packet, DOORSTEP the next, held notifications follow, and HIRQ_N goes low; the
tamper log's unreported entries and a waiting record are then told (R473, R532, R535). -/
def Dev.linkUp (d : Dev) : Dev :=
  let typ := 8 + 32 * d.stackId
  let up := d.notePkt { typ := typ, seq := 0, data := d.stateNoteData 1 0 0 ++ wordBytes (d.reg 0x10100) }
  let door := d.notePkt { typ := typ, seq := 1, data := d.stateNoteData 2 0 d.lin.doorReason ++ leBytes 4 d.startFailRecord }
  let first := if d.sys.doorstepNote then [up, door] else [up]
  let d := { d with
    hl := { d.hl with
      ready := true, stream := first, hirqLow := true, holdoff := false
      notes := renumberNotes first.length d.hl.notes, seq := (first.length + d.hl.notes.length) % 65536 }
    sys := { d.sys with doorstepNote := false } }
  d.noteAlarm.noteVerdict

/-- LINK_UP (R517, R535): once the hinge runs after a reset. -/
def execLinkUp (s : State) : Host.Outcome State Fault Refusal :=
  onDev s (fun d => if d.rst.hingeUp && d.rst.asserted.isNone && !d.hl.ready then d.linkUp else d)

end Sys2Proof.Machine
end

