-- ==== Sys2Proof/Machine/HostCommands.lean ====
section
/-! DEFINITION. A command that waits in a slot, or comes from the master in a CMD frame, is taken, judged and executed by its
opcode and parameter bytes (R388, R389, R406, R524, R547 to R582). -/
namespace Sys2Proof.Machine

/-! ### LENGTH and reserved bytes (R547, R549) -/

/-- The least and the greatest LENGTH of every opcode (the opcode map of R547). -/
def lengthRanges : List (Nat × Nat × Nat) :=
  [(0x00, 0, 0), (0x01, 0, 0), (0x02, 0, 0), (0x03, 1, 1), (0x04, 0, 0), (0x05, 0, 0), (0x06, 5, 4096), (0x07, 8, 8),
   (0x08, 8, 4096), (0x10, 2, 2), (0x11, 2, 2), (0x12, 0, 0), (0x13, 0, 0), (0x14, 1, 1)]
  ++ [(0x20, 8, 8), (0x21, 1, 4096), (0x22, 1, 1), (0x23, 1, 1), (0x24, 2, 2), (0x25, 2, 2), (0x26, 6, 6), (0x30, 5, 4096),
   (0x31, 8, 8), (0x32, 1, 1), (0x33, 1, 1), (0x34, 8, 8), (0x35, 1, 1), (0x36, 20, 1356)]
  ++ [(0x40, 5, 4096), (0x41, 6, 6), (0x42, 32, 32), (0x43, 8, 8), (0x50, 12, 12), (0x51, 34, 34), (0x52, 1, 1), (0x53, 12, 36),
   (0x54, 2, 14), (0x55, 4, 132), (0x56, 1, 1), (0x57, 0, 0), (0x58, 2, 2), (0x59, 16, 16)]
  ++ [(0x60, 1, 4096), (0x61, 1, 1), (0x62, 1, 1), (0x63, 9, 4096), (0x64, 1, 1028), (0x65, 12, 12), (0x70, 4, 4), (0x71, 3, 66),
   (0x72, 2, 2), (0x73, 1, 1), (0x80, 0, 0), (0x81, 0, 0), (0x82, 20, 20), (0x83, 8, 8), (0x84, 4, 130), (0x85, 5, 5)]
  ++ [(0x90, 4, 68), (0x91, 32, 32), (0x92, 2, 2), (0x93, 0, 64), (0x94, 2, 66)]

/-- What the map says beyond a range: multiples and single values. -/
def lengthShape (op n : Nat) (p : List Byte) : Bool :=
  if op = 0x08 then n % 8 == 0
  else if op = 0x21 then n ≤ 16 || n % 256 == 0
  else if op = 0x53 then [12, 20, 28, 36].contains n
  else if op = 0x54 then n == 2 || n == 14
  else if op = 0x55 then n == 4 + 4 * uAt p 2 1
  else if op = 0x64 then n == 1 || n ≥ 5
  else if op = 0x90 then [4, 20, 68].contains n
  else if op = 0x93 then n == 0 || n == 64
  else if op = 0x94 then [2, 34, 66].contains n
  else true

/-- LENGTH is one that the opcode accepts (R547). -/
def lengthOk (op : Nat) (p : List Byte) : Bool :=
  lengthRanges.any (fun e => e.1 == op && e.2.1 ≤ p.length && p.length ≤ e.2.2) && lengthShape op p.length p

/-- Offsets of the parameter bytes that must be zero (R549). -/
def reservedBytes (op : Nat) (p : List Byte) : List Nat :=
  if op = 0x07 ∨ op = 0x31 ∨ op = 0x82 then [6, 7]
  else if op = 0x20 ∨ op = 0x50 ∨ op = 0x59 ∨ op = 0x90 then [2, 3]
  else if op = 0x26 ∨ op = 0x63 ∨ op = 0x65 then [1]
  else if op = 0x36 then [1, 2, 3]
  else if op = 0x53 then [3]
  else if op = 0x94 ∧ uAt p 0 1 = 1 then [1]
  else []

/-- FLAGS[7:3] of the packet and the reserved parameter bytes are zero (R518, R549). -/
def reservedOk (op : Nat) (flags : Byte) (p : List Byte) : Bool :=
  flags.toNat < 8 && (reservedBytes op p).all (fun k => nthD p k 0 == 0)

/-! ### The commands by opcode -/

/-- A parameter word. -/
def wordAt (p : List Byte) (k : Nat) : Word := wordOf (uAt p k 4)

/-- A parameter of two bytes. -/
def halfAt (p : List Byte) (k : Nat) : Half := BitVec.ofNat 16 (uAt p k 2)

/-- The first `n` of a list of bytes as words. -/
def wordsFrom (p : List Byte) (k n : Nat) : List Word := (List.range n).map (fun i => wordAt p (k + 4 * i))

/-- The subcommand's own LENGTH, or BAD_LENGTH (R547). -/
def withLength (p : List Byte) (n : Nat) (f : Cmd → Dev → Dev) (c : Cmd) (d : Dev) : Dev :=
  if p.length = n then f c d else d.refuse c stBadLength

/-- A subcommand that the spec does not give is out of range (R549). -/
def badSub (c : Cmd) (d : Dev) : Dev := d.refuse c stBadParam

/-- System and power commands (R552 to R557). -/
def runSystem (op : Nat) (p : List Byte) : Cmd → Dev → Dev :=
  if op = 0x00 then cmdNop
  else if op = 0x01 then cmdIdentify
  else if op = 0x02 then cmdGetState
  else if op = 0x03 then cmdReset (nthD p 0 0)
  else if op = 0x04 then cmdStartAbort
  else if op = 0x05 then cmdDoorstepRelease
  else if op = 0x06 then cmdPatchLoad (wordAt p 0) (p.drop 4)
  else if op = 0x07 then cmdReadReg (wordAt p 0) (halfAt p 4)
  else if op = 0x08 then cmdWriteReg ((List.range (p.length / 8)).map (fun k => (wordAt p (8 * k), wordAt p (8 * k + 4)))) []
  else if op = 0x10 then cmdShutterOpen (halfAt p 0)
  else if op = 0x11 then cmdShutterClose (halfAt p 0)
  else if op = 0x12 then cmdDoze
  else if op = 0x13 then cmdWake
  else cmdClockConfig (nthD p 0 0)

/-- Pane and model commands (R558 to R566). -/
def runModel (op : Nat) (p : List Byte) : Cmd → Dev → Dev :=
  if op = 0x20 then cmdPaneProgram (nthD p 0 0) (nthD p 1 0) (wordAt p 4)
  else if op = 0x21 then (if p.length ≤ 16 then cmdPaneAuditRetained p else cmdPaneAudit p)
  else if op = 0x22 then cmdPaneSelftest (nthD p 0 0)
  else if op = 0x23 then cmdPaneRetire (nthD p 0 0)
  else if op = 0x24 then cmdPaneGraft (nthD p 0 0) (nthD p 1 0)
  else if op = 0x25 then cmdPaneStatus (nthD p 0 0) (nthD p 1 0)
  else if op = 0x26 then cmdLedgerRead (nthD p 0 0) (halfAt p 2) (halfAt p 4)
  else if op = 0x30 then cmdModelLoad (nthD p 0 0) (uAt p 1 3) (p.drop 4)
  else if op = 0x31 then cmdModelStart (nthD p 0 0) (nthD p 1 0) (nthD p 2 0) (nthD p 3 0) (halfAt p 4)
  else if op = 0x32 then cmdModelStop (nthD p 0 0)
  else if op = 0x33 then cmdModelUnload (nthD p 0 0)
  else if op = 0x34 then cmdRunWindow (nthD p 0 0) (nthD p 1 0) (nthD p 2 0) (nthD p 3 0) (wordAt p 4)
  else if op = 0x35 then cmdResultRead (nthD p 0 0)
  else cmdCheckConfig (nthD p 0 0) (p.drop 4)

/-- PROBE_LIFE by its OP (R569, R571). -/
def runProbeLife (p : List Byte) : Cmd → Dev → Dev :=
  let op := uAt p 0 1
  if op = 0 then withLength p 2 (cmdLifeGet (nthD p 1 0))
  else if op = 1 then withLength p 14 (cmdLifeSet (nthD p 1 0) (wordAt p 2) (wordAt p 6) (halfAt p 10) (halfAt p 12))
  else if op = 2 then withLength p 2 (cmdLifeWrite (nthD p 1 0))
  else badSub

/-- Sill and front commands (R567 to R572). -/
def runFront (op : Nat) (p : List Byte) : Cmd → Dev → Dev :=
  if op = 0x40 then cmdSillWrite (wordAt p 0) (p.drop 4)
  else if op = 0x41 then cmdSillRead (wordAt p 0) (halfAt p 4)
  else if op = 0x42 then cmdTableDefine p
  else if op = 0x43 then cmdSillZero (wordAt p 0) (wordAt p 4)
  else if op = 0x50 then cmdProbeConfig (nthD p 0 0) (nthD p 1 0) (wordAt p 4) (wordAt p 8)
  else if op = 0x51 then cmdExcSet (halfAt p 0) ((List.range 16).map (fun k => halfAt p (2 + 2 * k)))
  else if op = 0x52 then cmdTedsRead (nthD p 0 0)
  else if op = 0x53 then cmdTedsWrite (nthD p 0 0) (nthD p 1 0) (nthD p 2 0) (p.drop 4)
  else if op = 0x54 then runProbeLife p
  else if op = 0x55 then cmdSurveySeq (nthD p 0 0) (nthD p 1 0) (nthD p 2 0) (nthD p 3 0) (wordsFrom p 4 (uAt p 2 1))
  else if op = 0x56 then cmdSurveyUrgent (nthD p 0 0)
  else if op = 0x57 then cmdSurveyCal
  else if op = 0x58 then cmdAcqCal (halfAt p 0)
  else cmdAcqConfig (halfAt p 0) (wordAt p 4) (wordAt p 8) (wordAt p 12)

/-- STACK_CONFIG by its SUB (R573). -/
def runStackConfig (p : List Byte) : Cmd → Dev → Dev :=
  let sub := uAt p 0 1
  if sub = 0 then withLength p 1 cmdStackForm
  else if sub = 1 then (if p.length < 2 then fun c d => d.refuse c stBadLength else cmdStackForward (nthD p 1 0) (p.drop 2))
  else if sub = 2 then withLength p 3 (cmdStackReset (nthD p 1 0) (nthD p 2 0))
  else if sub = 3 then withLength p 2 (cmdStackPorts (nthD p 1 0))
  else if sub = 4 then withLength p 1 cmdStackStatus
  else badSub

/-- FABRIC_SEND by its OP (R576). -/
def runFabricSend (p : List Byte) : Cmd → Dev → Dev :=
  let op := uAt p 0 1
  if op = 0 then (if p.length < 5 then fun c d => d.refuse c stBadLength else cmdFabricSend (nthD p 1 0) (halfAt p 2) (p.drop 4))
  else if op = 1 then withLength p 1 cmdFabricFetch
  else badSub

/-- Link and jamb commands (R573 to R578). -/
def runLink (op : Nat) (p : List Byte) : Cmd → Dev → Dev :=
  if op = 0x60 then runStackConfig p
  else if op = 0x61 then cmdFabricJoin (nthD p 0 0)
  else if op = 0x62 then cmdFabricLeave (nthD p 0 0)
  else if op = 0x63 then cmdFabricTable (nthD p 0 0) (halfAt p 2) (wordAt p 4) (p.drop 8)
  else if op = 0x64 then runFabricSend p
  else if op = 0x65 then cmdTimeAlign (nthD p 0 0) (halfAt p 2) (BitVec.ofNat 64 (uAt p 4 8))
  else if op = 0x70 then cmdJambRead (nthD p 0 0) (nthD p 1 0) (halfAt p 2)
  else if op = 0x71 then cmdJambWrite (nthD p 0 0) (nthD p 1 0) (p.drop 2)
  else if op = 0x72 then
    (if uAt p 1 1 = 0 then cmdJambCommit (nthD p 0 0) else if uAt p 1 1 = 1 then cmdJambDiscard (nthD p 0 0) else badSub)
  else cmdJambLock (nthD p 0 0)

/-- DUMP_TENSOR by its OP (R580). -/
def runDump (p : List Byte) : Cmd → Dev → Dev :=
  let op := uAt p 0 1
  if op = 0 then cmdDumpArm (nthD p 1 0) (halfAt p 2) (wordAt p 4)
  else if op = 1 then cmdDumpCancel (nthD p 1 0) (halfAt p 2) (wordAt p 4)
  else badSub

/-- COUNTERS_READ: LENGTH holds COUNT ids (R580). -/
def runCounters (p : List Byte) : Cmd → Dev → Dev :=
  withLength p (2 + 2 * uAt p 1 1)
    (cmdCountersRead (nthD p 0 0) (nthD p 1 0) ((List.range (uAt p 1 1)).map (fun k => halfAt p (2 + 2 * k))))

/-- KEY_PROVISION by its ACTION (R581). -/
def runKey (p : List Byte) : Cmd → Dev → Dev :=
  let act := uAt p 0 1
  let slot := nthD p 1 0
  if act = 0 then withLength p 4 (cmdKeyGenerate slot)
  else if act = 1 then withLength p 68 (cmdKeyWriteImage slot (p.drop 4))
  else if act = 2 then withLength p 20 (cmdKeyWriteFabric slot (p.drop 4))
  else if act = 3 then withLength p 20 (cmdKeyWriteStack slot (p.drop 4))
  else if act = 4 then withLength p 4 (cmdKeyReadPublic slot)
  else if act = 5 then withLength p 4 (cmdKeyClear slot)
  else badSub

/-- AUTH_CHALLENGE by its OP and PURPOSE (R582). -/
def runChallenge (p : List Byte) : Cmd → Dev → Dev :=
  let op := uAt p 0 1
  if op = 0 then
    (if uAt p 1 1 = 3 then withLength p 34 (cmdChallengeAttest (p.drop 2)) else withLength p 2 (cmdChallengeRequest (nthD p 1 0)))
  else if op = 1 then withLength p 66 (cmdChallengeAnswer (p.drop 2))
  else badSub

/-- Debug and security commands (R579 to R582). -/
def runDebug (op : Nat) (p : List Byte) : Cmd → Dev → Dev :=
  if op = 0x80 then cmdBolt
  else if op = 0x81 then cmdUnbolt
  else if op = 0x82 then
    cmdLatchSet (nthD p 0 0) (nthD p 1 0) (nthD p 2 0) (nthD p 3 0) (halfAt p 4) (wordAt p 8) (wordAt p 12) (wordAt p 16)
  else if op = 0x83 then runDump p
  else if op = 0x84 then runCounters p
  else if op = 0x85 then cmdTraceConfig (wordAt p 0) (nthD p 4 0)
  else if op = 0x90 then runKey p
  else if op = 0x91 then cmdSeal p
  else if op = 0x92 then cmdTamperPolicy (halfAt p 0)
  else if op = 0x93 then cmdAlarmClear p
  else runChallenge p

/-- The command of an assigned opcode, at step 6 of R388: LENGTH, then reserved fields, then the command itself (R549). -/
def runOpcode (flags : Byte) (p : List Byte) (c : Cmd) (d : Dev) : Dev :=
  let op := c.op.toNat
  if !lengthOk op p then d.refuse c stBadLength
  else if !reservedOk op flags p then d.refuse c stBadParam
  else if op < 0x20 then runSystem op p c d
  else if op < 0x40 then runModel op p c d
  else if op < 0x60 then runFront op p c d
  else if op < 0x80 then runLink op p c d
  else runDebug op p c d

/-! ### Taking a command (R389, R524) -/

/-- START_ABORT goes before all in WAKING, PRIORITY commands before all others, and those in order of acceptance (R389,
R524). -/
def pickSlot (waking : Bool) (l : List CmdSlot) : Option CmdSlot :=
  match l.find? (fun s => waking && s.op == 0x04) with
  | some s => some s
  | none =>
    match l.find? (fun s => bitOf s.flags.toNat 2) with
    | some s => some s
    | none => l.head?

/-- The queued commands of the host link. -/
def HostLink.queuedSlots (h : HostLink) : List CmdSlot := h.slots.filter (fun s => s.phase == .queued)

/-- A command taken on the tick on which its deadline expires is counted (R525). -/
def Dev.nearDeadline (d : Dev) (sl : CmdSlot) (onTick : Bool) : Dev :=
  if onTick && sl.deadline.isSome then d.satFld 0x208 0 16 else d

/-- A command of the master is judged as a host command (R405). -/
def Dev.runStack (d : Dev) (src : Nat) (sl : CmdSlot) : Dev := d.judge (sl.cmd (some src)) (runOpcode sl.flags sl.params)

/-- The next command of the master that waits is taken, where the host link has none. -/
def Dev.takeStack (d : Dev) (onTick : Bool) : Dev :=
  match pickSlot (d.sys.main == .waking) (d.hl.stackCmds.map (fun e => e.2)) with
  | none => d
  | some sl =>
    match d.hl.stackCmds.find? (fun e => e.2 == sl) with
    | none => d
    | some e =>
      if d.takes sl.op then
        (({ d with hl := { d.hl with stackCmds := d.hl.stackCmds.erase e } }).nearDeadline sl onTick).runStack e.1 sl
      else d

/-- The next queued command is taken, judged and executed (R388, R389, R524). -/
def Dev.takeCommand (d : Dev) (onTick : Bool) : Dev :=
  match pickSlot (d.sys.main == .waking) d.hl.queuedSlots with
  | none => d.takeStack onTick
  | some sl =>
    if d.takes sl.op then ((d.markTaken sl).nearDeadline sl onTick).judge (sl.cmd none) (runOpcode sl.flags sl.params) else d

/-- COMMAND_TAKEN (R524, R525). -/
def execCommandTaken (onDeadlineTick : Bool) (s : State) : Host.Outcome State Fault Refusal :=
  onDev s (fun d => d.takeCommand onDeadlineTick)

/-- A command of the master: it is taken at once, or waits while no command is taken or others of the master wait (R389,
R405, R406). A packet that is not whole and correct is dropped. -/
def Dev.cmdIn (d : Dev) (src : Nat) (packet : List Byte) : Dev :=
  match parseCommand packet with
  | none => d
  | some sl =>
    if d.rst.hingeUp && d.takes sl.op && (d.hl.stackCmds.isEmpty || (sl.op == 0x04 && d.sys.main == .waking)) then d.runStack src sl
    else { d with hl := { d.hl with stackCmds := d.hl.stackCmds ++ [(src, sl)] } }

/-- CMD (R406). -/
def execCmd (f : StkHdr) (packet : List Byte) (s : State) : Host.Outcome State Fault Refusal :=
  onDev s (fun d => d.stkRecv f 4 0 packet (fun d => d.cmdIn f.src packet))

end Sys2Proof.Machine
end

