-- ==== Sys2Proof/Machine/SillServe.lean ====
section
/-! DEFINITION. Held sill requests (07_sill.md R195, R197, R204): the end of the on-chip clear, the advance of a zero front, and
the service of every request that waited for them. -/
namespace Sys2Proof.Machine

/-- A held request must wait on. -/
def Dev.stillHeld (d : Dev) : SillHeld → Bool
  | .wr m => d.writeHeld (uAt m.payload 0 4) (m.payload.length - 4)
  | .write _ a bs => d.writeHeld a bs.length
  | .door a bs => d.writeHeld a bs.length
  | .reg a bs => d.writeHeld a bs.length
  | .dbg a n true _ => d.writeHeld a n
  | _ => d.sill.clearing

/-- The debugger's held access ends (R487). -/
def Dev.serveDbg (d : Dev) (a n : Nat) (write : Bool) (v : Word) : Dev :=
  let (w, d) := if write then (d.dbg.jtag.data0, (d.sillWrite a (leBytes n v.toNat)).2)
    else
      let (r, d) := d.sillRead a n
      (BitVec.ofNat 32 (leNat r.bytes), d)
  if d.dbg.jtag.busy then { d with dbg := { d.dbg with jtag := { d.dbg.jtag with data0 := w, busy := false } } } else d

/-- A held request is served. A write that was accepted under its lease is applied as it was accepted (R204). -/
def Dev.serveHeld (d : Dev) : SillHeld → Dev
  | .msg m => d.sillArrive m false none
  | .wr m => d.applyWr m
  | .write c a bs => d.hostWrite c a bs
  | .read c a n => d.hostRead c a n
  | .zero c a n => ((d.endLeases 32).sillZero a n).ok c
  | .door a bs => ((d.endLeases 37).sillWrite a bs).2
  | .reg a bs => ((d.endLeases 32).sillWrite a bs).2
  | .window c i ch w f a => cmdRunWindow i ch w f a c d
  | .program c p f a => cmdPaneProgram p f a c d
  | .dbg a n write v => d.serveDbg a n write v

/-- A held request is tried: it is served, or it keeps its place. -/
def Dev.tryHeld (d : Dev) (h : SillHeld) : Dev :=
  if d.stillHeld h then d else Dev.serveHeld { d with sill.held := d.sill.held.erase h } h

/-- Every held request is tried again, in order of arrival. -/
def Dev.retryHeld (d : Dev) : Dev := d.sill.held.foldl (fun d h => d.tryHeld h) d

/-- SILL_CLEAR_COMPLETE (R195); a close that waited for the clear starts (R342). -/
def Dev.sillCleared (d : Dev) : Dev :=
  if d.sill.clearing then
    let d := { d with sill.clearing := false }.retryHeld
    if d.isOpen 4 then d.closeWaiting 4 else d
  else d

/-- ZERO_FRONT_ADVANCE: the front of a die zeroes its row and passes it (R197, R203, R204). -/
def Dev.frontAdvance (d : Dev) (die : Nat) : Dev :=
  let row := d.sill.front die
  if die > 1 ∨ !d.sill.fronts ∨ !d.isPowered 4 ∨ d.sill.selfRefresh ∨ row ≥ dieRows then d
  else
    let a := dieRowAddr die row
    let d := { d with sill.mem := Tab.dropRange a 128 d.sill.mem, sill.flips := Tab.dropRange a 128 d.sill.flips }
    (if die = 0 then { d with sill.front0 := row + 1 } else { d with sill.front1 := row + 1 }).retryHeld

/-- SILL_CLEAR_COMPLETE (R195). -/
def execSillClearComplete (s : State) : Host.Outcome State Fault Refusal := onDev s Dev.sillCleared

/-- ZERO_FRONT_ADVANCE (R197). -/
def execZeroFrontAdvance (die : Nat) (s : State) : Host.Outcome State Fault Refusal := onRun s (fun d => d.frontAdvance die)

end Sys2Proof.Machine
end

