-- ==== Sys2Proof/Machine/Dispatch.lean ====
section
/-! DEFINITION. One arm per command: the meaning of its row of the opcode table. -/
namespace Sys2Proof.Machine

def exec (i : Instr) (s : State) : Host.Outcome State Fault Refusal :=
  match i with
  | .commandPacket bytes => Sys2Proof.Machine.execCommandPacket bytes s
  | .truncatedPacket bytes => Sys2Proof.Machine.execTruncatedPacket bytes s
  | .unknownInstruction code => Sys2Proof.Machine.execUnknownInstruction code s
  | .readTransaction n => Sys2Proof.Machine.execReadTransaction n s
  | .statusTransaction n => Sys2Proof.Machine.execStatusTransaction n s
  | .commandTaken onDeadlineTick => Sys2Proof.Machine.execCommandTaken onDeadlineTick s
  | .deadlineExpiry tag => Sys2Proof.Machine.execDeadlineExpiry tag s
  | .replyEntersStream => Sys2Proof.Machine.execReplyEntersStream s
  | .notificationEntersStream => Sys2Proof.Machine.execNotificationEntersStream s
  | .resolutionEntersStream => Sys2Proof.Machine.execResolutionEntersStream s
  | .linkUp => Sys2Proof.Machine.execLinkUp s
  | .nop h => Sys2Proof.Machine.execNop h s
  | .identify h => Sys2Proof.Machine.execIdentify h s
  | .getState h => Sys2Proof.Machine.execGetState h s
  | .reset h level => Sys2Proof.Machine.execReset h level s
  | .startAbort h => Sys2Proof.Machine.execStartAbort h s
  | .doorstepRelease h => Sys2Proof.Machine.execDoorstepRelease h s
  | .patchLoad h offset data => Sys2Proof.Machine.execPatchLoad h offset data s
  | .readReg h addr count => Sys2Proof.Machine.execReadReg h addr count s
  | .writeReg h writes => Sys2Proof.Machine.execWriteReg h writes s
  | .shutterOpen h mask => Sys2Proof.Machine.execShutterOpen h mask s
  | .shutterClose h mask => Sys2Proof.Machine.execShutterClose h mask s
  | .shutterCloseForce h mask => Sys2Proof.Machine.execShutterCloseForce h mask s
  | .doze h => Sys2Proof.Machine.execDoze h s
  | .wake h => Sys2Proof.Machine.execWake h s
  | .clockConfig h value => Sys2Proof.Machine.execClockConfig h value s
  | .paneProgram h pane flags addr => Sys2Proof.Machine.execPaneProgram h pane flags addr s
  | .paneAudit h records => Sys2Proof.Machine.execPaneAudit h records s
  | .paneAuditRetained h panes => Sys2Proof.Machine.execPaneAuditRetained h panes s
  | .paneSelftest h pane => Sys2Proof.Machine.execPaneSelftest h pane s
  | .paneRetire h pane => Sys2Proof.Machine.execPaneRetire h pane s
  | .paneGraft h target spare => Sys2Proof.Machine.execPaneGraft h target spare s
  | .paneStatus h first count => Sys2Proof.Machine.execPaneStatus h first count s
  | .ledgerRead h pane first count => Sys2Proof.Machine.execLedgerRead h pane first count s
  | .modelLoad h slot offset data => Sys2Proof.Machine.execModelLoad h slot offset data s
  | .modelStart h slot policy reserve dest mask => Sys2Proof.Machine.execModelStart h slot policy reserve dest mask s
  | .modelStop h slot => Sys2Proof.Machine.execModelStop h slot s
  | .modelUnload h slot => Sys2Proof.Machine.execModelUnload h slot s
  | .runWindow h slot channel wshift wflags addr => Sys2Proof.Machine.execRunWindow h slot channel wshift wflags addr s
  | .resultRead h max => Sys2Proof.Machine.execResultRead h max s
  | .checkConfig h slot sect => Sys2Proof.Machine.execCheckConfig h slot sect s
  | .sillWrite h addr data => Sys2Proof.Machine.execSillWrite h addr data s
  | .sillRead h addr len => Sys2Proof.Machine.execSillRead h addr len s
  | .sillTableDefine h desc => Sys2Proof.Machine.execSillTableDefine h desc s
  | .sillZero h addr len => Sys2Proof.Machine.execSillZero h addr len s
  | .probeConfig h channel ops sens sup => Sys2Proof.Machine.execProbeConfig h channel ops sens sup s
  | .excSet h mask codes => Sys2Proof.Machine.execExcSet h mask codes s
  | .tedsRead h channel => Sys2Proof.Machine.execTedsRead h channel s
  | .tedsWrite h channel row count data => Sys2Proof.Machine.execTedsWrite h channel row count data s
  | .probeLifeGet h channel => Sys2Proof.Machine.execProbeLifeGet h channel s
  | .probeLifeSet h channel rated consumed seconds shocks => Sys2Proof.Machine.execProbeLifeSet h channel rated consumed seconds shocks s
  | .probeLifeWrite h channel => Sys2Proof.Machine.execProbeLifeWrite h channel s
  | .surveySeq h flags first length entries => Sys2Proof.Machine.execSurveySeq h flags first length entries s
  | .surveyUrgent h channel => Sys2Proof.Machine.execSurveyUrgent h channel s
  | .surveyCal h => Sys2Proof.Machine.execSurveyCal h s
  | .acqCal h mask => Sys2Proof.Machine.execAcqCal h mask s
  | .acqConfig h mask cfg hop atten => Sys2Proof.Machine.execAcqConfig h mask cfg hop atten s
  | .stackConfigForm h => Sys2Proof.Machine.execStackConfigForm h s
  | .stackConfigForward h target packet => Sys2Proof.Machine.execStackConfigForward h target packet s
  | .stackConfigReset h target level => Sys2Proof.Machine.execStackConfigReset h target level s
  | .stackConfigPorts h value => Sys2Proof.Machine.execStackConfigPorts h value s
  | .stackConfigStatus h => Sys2Proof.Machine.execStackConfigStatus h s
  | .fabricJoin h ports => Sys2Proof.Machine.execFabricJoin h ports s
  | .fabricLeave h ports => Sys2Proof.Machine.execFabricLeave h ports s
  | .fabricTable h table dest offset data => Sys2Proof.Machine.execFabricTable h table dest offset data s
  | .fabricSend h flags dest payload => Sys2Proof.Machine.execFabricSend h flags dest payload s
  | .fabricFetch h => Sys2Proof.Machine.execFabricFetch h s
  | .timeAlign h kind partner time => Sys2Proof.Machine.execTimeAlign h kind partner time s
  | .jambRead h page offset count => Sys2Proof.Machine.execJambRead h page offset count s
  | .jambWrite h page offset data => Sys2Proof.Machine.execJambWrite h page offset data s
  | .jambCommit h page => Sys2Proof.Machine.execJambCommit h page s
  | .jambCommitDiscard h page => Sys2Proof.Machine.execJambCommitDiscard h page s
  | .jambLock h page => Sys2Proof.Machine.execJambLock h page s
  | .bolt h => Sys2Proof.Machine.execBolt h s
  | .unbolt h => Sys2Proof.Machine.execUnbolt h s
  | .latchSet h hart index mtch actions count value mask step => Sys2Proof.Machine.execLatchSet h hart index mtch actions count value mask step s
  | .dumpTensorArm h slot symbol step => Sys2Proof.Machine.execDumpTensorArm h slot symbol step s
  | .dumpTensorCancel h slot symbol step => Sys2Proof.Machine.execDumpTensorCancel h slot symbol step s
  | .countersRead h flags ids => Sys2Proof.Machine.execCountersRead h flags ids s
  | .traceConfig h ctrl flags => Sys2Proof.Machine.execTraceConfig h ctrl flags s
  | .keyProvisionGenerate h slot => Sys2Proof.Machine.execKeyProvisionGenerate h slot s
  | .keyProvisionWriteImage h slot key => Sys2Proof.Machine.execKeyProvisionWriteImage h slot key s
  | .keyProvisionWriteFabric h slot key => Sys2Proof.Machine.execKeyProvisionWriteFabric h slot key s
  | .keyProvisionWriteStack h slot key => Sys2Proof.Machine.execKeyProvisionWriteStack h slot key s
  | .keyProvisionReadPublic h slot => Sys2Proof.Machine.execKeyProvisionReadPublic h slot s
  | .keyProvisionClear h slot => Sys2Proof.Machine.execKeyProvisionClear h slot s
  | .seal h hash => Sys2Proof.Machine.execSeal h hash s
  | .tamperPolicy h policy => Sys2Proof.Machine.execTamperPolicy h policy s
  | .alarmClear h answer => Sys2Proof.Machine.execAlarmClear h answer s
  | .authChallengeRequest h purpose => Sys2Proof.Machine.execAuthChallengeRequest h purpose s
  | .authChallengeAttest h nonce => Sys2Proof.Machine.execAuthChallengeAttest h nonce s
  | .authChallengeAnswer h sig => Sys2Proof.Machine.execAuthChallengeAnswer h sig s
  | .registerWrite addr word => Sys2Proof.Machine.execRegisterWrite addr word s
  | .paneClrCounts pane => Sys2Proof.Machine.execPaneClrCounts pane s
  | .csmCtrlHalt c halt => Sys2Proof.Machine.execCsmCtrlHalt c halt s
  | .csmCtrlRestart c => Sys2Proof.Machine.execCsmCtrlRestart c s
  | .csmWdtKick c onExpiryTick => Sys2Proof.Machine.execCsmWdtKick c onExpiryTick s
  | .hostFence c => Sys2Proof.Machine.execHostFence c s
  | .hwdtKick onExpiryTick => Sys2Proof.Machine.execHwdtKick onExpiryTick s
  | .resqClrHigh => Sys2Proof.Machine.execResqClrHigh s
  | .excCodeWrite ch code => Sys2Proof.Machine.execExcCodeWrite ch code s
  | .acqGainWrite ch value => Sys2Proof.Machine.execAcqGainWrite ch value s
  | .singleGo => Sys2Proof.Machine.execSingleGo s
  | .svyModeWrite mode => Sys2Proof.Machine.execSvyModeWrite mode s
  | .svyMainsWrite mains => Sys2Proof.Machine.execSvyMainsWrite mains s
  | .svyLowpwrWrite on => Sys2Proof.Machine.execSvyLowpwrWrite on s
  | .svyCalrefWrite value => Sys2Proof.Machine.execSvyCalrefWrite value s
  | .svyResultRead last k => Sys2Proof.Machine.execSvyResultRead last k s
  | .ftLoRead => Sys2Proof.Machine.execFtLoRead s
  | .frameTimeCsrRead c rd => Sys2Proof.Machine.execFrameTimeCsrRead c rd s
  | .rtcLoRead => Sys2Proof.Machine.execRtcLoRead s
  | .stkOffLoRead id => Sys2Proof.Machine.execStkOffLoRead id s
  | .dbgBoltFtLoRead => Sys2Proof.Machine.execDbgBoltFtLoRead s
  | .alarmHiWrite value => Sys2Proof.Machine.execAlarmHiWrite value s
  | .wakeAlarmClear => Sys2Proof.Machine.execWakeAlarmClear s
  | .wakeDisarm => Sys2Proof.Machine.execWakeDisarm s
  | .dbCtrlDrop => Sys2Proof.Machine.execDbCtrlDrop s
  | .traceMark value => Sys2Proof.Machine.execTraceMark value s
  | .linSet ticket pos ref => Sys2Proof.Machine.execLinSet ticket pos ref s
  | .coreInstruction c => Sys2Proof.Machine.execCoreInstruction c s
  | .machineExternalInterrupt c => Sys2Proof.Machine.execMachineExternalInterrupt c s
  | .pnFire c rd rs1 rs2 => Sys2Proof.Machine.execPnFire c rd rs1 rs2 s
  | .pnCollect c rd rs1 rs2 => Sys2Proof.Machine.execPnCollect c rd rs1 rs2 s
  | .auCopy c rd rs1 rs2 => Sys2Proof.Machine.execAuCopy c rd rs1 rs2 s
  | .auAbs c rd rs1 rs2 => Sys2Proof.Machine.execAuAbs c rd rs1 rs2 s
  | .auRelu c rd rs1 rs2 => Sys2Proof.Machine.execAuRelu c rd rs1 rs2 s
  | .auMag2 c rd rs1 rs2 => Sys2Proof.Machine.execAuMag2 c rd rs1 rs2 s
  | .auScale c rd rs1 rs2 => Sys2Proof.Machine.execAuScale c rd rs1 rs2 s
  | .auAdd c rd rs1 rs2 => Sys2Proof.Machine.execAuAdd c rd rs1 rs2 s
  | .auPoolsum c rd rs1 rs2 => Sys2Proof.Machine.execAuPoolsum c rd rs1 rs2 s
  | .auPoolmax c rd rs1 rs2 => Sys2Proof.Machine.execAuPoolmax c rd rs1 rs2 s
  | .mqSend c rd rs1 rs2 => Sys2Proof.Machine.execMqSend c rd rs1 rs2 s
  | .mqRecv c rd rs1 => Sys2Proof.Machine.execMqRecv c rd rs1 s
  | .mqWait c rd rs1 => Sys2Proof.Machine.execMqWait c rd rs1 s
  | .mqReply c rd rs1 rs2 => Sys2Proof.Machine.execMqReply c rd rs1 rs2 s
  | .mqFree c rd rs1 => Sys2Proof.Machine.execMqFree c rd rs1 s
  | .slLookup c rd rs1 rs2 => Sys2Proof.Machine.execSlLookup c rd rs1 rs2 s
  | .slLease c rd table => Sys2Proof.Machine.execSlLease c rd table s
  | .slLeaseRelease c rd table => Sys2Proof.Machine.execSlLeaseRelease c rd table s
  | .data src dst => Sys2Proof.Machine.execData src dst s
  | .reqUser src dst => Sys2Proof.Machine.execReqUser src dst s
  | .rsp src dst onExpiryTick => Sys2Proof.Machine.execRsp src dst onExpiryTick s
  | .regRd src dst => Sys2Proof.Machine.execRegRd src dst s
  | .regWr src dst => Sys2Proof.Machine.execRegWr src dst s
  | .sillRd src dst => Sys2Proof.Machine.execSillRd src dst s
  | .sillWr src dst => Sys2Proof.Machine.execSillWr src dst s
  | .sillLookup src dst => Sys2Proof.Machine.execSillLookup src dst s
  | .sillLease src dst at_ => Sys2Proof.Machine.execSillLease src dst at_ s
  | .paneFwd src dst => Sys2Proof.Machine.execPaneFwd src dst s
  | .credit src dst => Sys2Proof.Machine.execCredit src dst s
  | .control src dst => Sys2Proof.Machine.execControl src dst s
  | .requestTimeout c slot => Sys2Proof.Machine.execRequestTimeout c slot s
  | .casementWatchdogExpiry c => Sys2Proof.Machine.execCasementWatchdogExpiry c s
  | .casementFault c cause => Sys2Proof.Machine.execCasementFault c cause s
  | .fenceDrainEnd c => Sys2Proof.Machine.execFenceDrainEnd c s
  | .casementRestart c => Sys2Proof.Machine.execCasementRestart c s
  | .productStart pane => Sys2Proof.Machine.execProductStart pane s
  | .productComplete pane => Sys2Proof.Machine.execProductComplete pane s
  | .calibrationPair pane => Sys2Proof.Machine.execCalibrationPair pane s
  | .calPeriodExpiry pane => Sys2Proof.Machine.execCalPeriodExpiry pane s
  | .calInsert pane => Sys2Proof.Machine.execCalInsert pane s
  | .arrayUpdate pane at_ => Sys2Proof.Machine.execArrayUpdate pane at_ s
  | .ledgerEntryStale pane col => Sys2Proof.Machine.execLedgerEntryStale pane col s
  | .programStart pane => Sys2Proof.Machine.execProgramStart pane s
  | .vddPgmGood quadrant => Sys2Proof.Machine.execVddPgmGood quadrant s
  | .vddPgmLost quadrant => Sys2Proof.Machine.execVddPgmLost quadrant s
  | .programSupplyTimeout pane => Sys2Proof.Machine.execProgramSupplyTimeout pane s
  | .programIteration pane => Sys2Proof.Machine.execProgramIteration pane s
  | .programEnd pane => Sys2Proof.Machine.execProgramEnd pane s
  | .auditStart c => Sys2Proof.Machine.execAuditStart c s
  | .auditComplete c => Sys2Proof.Machine.execAuditComplete c s
  | .selftestSubstep pane => Sys2Proof.Machine.execSelftestSubstep pane s
  | .graftRelease pane => Sys2Proof.Machine.execGraftRelease pane s
  | .windowComplete ch => Sys2Proof.Machine.execWindowComplete ch s
  | .ticketDone ticket v onExpiryTick => Sys2Proof.Machine.execTicketDone ticket v onExpiryTick s
  | .recordEmit slot => Sys2Proof.Machine.execRecordEmit slot s
  | .ticketLimitExpiry ticket => Sys2Proof.Machine.execTicketLimitExpiry ticket s
  | .lookupReply edge => Sys2Proof.Machine.execLookupReply edge s
  | .leaseExpiry table => Sys2Proof.Machine.execLeaseExpiry table s
  | .sillClearComplete => Sys2Proof.Machine.execSillClearComplete s
  | .zeroFrontAdvance die => Sys2Proof.Machine.execZeroFrontAdvance die s
  | .scrubRead u => Sys2Proof.Machine.execScrubRead u s
  | .streamedRunStart => Sys2Proof.Machine.execStreamedRunStart s
  | .stormOperationComplete => Sys2Proof.Machine.execStormOperationComplete s
  | .shadowPassStart slot lane => Sys2Proof.Machine.execShadowPassStart slot lane s
  | .stormPassEnd onAbandonTick => Sys2Proof.Machine.execStormPassEnd onAbandonTick s
  | .sampleAbandon slot step path n => Sys2Proof.Machine.execSampleAbandon slot step path n s
  | .stormFault => Sys2Proof.Machine.execStormFault s
  | .stormRestart => Sys2Proof.Machine.execStormRestart s
  | .sourceLoss node stackId slot seq => Sys2Proof.Machine.execSourceLoss node stackId slot seq s
  | .sourceHoldExpiry node stackId slot seq => Sys2Proof.Machine.execSourceHoldExpiry node stackId slot seq s
  | .biasDeparture ch high => Sys2Proof.Machine.execBiasDeparture ch high s
  | .biasReturn ch => Sys2Proof.Machine.execBiasReturn ch s
  | .debounceComplete ch => Sys2Proof.Machine.execDebounceComplete ch s
  | .tedsAccessStart => Sys2Proof.Machine.execTedsAccessStart s
  | .tedsAccessComplete present ident memory => Sys2Proof.Machine.execTedsAccessComplete present ident memory s
  | .tedsStuck => Sys2Proof.Machine.execTedsStuck s
  | .settleComplete ch => Sys2Proof.Machine.execSettleComplete ch s
  | .lifeSecond ch => Sys2Proof.Machine.execLifeSecond ch s
  | .shockBlock ch => Sys2Proof.Machine.execShockBlock ch s
  | .lifeAutoWrite ch => Sys2Proof.Machine.execLifeAutoWrite ch s
  | .acqSample ch raw overload => Sys2Proof.Machine.execAcqSample ch raw overload s
  | .acqCalPhaseEnd ch phase => Sys2Proof.Machine.execAcqCalPhaseEnd ch phase s
  | .surveyConversionEnd packets overload => Sys2Proof.Machine.execSurveyConversionEnd packets overload s
  | .surveyPredelayEnd => Sys2Proof.Machine.execSurveyPredelayEnd s
  | .shutterCommandStart => Sys2Proof.Machine.execShutterCommandStart s
  | .casementPairStart d => Sys2Proof.Machine.execCasementPairStart d s
  | .domainOpenComplete d => Sys2Proof.Machine.execDomainOpenComplete d s
  | .railWaitTimeout => Sys2Proof.Machine.execRailWaitTimeout s
  | .railFail d => Sys2Proof.Machine.execRailFail d s
  | .drainEnd d us expired nearMiss => Sys2Proof.Machine.execDrainEnd d us expired nearMiss s
  | .powerCut d => Sys2Proof.Machine.execPowerCut d s
  | .mainSupplyLoss => Sys2Proof.Machine.execMainSupplyLoss s
  | .brownOut => Sys2Proof.Machine.execBrownOut s
  | .monitorRelease => Sys2Proof.Machine.execMonitorRelease s
  | .pllLock => Sys2Proof.Machine.execPllLock s
  | .pllLockLoss => Sys2Proof.Machine.execPllLockLoss s
  | .rstNLow => Sys2Proof.Machine.execRstNLow s
  | .rstNHigh => Sys2Proof.Machine.execRstNHigh s
  | .resetStretchEnd => Sys2Proof.Machine.execResetStretchEnd s
  | .optionLoadComplete straps time => Sys2Proof.Machine.execOptionLoadComplete straps time s
  | .hwdtExpiry => Sys2Proof.Machine.execHwdtExpiry s
  | .ajarTimeout ajarThisTick => Sys2Proof.Machine.execAjarTimeout ajarThisTick s
  | .lintelPor fromVddio => Sys2Proof.Machine.execLintelPor fromVddio s
  | .lintelSupplySwitch supply => Sys2Proof.Machine.execLintelSupplySwitch supply s
  | .externalWake => Sys2Proof.Machine.execExternalWake s
  | .wakeAlarm => Sys2Proof.Machine.execWakeAlarm s
  | .tamperEvent active => Sys2Proof.Machine.execTamperEvent active s
  | .challengeExpiry => Sys2Proof.Machine.execChallengeExpiry s
  | .deviceCommitStart => Sys2Proof.Machine.execDeviceCommitStart s
  | .jambCommitComplete readBackOk => Sys2Proof.Machine.execJambCommitComplete readBackOk s
  | .boltIoLow => Sys2Proof.Machine.execBoltIoLow s
  | .trigBolt pin => Sys2Proof.Machine.execTrigBolt pin s
  | .trigMark pin value => Sys2Proof.Machine.execTrigMark pin value s
  | .boltQuiet => Sys2Proof.Machine.execBoltQuiet s
  | .boltRelease => Sys2Proof.Machine.execBoltRelease s
  | .histogramSample => Sys2Proof.Machine.execHistogramSample s
  | .traceRecordWrite => Sys2Proof.Machine.execTraceRecordWrite s
  | .tapReset => Sys2Proof.Machine.execTapReset s
  | .extest shift inputs => Sys2Proof.Machine.execExtest shift inputs s
  | .idcode => Sys2Proof.Machine.execIdcode s
  | .samplePreload shift inputs => Sys2Proof.Machine.execSamplePreload shift inputs s
  | .dtmcs value => Sys2Proof.Machine.execDtmcs value s
  | .dmi op addr data => Sys2Proof.Machine.execDmi op addr data s
  | .dmHaltRequest hart => Sys2Proof.Machine.execDmHaltRequest hart s
  | .dmResume hart => Sys2Proof.Machine.execDmResume hart s
  | .accessRegister hart regno write value => Sys2Proof.Machine.execAccessRegister hart regno write value s
  | .accessMemory hart addr size write value => Sys2Proof.Machine.execAccessMemory hart addr size write value s
  | .scanState => Sys2Proof.Machine.execScanState s
  | .boltReq => Sys2Proof.Machine.execBoltReq s
  | .boltReqUnbolt => Sys2Proof.Machine.execBoltReqUnbolt s
  | .sysResetCorerst => Sys2Proof.Machine.execSysResetCorerst s
  | .sysResetSysrst => Sys2Proof.Machine.execSysResetSysrst s
  | .bypass tdi => Sys2Proof.Machine.execBypass tdi s
  | .heartbeat f steps => Sys2Proof.Machine.execHeartbeat f steps s
  | .stackCredit f req rsp ctl => Sys2Proof.Machine.execStackCredit f req rsp ctl s
  | .stackData f ticket notify payload => Sys2Proof.Machine.execStackData f ticket notify payload s
  | .cmd f packet => Sys2Proof.Machine.execCmd f packet s
  | .reply f packet => Sys2Proof.Machine.execReply f packet s
  | .note f packet => Sys2Proof.Machine.execNote f packet s
  | .stackRecord f frame => Sys2Proof.Machine.execStackRecord f frame s
  | .stackResolve f records => Sys2Proof.Machine.execStackResolve f records s
  | .epoch f data => Sys2Proof.Machine.execEpoch f data s
  | .commit f epoch count crc => Sys2Proof.Machine.execCommit f epoch count crc s
  | .sync f t1 t2 t3 t4 => Sys2Proof.Machine.execSync f t1 t2 t3 t4 s
  | .stackReset f level => Sys2Proof.Machine.execStackReset f level s
  | .takeover f generation epoch => Sys2Proof.Machine.execTakeover f generation epoch s
  | .train f id generation uid => Sys2Proof.Machine.execTrain f id generation uid s
  | .portUp port => Sys2Proof.Machine.execPortUp port s
  | .noTrain port => Sys2Proof.Machine.execNoTrain port s
  | .stackResend port => Sys2Proof.Machine.execStackResend port s
  | .stackGiveUp port => Sys2Proof.Machine.execStackGiveUp port s
  | .portDown port => Sys2Proof.Machine.execPortDown port s
  | .heartbeatDue port => Sys2Proof.Machine.execHeartbeatDue port s
  | .epochClose => Sys2Proof.Machine.execEpochClose s
  | .stkAliveToggle => Sys2Proof.Machine.execStkAliveToggle s
  | .standbyTakeover aliveStopped d => Sys2Proof.Machine.execStandbyTakeover aliveStopped d s
  | .hello f uid addr origin isSealed adjSeq => Sys2Proof.Machine.execHello f uid addr origin isSealed adjSeq s
  | .adj f uid addr nbrA nbrB seq flags => Sys2Proof.Machine.execAdj f uid addr nbrA nbrB seq flags s
  | .ack f seq onGiveUpTick => Sys2Proof.Machine.execAck f seq onGiveUpTick s
  | .offsetReq f t1 => Sys2Proof.Machine.execOffsetReq f t1 s
  | .offsetRsp f t1 t2 t3 => Sys2Proof.Machine.execOffsetRsp f t1 t2 t3 s
  | .siteRecord f records => Sys2Proof.Machine.execSiteRecord f records s
  | .siteResolve f records => Sys2Proof.Machine.execSiteResolve f records s
  | .siteAlarm f payload => Sys2Proof.Machine.execSiteAlarm f payload s
  | .table f payload => Sys2Proof.Machine.execTable f payload s
  | .user f payload => Sys2Proof.Machine.execUser f payload s
  | .fail f src seq => Sys2Proof.Machine.execFail f src seq s
  | .frameForward port => Sys2Proof.Machine.execFrameForward port s
  | .helloDue port => Sys2Proof.Machine.execHelloDue port s
  | .neighbourLost port helloThisTick => Sys2Proof.Machine.execNeighbourLost port helloThisTick s
  | .adjacencyRefresh => Sys2Proof.Machine.execAdjacencyRefresh s
  | .adjacencyExpiry addr => Sys2Proof.Machine.execAdjacencyExpiry addr s
  | .fabricResend port seq => Sys2Proof.Machine.execFabricResend port seq s
  | .fabricGiveUp port seq => Sys2Proof.Machine.execFabricGiveUp port seq s
  | .offsetRemeasure port => Sys2Proof.Machine.execOffsetRemeasure port s
  | .phyInterrupt port link => Sys2Proof.Machine.execPhyInterrupt port link s
  | .phyResetRelease phy => Sys2Proof.Machine.execPhyResetRelease phy s
  | .hostReset => Sys2Proof.Machine.execHostReset s
  | .verificationComplete => Sys2Proof.Machine.execVerificationComplete s
  | .sealBurnComplete => Sys2Proof.Machine.execSealBurnComplete s
  | .railGood afe cmp => Sys2Proof.Machine.execRailGood afe cmp s
  | .quadrantStart => Sys2Proof.Machine.execQuadrantStart s
  | .hirqNHoldoffEnd => Sys2Proof.Machine.execHirqNHoldoffEnd s
  | .pnCollectTimeout c rd rs1 rs2 => Sys2Proof.Machine.execPnCollectTimeout c rd rs1 rs2 s
  | .mqSendTimeout c rd rs1 rs2 => Sys2Proof.Machine.execMqSendTimeout c rd rs1 rs2 s
  | .lintelCrystalStart => Sys2Proof.Machine.execLintelCrystalStart s

end Sys2Proof.Machine
end

