-- ==== Sys2Proof/Machine/Tick.lean ====
section
/-! DEFINITION. What one core tick does when no command waits. -/
namespace Sys2Proof.Machine

/-- What happens on a tick of its own while no reset holds the networks: state changes are reported
(R384), MULLION opens, the RMII references change and the TEDS pins move (R272, R323, R340), and the mesh moves its messages
(R137). -/
def Dev.tickUnits (d : Dev) : Dev := (d.tellState.openMullion.refTick.meshTick).tedsPins

/-- Frame time advances while the clocks run; CORERST does not touch it (R338, R339). -/
def tickFrameTime (d : Dev) : Dev :=
  if d.clocked then
    let d := { d with sys := { d.sys with ft := d.sys.ft + 1 } }
    if d.rst.asserted == none then d.tickUnits else d
  else d

/-- The real-time counter counts crystal periods of 1/32,768 s: 32,768 of them in 800,000,000 core ticks (R443). -/
def tickRtc (d : Dev) : Dev :=
  if d.lin.clkOk && !d.lin.clkMasked then
    let p := d.lin.rtcPhase + 32768
    if p ≥ 800000000 then
      { d with lin := { d.lin with rtcPhase := p - 800000000, rtc := (d.lin.rtc + 1) % 2 ^ 48 } }
    else { d with lin := { d.lin with rtcPhase := p } }
  else d

/-- One core tick of 1.25 ns. -/
def tick (s : State) : State := { s with dev := tickRtc (tickFrameTime s.dev) }

end Sys2Proof.Machine
end

