-- ==== Sys2Proof/Machine/Step.lean ====
section
/-! DEFINITION. One step: take the command at the front of the queue, or let one core tick pass. -/
namespace Sys2Proof.Machine

/-- One step. The command at the front of the queue acts on the state with the queue's rest; on an empty queue one core
tick of 1.25 ns passes (R339; DESIGN CHOICE, log entry 2). -/
def step (s : State) : Host.Outcome State Fault Refusal :=
  match s.pending with
  | [] => .next (tick s)
  | c :: rest => exec c { s with pending := rest }

/-- `s` with the command that the table's bits spell put at the front of its queue; the table gives no row any bits, so
no word spells a command and the state is unchanged. -/
def State.withFetchWord (s : State) (nbits w : Nat) : State :=
  match Sys2Proof.decodeTableWord nbits w with
  | some c => { s with pending := c :: s.pending }
  | none => s

end Sys2Proof.Machine
end

