-- ==== Sys2Proof/Safety.lean ====
section
/-! DEFINITION. What counts as a safe step, and the words that statements about commands use: when the host link serves a
command at once, and what a reply leaves behind. -/
namespace Sys2Proof.Machine

/-- A step that answers a next state: the machine does not stop. -/
def SafeStep (s : State) : Prop := ∃ t, step s = .next t

/-- The state with another device: the queue and the fuses stay. -/
def State.withDev (s : State) (d : Dev) : State := { s with dev := d }

/-- The device with another host link: everything else stays. -/
def Dev.withHl (d : Dev) (h : HostLink) : Dev := { d with hl := h }

/-- The memories of the block that are addressed byte by byte, each in its canonical form: addresses strictly rising, no entry
equal to what an unlisted address reads as (sill, jamb, key store). -/
def Memory.wf (s : State) : Bool :=
  Tab.wf (fun _ => (0 : Byte)) s.dev.sill.mem && Tab.wf jambDefault s.dev.jamb.mem && Tab.wf (fun _ => (0 : Byte)) s.dev.lin.keys

/-- The host link serves a command of this opcode at once: the clocks run, the link is ready, nothing waits, and steps 2 to 5 of
R388 let the command through (R338, R387, R388, R405, R524); the main state stays as it is. -/
def Dev.serves (d : Dev) (op : Byte) : Bool :=
  d.clocked && d.hl.ready && d.hl.slots.isEmpty && d.hl.linkReplies.isEmpty && d.hl.stream.isEmpty && d.takes op
    && assigned op.toNat && spiServes d op.toNat && legal op.toNat d.sys.main == .y
    && (!d.dbg.bolted || boltedAllows op.toNat) && (deadboltDenies d op.toNat).isNone

/-- The header of a command that the host sends as one correct packet; none where the command is anything else. -/
def hostHdr (c : Instr) : Option CmdHdr :=
  match c with
  | .nop h | .identify h | .getState h | .reset h _ | .startAbort h | .doorstepRelease h | .patchLoad h _ _
  | .readReg h _ _ | .writeReg h _ | .shutterOpen h _ | .shutterClose h _ | .shutterCloseForce h _ | .doze h
  | .wake h | .clockConfig h _ | .paneProgram h _ _ _ | .paneAudit h _ | .paneAuditRetained h _ | .paneSelftest h _
  | .paneRetire h _ | .paneGraft h _ _ | .paneStatus h _ _ | .ledgerRead h _ _ _ | .modelLoad h _ _ _
  | .modelStart h _ _ _ _ _ | .modelStop h _ | .modelUnload h _ | .runWindow h _ _ _ _ _ | .resultRead h _
  | .checkConfig h _ _ | .sillWrite h _ _ | .sillRead h _ _ | .sillTableDefine h _ | .sillZero h _ _
  | .probeConfig h _ _ _ _ | .excSet h _ _ | .tedsRead h _ | .tedsWrite h _ _ _ _ | .probeLifeGet h _
  | .probeLifeSet h _ _ _ _ _ | .probeLifeWrite h _ | .surveySeq h _ _ _ _ | .surveyUrgent h _ | .surveyCal h
  | .acqCal h _ | .acqConfig h _ _ _ _ | .stackConfigForm h | .stackConfigForward h _ _ | .stackConfigReset h _ _
  | .stackConfigPorts h _ | .stackConfigStatus h | .fabricJoin h _ | .fabricLeave h _ | .fabricTable h _ _ _ _
  | .fabricSend h _ _ _ | .fabricFetch h | .timeAlign h _ _ _ | .jambRead h _ _ _ | .jambWrite h _ _ _
  | .jambCommit h _ | .jambCommitDiscard h _ | .jambLock h _ | .bolt h | .unbolt h | .latchSet h _ _ _ _ _ _ _ _
  | .dumpTensorArm h _ _ _ | .dumpTensorCancel h _ _ _ | .countersRead h _ _ | .traceConfig h _ _
  | .keyProvisionGenerate h _ | .keyProvisionWriteImage h _ _ | .keyProvisionWriteFabric h _ _
  | .keyProvisionWriteStack h _ _ | .keyProvisionReadPublic h _ | .keyProvisionClear h _ | .seal h _
  | .tamperPolicy h _ | .alarmClear h _ | .authChallengeRequest h _ | .authChallengeAttest h _
  | .authChallengeAnswer h _ => some h
  | _ => none

/-- The command that a host command's packet becomes when it is taken. -/
def hostCmdOf (op : Byte) (h : CmdHdr) : Cmd := { fromPort := none, op := op, tag := h.tag, notify := h.notify }

/-- The device while it executes a host command: one slot holds the command, as taken (R523, R524). -/
def Dev.taken (d : Dev) (op : Byte) (params : List Byte) (h : CmdHdr) : Dev :=
  { d with hl := { d.hl with
    slots := [{ op := op, tag := h.tag, flags := flagsOf h.notify, deadline := none, params := params, phase := .taken }] } }

/-- The device once a host command has been answered and no slot is held: the reply packet is in the stream, and HIRQ_N is low
if it is flagged (R519, R526, R528). -/
def Dev.answered (d : Dev) (op : Byte) (h : CmdHdr) (st : Byte) (data : List Byte) : Dev :=
  let p : OutPkt := { bytes := replyPacket op h.tag st data, flagged := replyFlagged h.notify st, verdict := false }
  { d with hl := { d.hl with slots := [] }.push p }

/-- What a recognised reset request leaves behind where no reset was in force and none is promoted: internal reset at the level,
its cause, one more entry of the reset history and one count, SEEN, and an empty host link, model list, bolt and session; the
real-time counter and the failure record stay (R350, R353, R358, R359). -/
def Dev.ResetTaken (old new : Dev) (cause : Nat) (level : RstLevel) : Prop :=
  new.rst.asserted = some level ∧ new.rst.causes = [(cause, level)] ∧ new.rst.hostPending = none ∧ new.rst.hingeUp = false
    ∧ new.lin.count = satInc 32 old.lin.count
    ∧ new.lin.hist = ((cause + level.code * 16 + old.lin.rtc % 2 ^ 48 * 65536) :: old.lin.hist).take 8
    ∧ new.lin.rtc = old.lin.rtc ∧ new.lin.keys = old.lin.keys ∧ new.bitAt 0x10100 (15 + cause) = true
    ∧ new.hl = HostLink.reset ∧ new.mdl = Models.reset ∧ new.dbg.bolted = false ∧ new.db.privileged = false
    ∧ new.db.sealed = old.db.sealed

/-- Casement `c` executes its next instruction plainly: the clocks run, its quadrant has power, the core runs, no debugger holds it, it waits for
nothing, its SRAM holds no flipped bit, the device is not BOLTED and no latch point is set (R122, R124, R489, R495). -/
def Dev.corePlain (d : Dev) (c : Nat) : Bool :=
  d.clocked && c < 32 && d.isPowered (quadOf c) && (d.cas c).core == .running && !d.hartHalted c && !d.dbg.bolted && (d.cas c).wait == .none
    && !(d.cas c).judged && (d.cas c).flips.isEmpty && d.dbg.points.isEmpty

/-- Casement `c` holds `k`, and every other casement what it held. -/
def Dev.onlyCas (old new : Dev) (c : Nat) (k : Casement) : Prop := new.cas c = k ∧ ∀ c', c' ≠ c → new.cas c' = old.cas c'

end Sys2Proof.Machine
end

