-- ==== Sys2Proof/Certificates/Slice0/Obligations.lean ====
section
/-! DEFINITION. The statements for the provers: what the commands of the block do, from the numbered rules of the spec. -/
open Sys2Proof Sys2Proof.Machine

/-! ### The host link (R514 to R546) -/

/-- A whole and correct command packet is accepted into a command slot, as the youngest (R518, R522, R523). A packet whose tag
is outstanding is dropped with LAST_ERR 5, and one that finds 16 slots held only gets the link reply QUEUE_FULL (R523).
Where the spec leaves it to a reading, this is the model's own, in log entry 169. -/
def Obligations.CommandPacketsAreAcceptedOrTurnedAway : Prop :=
  (∀ (s : State) (op tag : Byte) (params : List Byte), s.dev.clocked = true → s.dev.hl.ready = true → params.length ≤ 4096 →
     s.dev.hl.slots.length < 16 → (∀ x ∈ s.dev.hl.slots, x.tag ≠ tag) →
     exec (.commandPacket (commandPacket op tag params)) s = .next (s.withDev (s.dev.withHl { s.dev.hl with
       slots := s.dev.hl.slots
         ++ [{ op := op, tag := tag, flags := 0, deadline := none, params := params, phase := .queued }] }))) ∧
  (∀ (s : State) (op tag : Byte) (params : List Byte), s.dev.clocked = true → s.dev.hl.ready = true → params.length ≤ 4096 →
     ((∃ x ∈ s.dev.hl.slots, x.tag = tag) →
       ∃ d, exec (.commandPacket (commandPacket op tag params)) s = .next (s.withDev d)
         ∧ d = { s.dev with hl := { s.dev.hl with err := true, lastErr := 5 }, regs := d.regs }
         ∧ d.fldAt 0x204 24 8 = satInc 8 (s.dev.fldAt 0x204 24 8) ∧ d.fldAt 0x204 0 24 = s.dev.fldAt 0x204 0 24
         ∧ ∀ a, a ≠ 0x204 → d.reg a = s.dev.reg a) ∧
     (s.dev.hl.slots.length ≥ 16 → (∀ x ∈ s.dev.hl.slots, x.tag ≠ tag) → s.dev.hl.linkReplies = [] →
       s.dev.hl.room (replyPacket op tag stQueueFull []) = true →
       exec (.commandPacket (commandPacket op tag params)) s = .next (s.withDev (s.dev.withHl
         (s.dev.hl.push { bytes := replyPacket op tag stQueueFull [], flagged := true, verdict := false })))))

/-- A truncated packet sets LAST_ERR 2 and counts in HL_ERRCNT.TRUNC; an unknown instruction sets LAST_ERR 1, counts in
HL_ERRCNT.SYNC and drives no pin; neither does anything else (R515, R522). A STATUS transaction drives the link status word
over and over and clears ERR; nothing else changes (R515, R516). While the link is not ready, no transaction changes anything,
and no command that the host sends has an effect (R517).
Where the spec leaves it to a reading, this is the model's own, in log entries 172 and 180. -/
def Obligations.TransactionsAndErrors : Prop :=
  (∀ (s : State), s.dev.clocked = true → s.dev.hl.ready = true →
     (∀ bytes, ∃ d, exec (.truncatedPacket bytes) s = .next (s.withDev d)
       ∧ d = { s.dev with hl := { s.dev.hl with err := true, lastErr := 2 }, regs := d.regs }
       ∧ d.fldAt 0x204 8 8 = satInc 8 (s.dev.fldAt 0x204 8 8) ∧ d.fldAt 0x204 0 8 = s.dev.fldAt 0x204 0 8
       ∧ d.fldAt 0x204 16 16 = s.dev.fldAt 0x204 16 16 ∧ ∀ a, a ≠ 0x204 → d.reg a = s.dev.reg a) ∧
     (∀ code : Byte, code ∉ [(0x02 : Byte), 0x32, 0x0B, 0x6B, 0x05] →
       ∃ d, exec (.unknownInstruction code) s = .next (s.withDev d)
         ∧ d = { s.dev with hl := { s.dev.hl with err := true, lastErr := 1, driven := [] }, regs := d.regs }
         ∧ d.fldAt 0x204 0 8 = satInc 8 (s.dev.fldAt 0x204 0 8) ∧ d.fldAt 0x204 8 24 = s.dev.fldAt 0x204 8 24
         ∧ ∀ a, a ≠ 0x204 → d.reg a = s.dev.reg a)) ∧
  (∀ (s : State) (n : Nat), s.dev.clocked = true → s.dev.hl.ready = true →
     exec (.statusTransaction n) s = .next (s.withDev (s.dev.withHl { s.dev.hl with
       driven := (List.range n).map (fun k => nthD (wordBytes s.dev.linkStatus) (k % 4) 0), err := false }))) ∧
  (∀ (s : State), s.dev.hl.ready = false →
     (∀ b, exec (.commandPacket b) s = .next s) ∧ (∀ b, exec (.truncatedPacket b) s = .next s)
     ∧ (∀ c, exec (.unknownInstruction c) s = .next s) ∧ (∀ n, exec (.readTransaction n) s = .next s)
     ∧ (∀ n, exec (.statusTransaction n) s = .next s) ∧ ∀ c : Instr, (hostHdr c).isSome = true → exec c s = .next s)

/-- A READ of `n` bytes takes exactly the oldest `n` bytes of the stream: what was driven and what is left are together what
was there, and zeros fill past the last byte; HIRQ_N stays low only where a byte of a flagged packet is left (R526, R528).
Where the spec leaves it to a reading, this is the model's own, in log entry 180. -/
def Obligations.ReadTakesTheOldestBytes : Prop :=
  ∀ (s : State) (n : Nat), s.dev.clocked = true → s.dev.hl.ready = true →
    ∃ d, exec (.readTransaction n) s = .next (s.withDev d)
      ∧ d.hl.driven = padTo n ((streamOf s.dev.hl.stream).take n)
      ∧ streamOf d.hl.stream = (streamOf s.dev.hl.stream).drop n
      ∧ d.hl.hirqLow = (s.dev.hl.hirqLow && d.hl.stream.any (·.flagged))
      ∧ d.hl.slots = s.dev.hl.slots ∧ d.hl.resols = s.dev.hl.resols ∧ d.mdl = s.dev.mdl

/-- Packets that waited enter the stream when there is room: link replies, then replies, then notifications, then resolutions
(R526, R527, R532); the end of the hold-off pulls HIRQ_N low where a flagged packet is unread (R528). When the link becomes
ready, LINK_UP with SEQ 0 is the first packet of an empty stream and HIRQ_N goes low; held notifications take the numbers that
follow (R529, R535).
Where the spec leaves it to a reading, this is the model's own, in log entries 170 and 176. -/
def Obligations.PacketsEnterTheStream : Prop :=
  (∀ (s : State), s.dev.clocked = true →
     (∀ p l, s.dev.hl.linkReplies = p :: l → s.dev.hl.room p.bytes = true →
       exec .replyEntersStream s = .next (s.withDev (s.dev.withHl ({ s.dev.hl with linkReplies := l }.push p)))) ∧
     (∀ sl l p, s.dev.hl.linkReplies = [] → s.dev.hl.slots = sl :: l → sl.phase = .waiting p → s.dev.hl.room p.bytes = true →
       exec .replyEntersStream s = .next (s.withDev (s.dev.withHl ({ s.dev.hl with slots := l }.push p)))) ∧
     (∀ n l, s.dev.hl.ready = true → s.dev.hl.noReplies = true → s.dev.hl.notes = n :: l →
       s.dev.hl.room (notePacket n.typ n.seq n.data) = true →
       exec .notificationEntersStream s = .next (s.withDev (s.dev.withHl ({ s.dev.hl with notes := l }.push
         { bytes := notePacket n.typ n.seq n.data, flagged := true, verdict := n.typ == 1 + 32 * s.dev.stackId })))) ∧
     (∀ r, s.dev.hl.ready = true → s.dev.hl.noReplies = true → s.dev.hl.notes = [] → s.dev.hl.resols = [r] →
       s.dev.hl.room (notePacket ((if r.retract then 3 else 2) + 32 * s.dev.stackId) s.dev.hl.seq r.data) = true →
       ∃ p, exec .resolutionEntersStream s = .next (s.withDev (s.dev.withHl
           ({ s.dev.hl with resols := [], seq := (s.dev.hl.seq + 1) % 65536 }.push p)))
         ∧ p.bytes = notePacket ((if r.retract then 3 else 2) + 32 * s.dev.stackId) s.dev.hl.seq r.data ∧ p.flagged = true) ∧
     exec .hirqNHoldoffEnd s = .next (s.withDev (s.dev.withHl { s.dev.hl with
       holdoff := false, hirqLow := s.dev.hl.hirqLow || s.dev.hl.stream.any (·.flagged) }))) ∧
  (∀ (s : State), s.dev.clocked = true → s.dev.rst.hingeUp = true → s.dev.rst.asserted = none → s.dev.hl.ready = false →
     s.dev.sys.doorstepNote = false → s.dev.lin.unreported = 0 → s.dev.mdl.resq = [] →
     ∃ p, exec .linkUp s = .next (s.withDev (s.dev.withHl { s.dev.hl with
           ready := true, stream := [p], hirqLow := true, holdoff := false
           notes := renumberNotes 1 s.dev.hl.notes, seq := (1 + s.dev.hl.notes.length) % 65536 }))
       ∧ p.bytes = notePacket (8 + 32 * s.dev.stackId) 0 (s.dev.stateNoteData 1 0 0 ++ wordBytes (s.dev.reg 0x10100))
       ∧ p.flagged = true)

/-- A queued command that nothing precedes is taken and judged; a queued command whose deadline has passed is answered TIMEOUT
and has no other effect (R388, R524, R525). Between a RESET and the reset it asks for, none is taken and none is answered (R546). -/
def Obligations.CommandTakenOrTimedOut : Prop :=
  ∀ (s : State) (sl : CmdSlot), s.dev.clocked = true → s.dev.hl.slots = [sl] → sl.phase = .queued →
    (s.dev.takes sl.op = true →
      exec (.commandTaken false) s = .next (s.withDev
        ((s.dev.withHl { s.dev.hl with slots := [{ sl with phase := .taken }] }).judge (sl.cmd none)
          (runOpcode sl.flags sl.params)))) ∧
    (s.dev.takes sl.op = false → exec (.commandTaken false) s = .next s) ∧
    (s.dev.rst.hostPending = none → sl.deadline.isSome = true → s.dev.hl.linkReplies = [] →
      s.dev.hl.room (replyPacket sl.op sl.tag stTimeout []) = true →
      exec (.deadlineExpiry sl.tag) s = .next (s.withDev (s.dev.withHl ({ s.dev.hl with slots := [] }.push
        { bytes := replyPacket sl.op sl.tag stTimeout [], flagged := true, verdict := false })))) ∧
    (s.dev.rst.hostPending.isSome = true → exec (.commandTaken false) s = .next s ∧ exec (.deadlineExpiry sl.tag) s = .next s)


/-! ### System commands and the register bus (R9 to R16, R339, R351, R364, R367, R378, R552 to R556) -/

/-- NOP answers OK with no DATA; IDENTIFY answers 24 bytes: part, grade, silicon, the STACK_ID and STANDBY straps with SEALED,
unique ID, ROM version and firmware version; GET_STATE answers the state word, with its fields where R378 puts them (at most 4
slots busy), and DEV_SINCE. Nothing else changes. -/
def Obligations.IdentityCommandsAnswer : Prop :=
  ∀ (s : State) (h : CmdHdr),
    (s.dev.serves 0x00 = true → exec (.nop h) s = .next (s.withDev (s.dev.answered 0x00 h stOk []))) ∧
    (s.dev.serves 0x01 = true → ∃ b : List Byte, b.length = 24
      ∧ exec (.identify h) s = .next (s.withDev (s.dev.answered 0x01 h stOk b))
      ∧ b.take 3 = [if Config.partT then 1 else 0, if Config.gradeIndustrial then 1 else 0, BitVec.ofNat 8 Config.silicon.toNat]
      ∧ uAt b 3 1 = s.dev.rst.straps / 2 % 4 + (if s.dev.rst.straps % 2 = 1 then 4 else 0) + (if s.dev.db.sealed then 8 else 0)
      ∧ uAt b 4 12 = Config.uid.toNat ∧ uAt b 16 4 = Config.romVersion.toNat ∧ uAt b 20 4 = s.dev.sys.patch.version.toNat) ∧
    (s.dev.serves 0x02 = true → s.dev.busySlots.length ≤ 4 → ∃ w : Nat,
      exec (.getState h) s = .next (s.withDev (s.dev.answered 0x02 h stOk (leBytes 4 w ++ wordBytes s.dev.sys.since)))
      ∧ fld w 0 4 = s.dev.sys.main.code ∧ bitOf w 4 = s.dev.dbg.bolted ∧ bitOf w 5 = s.dev.lin.alarm
      ∧ bitOf w 6 = s.dev.sys.patch.verifying.isSome ∧ bitOf w 7 = false
      ∧ fld w 8 4 = (s.dev.busySlots.filter (fun i => (s.dev.slot i).placed)).length ∧ w / 4096 = s.dev.busySlots.length)

/-- RESET with level 0 to 2 answers OK and leaves the reset of that level pending; any other level is
BAD_PARAM. START_ABORT during a start counts a failed start with reason 4 and asserts a reset, which empties the host link.
DOORSTEP_RELEASE clears the start-failure record and answers OK. -/
def Obligations.HostResetCommands : Prop :=
  ∀ (s : State) (h : CmdHdr) (level : Byte),
    (s.dev.serves 0x03 = true → level.toNat ≤ 2 → exec (.reset h level) s = .next (s.withDev
      ({ s.dev with rst := { s.dev.rst with
        hostPending := some (if level = 0 then .core else if level = 1 then .sys else .por) } }.answered 0x03 h stOk []))) ∧
    (s.dev.serves 0x03 = true → level.toNat > 2 →
      exec (.reset h level) s = .next (s.withDev (s.dev.answered 0x03 h stBadParam []))) ∧
    (s.dev.serves 0x04 = true → s.dev.rst.starting = true → s.dev.rst.supplyLow = false →
      ∃ d, exec (.startAbort h) s = .next (s.withDev d) ∧ d.lin.failCount = min 3 (s.dev.lin.failCount + 1)
        ∧ d.lin.reason0 = 4 ∧ d.lin.reason1 = s.dev.lin.reason0 ∧ d.lin.reason2 = s.dev.lin.reason1
        ∧ d.rst.asserted.isSome = true ∧ d.rst.starting = false ∧ d.hl = HostLink.reset) ∧
    (s.dev.serves 0x05 = true → exec (.doorstepRelease h) s = .next (s.withDev
      ({ s.dev with lin := { s.dev.lin with failCount := 0, reason0 := 0, reason1 := 0, reason2 := 0, doorReason := 0 } }.answered
        0x05 h stOk [])))

/-- A PATCH_LOAD packet of 1 to 4,092 bytes at offset 0, or at the offset of the bytes already staged, answers OK and stages its
bytes while SIZE is not reached; another offset is BAD_PARAM and changes nothing. When the oldest verification is a hinge
patch's and its signature is right, the firmware in force becomes the patch's; when it is wrong or the image key is absent,
the staged patch is dropped and the firmware in force stays.
Where the spec leaves it to a reading, this is the model's own, in log entries 134 and 135. -/
def Obligations.PatchLoadStagesAndVerifies : Prop :=
  ∀ (s : State) (h : CmdHdr) (offset : Word) (data : List Byte),
    (s.dev.serves 0x06 = true → 1 ≤ data.length → data.length ≤ 4092 →
      (offset = 0 → (∀ n, patchSize data = some n → data.length < n) →
        exec (.patchLoad h offset data) s = .next (s.withDev
          ({ s.dev with sys := { s.dev.sys with patch := { s.dev.sys.patch with staged := data } } }.answered 0x06 h stOk []))) ∧
      (offset ≠ 0 → offset.toNat = s.dev.sys.patch.staged.length →
        (∀ n, patchSize (s.dev.sys.patch.staged ++ data) = some n → (s.dev.sys.patch.staged ++ data).length < n) →
        exec (.patchLoad h offset data) s = .next (s.withDev
          ({ s.dev with sys := { s.dev.sys with patch := { s.dev.sys.patch with
            staged := s.dev.sys.patch.staged ++ data } } }.answered 0x06 h stOk []))) ∧
      (offset ≠ 0 → offset.toNat ≠ s.dev.sys.patch.staged.length →
        exec (.patchLoad h offset data) s = .next (s.withDev (s.dev.answered 0x06 h stBadParam [])))) ∧
    (∀ v l c, s.dev.clocked = true → s.dev.db.verifs = v :: l → v.purpose = .patch → v.cmd = c → s.dev.hl.slots = [] → c.fromPort = none →
      exec .verificationComplete s = .next (s.withDev { s.dev with
        db := { s.dev.db with verifs := l }
        sys := { s.dev.sys with patch :=
          if s.dev.hasImgKey = true ∧ v.digest.length = 32 ∧ ecdsaVerify s.dev.imgPub v.digest v.sig = true then
            { staged := [], verifying := none, version := BitVec.ofNat 32 (uAt s.dev.sys.patch.staged 0xC 4)
              area := s.dev.sys.patch.staged.drop 0x100 }
          else { s.dev.sys.patch with staged := [], verifying := none } } }))

/-- For a register whose writes have no effect of their own and no limit of their own, REGISTER_WRITE and WRITE_REG give every
bit what its access code says: an RW bit takes the written bit, a W1C bit is cleared by a one unless hardware set it on the
tick of the write (`setNow`), a W1S bit is set by a one, and every other bit and every other register keeps its value. A write
to an address outside the register map, not of a word, or of a closed domain changes nothing.
Where the spec leaves it to a reading, this is the model's own, in log entries 139, 146 and 223. -/
def Obligations.RegisterWriteFollowsAccessCodes : Prop :=
  ∀ (s : State) (h : CmdHdr) (a x setNow : Word), s.dev.clocked = true → s.dev.db.sealed = false →
    a.toNat ∈ [0x10014, 0x10100, 0x2000C, 0x30008, 0x50080, 0x500C0, 0x500C4, 0x80000, 0x90004, 0xB010C, 0xC0000, 0x100014] →
    s.dev.regOpen a.toNat = true →
    let w := s.dev.reg a.toNat
    let sp := regSpec a.toNat
    let v := x &&& ~~~(setNow &&& sp.w1c)
    let t := s.dev.setReg a.toNat ((w &&& ~~~(sp.rw ||| sp.w1c)) ||| (v &&& sp.rw) ||| (w &&& sp.w1c &&& ~~~v) ||| (v &&& sp.w1s))
    exec (.registerWrite a ⟨x, setNow⟩) s = .next (s.withDev t) ∧
    (s.dev.serves 0x08 = true → exec (.writeReg h ⟨[(a, x)], [setNow]⟩) s = .next (s.withDev (t.answered 0x08 h stOk []))) ∧
    (∀ k, k < 32 → (t.reg a.toNat).getLsbD k =
      (if sp.rw.getLsbD k then x.getLsbD k
       else if sp.w1c.getLsbD k then (setNow.getLsbD k || !x.getLsbD k) && w.getLsbD k
       else if sp.w1s.getLsbD k then x.getLsbD k || w.getLsbD k else w.getLsbD k)) ∧
    (∀ b, b ≠ a.toNat → t.reg b = s.dev.reg b) ∧
    (∀ b y, regMapped b.toNat = false ∨ s.dev.regOpen b.toNat = false → exec (.registerWrite b ⟨y, setNow⟩) s = .next s)

/-- READ_REG and WRITE_REG with an address outside the register map or not a word address answer BAD_PARAM; with one in a
closed domain, PARTNER_GONE; a COUNT of 0 or above 1,024 is BAD_PARAM. Nothing is read or written then. A REGISTER_WRITE to
such an address changes nothing. A read of FT_LO, RTC_LO, STK_OFFs_LO, DBG_BOLT_FT_LO or of a survey result (of the sequence or
the last of a channel) reads the low half or the result, and latches the upper half or the time that belongs to it at that
moment; READ_REG of FT_LO does the same and READ_REG of FT_HI reads the latch. Nothing else changes.
Where the spec leaves it to a reading, this is the model's own, in log entries 139 and 146. -/
def Obligations.RegisterReadsLatchAndRefusals : Prop :=
  (∀ (s : State) (h : CmdHdr) (a v : Word) (n : Half) (sets : List Word),
     (s.dev.serves 0x07 = true → (n = 0 ∨ n.toNat > 1024 ∨ regMapped a.toNat = false) →
       exec (.readReg h a n) s = .next (s.withDev (s.dev.answered 0x07 h stBadParam []))) ∧
     (s.dev.serves 0x07 = true → regMapped a.toNat = true → s.dev.regOpen a.toNat = false →
       exec (.readReg h a 1) s = .next (s.withDev (s.dev.answered 0x07 h stPartnerGone []))) ∧
     (s.dev.serves 0x08 = true → regMapped a.toNat = false →
       exec (.writeReg h ⟨[(a, v)], sets⟩) s = .next (s.withDev (s.dev.answered 0x08 h stBadParam []))) ∧
     (s.dev.serves 0x08 = true → s.dev.db.sealed = false → regMapped a.toNat = true → s.dev.regOpen a.toNat = false →
       exec (.writeReg h ⟨[(a, v)], sets⟩) s = .next (s.withDev (s.dev.answered 0x08 h stPartnerGone []))) ∧
     (regMapped a.toNat = false ∨ s.dev.regOpen a.toNat = false → exec (.registerWrite a ⟨v, 0⟩) s = .next s)) ∧
  (∀ (s : State) (h : CmdHdr), s.dev.clocked = true →
     exec .ftLoRead s = .next (s.withDev { s.dev with sys := { s.dev.sys with
       busData := BitVec.ofNat 32 s.dev.now, ftLatch := BitVec.ofNat 32 (s.dev.now / 2 ^ 32) } }) ∧
     (s.dev.serves 0x07 = true → s.dev.isOpen 0 = true → exec (.readReg h 0x10018 1) s = .next (s.withDev
       ({ s.dev with sys := { s.dev.sys with ftLatch := BitVec.ofNat 32 (s.dev.now / 2 ^ 32) } }.answered 0x07 h stOk
         (leBytes 4 s.dev.now)))) ∧
     (s.dev.serves 0x07 = true → s.dev.isOpen 0 = true → exec (.readReg h 0x1001C 1) s = .next (s.withDev
       (s.dev.answered 0x07 h stOk (wordBytes s.dev.sys.ftLatch)))) ∧
     exec .rtcLoRead s = .next (s.withDev { s.dev with
       lin := { s.dev.lin with rtcLatch := s.dev.lin.rtc / 2 ^ 32 }
       sys := { s.dev.sys with busData := BitVec.ofNat 32 s.dev.lin.rtc } }) ∧
     (∀ id, id < 4 → s.dev.isOpen 5 = true → exec (.stkOffLoRead id) s = .next (s.withDev { s.dev with
       sys := { s.dev.sys with busData := BitVec.ofNat 32 (s.dev.offTo id) }
       stk := { s.dev.stk with
         offLatch := (id, BitVec.ofNat 32 (s.dev.offTo id / 2 ^ 32)) :: s.dev.stk.offLatch.filter (fun e => e.1 != id) } })) ∧
     exec .dbgBoltFtLoRead s = .next (s.withDev { s.dev with
       sys := { s.dev.sys with busData := BitVec.ofNat 32 s.dev.dbg.boltFt.toNat }
       dbg := { s.dev.dbg with boltFtLatch := BitVec.ofNat 32 (s.dev.dbg.boltFt.toNat / 2 ^ 32) } }) ∧
     (∀ last k, k < (if last then 48 else 32) → s.dev.isOpen 2 = true →
       let a := (if last then 0x40300 else 0x40200) + 8 * k
       exec (.svyResultRead last k) s = .next (s.withDev { s.dev with
         sys := { s.dev.sys with busData := s.dev.reg a }
         svy := { s.dev.svy with latches := (a + 4, s.dev.reg (a + 4)) :: s.dev.svy.latches.filter (fun e => e.1 != a + 4) } })))


/-! ### Shutters, supplies and clocks (R322 to R348, R383, R557) -/

/-- Outside DOZING, with the trace off and no shutter command in progress, SHUTTER_OPEN of one closed domain below the quadrants
whose rail is good starts to open it, SHUTTER_CLOSE of one open domain of STORM, SILL and DOOR starts its drain, and a forced
close of FRONT with no command waiting in it ends the drain at once and clears FRONT's registers, channels and survey. With a
command in progress a shutter command waits behind it. A mask that names a domain below 2 or a reserved bit is BAD_PARAM;
SHUTTER_OPEN of no domain answers OK at once.
Where the spec leaves it to a reading, this is the model's own, in log entry 117. -/
def Obligations.ShutterCommandsBegin : Prop :=
  ∀ (s : State) (h : CmdHdr) (mask : Half) (n : Nat), s.dev.bitAt 0xC0010 0 = false → s.dev.sys.main ≠ .dozing →
    (s.dev.serves 0x10 = true →
      (2 ≤ n → n ≤ 5 → mask.toNat = 2 ^ n → s.dev.dom n = .closed → s.dev.railOk n = true → s.dev.pwr.reopening = [] →
        s.dev.pwr.cur = none → s.dev.pwr.queue = [] →
        exec (.shutterOpen h mask) s = .next (s.withDev ((Dev.setDom { s.dev with pwr := { s.dev.pwr with
          cur := some { cmd := hostCmdOf 0x10 h, kind := .openMask, todo := [n] } } } n (.opening 0)).taken
            0x10 (leBytes 2 mask.toNat) h))) ∧
      (badMask mask.toNat = false → bitOf mask.toNat 15 = false → mask ≠ 0 → s.dev.pwr.cur.isSome = true →
        exec (.shutterOpen h mask) s = .next (s.withDev (Dev.taken { s.dev with pwr := { s.dev.pwr with
          queue := s.dev.pwr.queue ++ [{ cmd := hostCmdOf 0x10 h, kind := .openMask, todo := maskDoms mask.toNat }] } }
            0x10 (leBytes 2 mask.toNat) h))) ∧
      (badMask mask.toNat = true ∨ bitOf mask.toNat 15 = true →
        exec (.shutterOpen h mask) s = .next (s.withDev (s.dev.answered 0x10 h stBadParam []))) ∧
      (mask = 0 → exec (.shutterOpen h mask) s = .next (s.withDev (s.dev.answered 0x10 h stOk [])))) ∧
    (s.dev.serves 0x11 = true → s.dev.pwr.cur = none → s.dev.pwr.queue = [] →
      (3 ≤ n → n ≤ 5 → mask.toNat = 2 ^ n → s.dev.dom n = .opened →
        exec (.shutterClose h mask) s = .next (s.withDev ((Dev.setDom { s.dev with pwr := { s.dev.pwr with
          drainAt := Tab.set (fun _ => 0) s.dev.pwr.drainAt n s.dev.now
          cur := some { cmd := hostCmdOf 0x11 h, kind := .closeMask, todo := [n], fully := s.dev.sillOpening } } } n
            (.draining false false)).taken
            0x11 (leBytes 2 mask.toNat) h))) ∧
      (mask.toNat = 4 → s.dev.dom 2 = .opened → s.dev.front.teds = none → s.dev.front.tedsQueue = [] → s.dev.front.cals = [] →
        s.dev.svy.serving = none → s.dev.svy.urgents = [] → s.dev.svy.cal = none →
        ∃ d : Dev, exec (.shutterCloseForce h mask) s = .next (s.withDev (d.taken 0x11 (leBytes 2 (mask ||| 0x8000).toNat) h))
          ∧ d = { s.dev with regs := d.regs, pwr := d.pwr, front := .reset, svy := .reset }
          ∧ d.dom 2 = .cutting false true ∧ (∀ m, m ≠ 2 → d.dom m = s.dev.dom m)
          ∧ d.pwr.cur = some { cmd := hostCmdOf 0x11 h, kind := .force, todo := [2], fully := s.dev.sillOpening }
          ∧ (∀ a, 0x40000 ≤ a → a < 0x70000 → d.reg a = regReset a) ∧ d.bitAt 0xA0004 4 = true))

/-- With the trace off and nothing being reopened: DOMAIN_OPEN_COMPLETE of STORM, the last domain of its opening command, opens
it, ends its ghost and answers OK; SHUTTER_COMMAND_START takes the next waiting command, here a close of one open domain;
QUADRANT_START opens the first quadrant that waits for its spacing; RAIL_GOOD opens FRONT where it waits for its rail; and
RAIL_WAIT_TIMEOUT leaves FRONT closed, names it in the shutter status and ends the command with INTERNAL_FAULT.
CASEMENT_PAIR_START of an opening quadrant counts the pair and zeroes the SRAM of exactly its two casements, in the order of
their ids; in a quadrant that is being reopened after DOZE their SRAM stays. Nothing else changes.
Where the spec leaves it to a reading, this is the model's own, in log entry 112. -/
def Obligations.ShutterOpeningProceeds : Prop :=
  (∀ (s : State), s.dev.clocked = true → s.dev.bitAt 0xC0010 0 = false → s.dev.pwr.reopening = [] →
     (∀ x h ps k, s.dev = Dev.taken x 0x10 ps h → x.hl.linkReplies = [] → x.hl.stream = [] → x.dom 3 = .opening k →
       x.pwr.cur = some { cmd := hostCmdOf 0x10 h, kind := .openMask, todo := [3] } → x.pwr.forced = [] →
       exec (.domainOpenComplete 3) s = .next (s.withDev ((({ x with pwr := { x.pwr with
         cur := none, dozed := x.pwr.dozed.filter (· != 3) } }.setDom 3 .opened).setFld 0xA0004 1 1 0).answered 0x10 h stOk []))) ∧
     (∀ op rest n, s.dev.pwr.cur = none → s.dev.pwr.queue = op :: rest → op.kind = .closeMask → op.todo = [n] → 3 ≤ n → n ≤ 5 →
       s.dev.dom n = .opened → op.fully = false →
       exec .shutterCommandStart s = .next (s.withDev ({ s.dev with pwr := { s.dev.pwr with
         drainAt := Tab.set (fun _ => 0) s.dev.pwr.drainAt n s.dev.now, cur := some op, queue := rest } }.setDom n (.draining false false)))) ∧
     (∀ n, 6 ≤ n → n ≤ 9 → s.dev.dom n = .waitSpacing → (∀ m, 6 ≤ m → m < n → s.dev.dom m ≠ .waitSpacing) →
       exec .quadrantStart s = .next (s.withDev ({ s.dev with pwr := { s.dev.pwr with
         lastQuad := some s.dev.now } }.setDom n (.opening 0)))) ∧
     (s.dev.dom 2 = .waitRail → exec (.railGood true false) s = .next (s.withDev ({ s.dev with pwr := { s.dev.pwr with
         afeGood := true } }.setDom 2 (.opening 0)))) ∧
     (∀ x h ps rest, s.dev = Dev.taken x 0x10 ps h → x.hl.linkReplies = [] → x.hl.stream = [] → x.dom 2 = .waitRail →
       x.pwr.cur = some { cmd := hostCmdOf 0x10 h, kind := .openMask, todo := 2 :: rest } →
       exec .railWaitTimeout s = .next (s.withDev ((({ x with pwr := { x.pwr with cur := none } }.setDom 2 .closed).setFld
         0x10000 26 4 2).answered 0x10 h stInternalFault [])))) ∧
  (∀ (s : State) (n k : Nat), s.dev.clocked = true → 6 ≤ n → n ≤ 9 → k < 4 → s.dev.dom n = .opening k →
     ∃ d, exec (.casementPairStart n) s = .next (s.withDev d) ∧ d = { s.dev with pwr := d.pwr, csm := d.csm }
       ∧ d.pwr = (s.dev.setDom n (.opening (k + 1))).pwr
       ∧ (s.dev.pwr.reopening.contains n = true → d.csm = s.dev.csm)
       ∧ (s.dev.pwr.reopening.contains n = false → ∀ c, d.cas c =
           if c ∈ ((casOfQuad n).drop (2 * k)).take 2 then { s.dev.cas c with sram := [], flips := [] } else s.dev.cas c))

/-- With the trace off: DRAIN_END of FRONT records length (at most 20), expiry and near misses of the drain, sends messages to
the ghost, and cuts power; RAIL_FAIL of FRONT's rail closes FRONT by force; POWER_CUT of FRONT's close command answers OK; a
POWER_CUT of SILL while DOZE still closes others keeps every memory cell of retained banks, and otherwise loses the on-chip
cells and the written rows; the leases end, and the companion dies stay in self-refresh. The domain of a failed rail is named.
Where the spec leaves it to a reading, this is the model's own, in log entries 113 and 119. -/
def Obligations.DrainsAndPowerCuts : Prop :=
  ∀ (s : State), s.dev.clocked = true → s.dev.bitAt 0xC0010 0 = false →
    (∀ r f us ex nm, s.dev.dom 2 = .draining r f →
      ∃ d, exec (.drainEnd 2 us ex nm) s = .next (s.withDev d) ∧ d = { s.dev with regs := d.regs, pwr := d.pwr }
        ∧ d.pwr = (s.dev.setDom 2 (.cutting r f)).pwr ∧ d.fldAt 0x10008 0 5 = min us 20 ∧ d.bitAt 0x10008 5 = ex
        ∧ d.fldAt 0x10008 16 16 = satAdd 16 (s.dev.fldAt 0x10008 16 16) nm ∧ d.bitAt 0xA0004 4 = true
        ∧ (∀ a, a ≠ 0x10008 → a ≠ 0xA0004 → d.reg a = s.dev.reg a)) ∧
    (s.dev.dom 2 = .opened → s.dev.front.teds = none → s.dev.front.tedsQueue = [] → s.dev.front.cals = [] →
      s.dev.svy.serving = none → s.dev.svy.urgents = [] → s.dev.svy.cal = none →
      ∃ d, exec (.railFail 2) s = .next (s.withDev d)
        ∧ d = { s.dev with regs := d.regs, pwr := d.pwr, front := .reset, svy := .reset } ∧ d.pwr.afeGood = false
        ∧ d.dom 2 = .cutting false true ∧ d.fldAt 0x10000 26 4 = 2
        ∧ (∀ a, 0x40000 ≤ a → a < 0x70000 → d.reg a = regReset a)) ∧
    (∀ x h ps f, s.dev = Dev.taken x 0x11 ps h → x.hl.linkReplies = [] → x.hl.stream = [] → x.dom 2 = .cutting false f →
      x.pwr.cur = some { cmd := hostCmdOf 0x11 h, kind := .closeMask, todo := [2] } → x.pwr.forced = [] →
      exec (.powerCut 2) s = .next (s.withDev (({ x with pwr := { x.pwr with cur := none } }.setDom 2 .closed).answered
        0x11 h stOk []))) ∧
    (∀ op m r f r' f', s.dev.pwr.forced = [] → s.dev.pwr.cur = some op → op.kind = .doze → 4 ∈ op.todo → m ∈ op.todo → m ≠ 4 →
      s.dev.dom m = .draining r' f' → s.dev.dom 4 = .cutting r f →
      ∃ d, exec (.powerCut 4) s = .next (s.withDev d) ∧ d = { s.dev with regs := d.regs, pwr := d.pwr, sill := d.sill }
        ∧ d.dom 4 = (if r then .retained else .closed) ∧ d.sill.selfRefresh = true
        ∧ (r = true → d.sill = { s.dev.sill with selfRefresh := true, leases := [] })
        ∧ (r = false → d.sill.written = [] ∧ d.sill.leases = []
            ∧ d.sill.mem = s.dev.sill.mem.filter (fun e => !onChip e.1)))

/-- DOZE answers BUSY and changes nothing while a slot is STARTED or STOPPING. Otherwise, with no shutter command in progress, it
enters DOZING, and every open one of STORM, SILL, DOOR and the quadrants begins to drain, SILL and the quadrants to be
retained. WAKE with no command in progress returns to AJAR, and the first of the domains that DOZE closed starts to open, if it
is STORM, SILL or DOOR with its rail good.
Where the spec leaves it to a reading, this is the model's own, in log entry 117. -/
def Obligations.DozeAndWake : Prop :=
  ∀ (s : State) (h : CmdHdr),
    (s.dev.serves 0x12 = true → s.dev.busySlots ≠ [] →
      exec (.doze h) s = .next (s.withDev (s.dev.answered 0x12 h stBusy []))) ∧
    (s.dev.serves 0x12 = true → s.dev.busySlots = [] → s.dev.pwr.cur = none → s.dev.pwr.queue = [] →
      (∃ n ∈ [3, 4, 5, 6, 7, 8, 9], s.dev.dom n = .opened) →
      ∃ d, exec (.doze h) s = .next (s.withDev d) ∧ d.sys.main = .dozing ∧ d.sys.since = s.dev.nowWord
        ∧ (∀ n ∈ [3, 4, 5, 6, 7, 8, 9], s.dev.dom n = .opened → d.dom n = .draining (n == 4 || n ≥ 6) false)
        ∧ d.pwr.cur.map (·.kind) = some .doze) ∧
    (∀ n l, s.dev.serves 0x13 = true → s.dev.sys.main = .dozing → s.dev.pwr.cur = none → s.dev.pwr.queue = [] →
      s.dev.toWake = n :: l → 3 ≤ n → n ≤ 5 → s.dev.railOk n = true → (s.dev.dom n = .closed ∨ s.dev.dom n = .retained) →
      ∃ d, exec (.wake h) s = .next (s.withDev d) ∧ d.sys.main = .ajar ∧ d.dom n = .opening 0
        ∧ (∀ m, m ≠ n → d.dom m = s.dev.dom m) ∧ d.pwr.cur.map (·.kind) = some .wake ∧ d.lin = s.dev.lin ∧ d.mdl = s.dev.mdl)

/-! ### Reset, option load and failed starts (R349 to R377) -/

/-- With the supplies good, the device not sealed and no reset in force: a brown-out asserts POR with cause 2; RST_N low
asserts SYSRST with cause 3; the pending reset of a RESET command asserts its level with cause 4; the hinge watchdog outside a
start asserts SYSRST with cause 5; SYS_RESET on an open JTAG port asserts CORERST or SYSRST with cause 6; the loss of the main
supply asserts POR with cause 1 and enters DARK. Each request is recorded and clears what its level clears. On a sealed device
with the supplies good and no reset in force, RST_N low and a host reset of any level assert POR; the history
entry carries level 2 and the promoted mark, and the promotion is remembered for RST_CAUSE.
Where the spec leaves it to a reading, this is the model's own, in log entries 120, 121 and 122. -/
def Obligations.ResetSourcesAssertTheirLevel : Prop :=
  (∀ (s : State), s.dev.rst.supplyLow = false → s.dev.db.sealed = false → s.dev.rst.level = none →
     (∃ d, exec .brownOut s = .next (s.withDev d) ∧ s.dev.ResetTaken d 2 .por) ∧
     (s.dev.rst.pinLow = false → ∃ d, exec .rstNLow s = .next (s.withDev d) ∧ s.dev.ResetTaken d 3 .sys ∧ d.rst.pinLow = true) ∧
     (∀ l, s.dev.rst.hostPending = some l → l.code ≤ 2 → ∃ d, exec .hostReset s = .next (s.withDev d) ∧ s.dev.ResetTaken d 4 l) ∧
     (s.dev.hwdtRuns = true → s.dev.rst.starting = false →
       ∃ d, exec .hwdtExpiry s = .next (s.withDev d) ∧ s.dev.ResetTaken d 5 .sys ∧ d.lin.failCount = s.dev.lin.failCount) ∧
     (s.dev.jtagOpen = true → ∃ d, exec .sysResetCorerst s = .next (s.withDev d) ∧ s.dev.ResetTaken d 6 .core
       ∧ d.sys.ft = s.dev.sys.ft) ∧
     (s.dev.jtagOpen = true → ∃ d, exec .sysResetSysrst s = .next (s.withDev d) ∧ s.dev.ResetTaken d 6 .sys) ∧
     (∃ d, exec .mainSupplyLoss s = .next (s.withDev d) ∧ s.dev.ResetTaken d 1 .por ∧ d.rst.supplyLow = true
       ∧ d.sys.main = .dark)) ∧
  (∀ (s : State), s.dev.rst.supplyLow = false → s.dev.db.sealed = true → s.dev.rst.level = none →
     (s.dev.rst.pinLow = false → ∃ d, exec .rstNLow s = .next (s.withDev d) ∧ d.rst.asserted = some .por ∧ d.rst.promoted = true
       ∧ d.rst.causes = [(3, .por)]
       ∧ d.lin.hist = ((3 + 2 * 16 + 64 + s.dev.lin.rtc % 2 ^ 48 * 65536) :: s.dev.lin.hist).take 8) ∧
     (∀ l, s.dev.rst.hostPending = some l → l.code ≤ 2 → ∃ d, exec .hostReset s = .next (s.withDev d)
       ∧ d.rst.asserted = some .por ∧ d.rst.promoted = true ∧ d.rst.causes = [(4, .por)]
       ∧ d.lin.hist = ((4 + 2 * 16 + 64 + s.dev.lin.rtc % 2 ^ 48 * 65536) :: s.dev.lin.hist).take 8))

/-- When internal reset with one cause releases (pins and supply good, PLL locked, BOLT_IO free, fewer than three failed starts)
the device is in WAKING with HINGE open, a start begins, frame time starts at 0 unless the level was CORERST, RST_CAUSE names cause, level and
promotion, and the hinge runs at once after CORERST and after option load otherwise; while a pin, the supply, the PLL or the
debugger's reset still holds it, nothing changes. Option load that finds its pages readable, no commit cut and no burn cut takes the straps, reads the
seal and its hash from the fuses, opens MULLION, releases RSTOUT_N and starts the hinge: in WAKING with fewer than three failed starts on
record, else in DOORSTEP. The fuses do not change.
Where the spec leaves it to a reading, this is the model's own, in log entries 123 and 129. -/
def Obligations.ResetReleaseAndOptionLoad : Prop :=
  ∀ (s : State),
    (∀ l c, s.dev.rst.asserted = some l → s.dev.rst.causes = [(c, l)] → c ≤ 10 → s.dev.rst.pinLow = false →
      s.dev.rst.supplyLow = false → s.dev.rst.pllLock = true → s.dev.dbg.lineLow = false → s.dev.lin.failCount < 3 →
      wbit s.dev.dbg.jtag.dmcontrol 1 = false →
      ∃ d, exec .resetStretchEnd s = .next (s.withDev d)
        ∧ d = { s.dev with regs := d.regs, sys := d.sys, lin := d.lin, rst := d.rst, pwr := d.pwr }
        ∧ (l = .core → d.pwr = s.dev.pwr) ∧ (l ≠ .core → d.dom 0 = .opened ∧ ∀ n, n ≠ 0 → d.dom n = s.dev.dom n)
        ∧ d.rst.asserted = none ∧ d.rst.starting = true ∧ d.rst.optionLoad = (l != .core) ∧ d.sys.main = .waking
        ∧ d.sys.ft = (if l = .core then s.dev.sys.ft else 0) ∧ (l = .core → d.rst.hingeUp = true)
        ∧ d.fldAt 0x10100 0 4 = c ∧ d.fldAt 0x10100 4 2 = l.code ∧ d.bitAt 0x10100 6 = s.dev.rst.promoted) ∧
    (s.dev.rst.pinLow = true ∨ s.dev.rst.supplyLow = true ∨ s.dev.rst.pllLock = false ∨ wbit s.dev.dbg.jtag.dmcontrol 1 = true
        ∨ s.dev.rst.asserted = none →
      exec .resetStretchEnd s = .next s) ∧
    (∀ straps time, s.dev.clocked = true → s.dev.rst.optionLoad = true → s.dev.db.burnCut = none → s.dev.jamb.marker = .clear → s.dev.jamb.flips = [] →
      ∃ d, exec (.optionLoadComplete straps time) s = .next (s.withDev d)
        ∧ d.rst.straps = straps % 16 ∧ d.rst.optionLoad = false ∧ d.rst.rstoutLow = false ∧ d.rst.hingeUp = true
        ∧ d.dom 1 = .opened ∧ d.rst.causes = [] ∧ d.db.sealed = s.fuses.isSealed ∧ d.db.hash = s.fuses.hash ∧ d.jamb.mem = s.dev.jamb.mem
        ∧ d.jamb.lockSeen = s.dev.jamb.lock ∧ d.stk.role = min (straps / 2 % 4) 2 ∧ d.lin.failCount = s.dev.lin.failCount
        ∧ d.sys.main = (if s.dev.lin.failCount ≥ 3 then .doorstep else s.dev.sys.main)
        ∧ (s.dev.lin.failCount ≥ 3 → d.rst.starting = false ∧ d.lin.doorReason = s.dev.lin.reason0 ∧ d.sys.doorstepNote = true))

/-- With the supplies good, the device not sealed, no reset in force and nothing BOLTED, the 50 ms deadline during a start counts
a failed start with reason 1 and asserts SYSRST with cause 9; the watchdog during a start counts reason 2 and asserts SYSRST
with cause 5; older reasons move one place. AJAR on the deadline's tick wins and only counts a near miss; a kick of the
running watchdog on its tick of expiry counts one. With no start in progress the deadline does nothing. -/
def Obligations.FailedStartsAreCounted : Prop :=
  ∀ (s : State), s.dev.rst.supplyLow = false → s.dev.db.sealed = false → s.dev.rst.level = none → s.dev.dbg.bolted = false →
    (s.dev.rst.starting = true → ∃ d, exec (.ajarTimeout false) s = .next (s.withDev d) ∧ s.dev.ResetTaken d 9 .sys
      ∧ d.lin.failCount = min 3 (s.dev.lin.failCount + 1) ∧ d.lin.reason0 = 1 ∧ d.lin.reason1 = s.dev.lin.reason0
      ∧ d.lin.reason2 = s.dev.lin.reason1 ∧ d.rst.starting = false) ∧
    (s.dev.rst.starting = true → s.dev.hwdtRuns = true → ∃ d, exec .hwdtExpiry s = .next (s.withDev d)
      ∧ s.dev.ResetTaken d 5 .sys ∧ d.lin.failCount = min 3 (s.dev.lin.failCount + 1) ∧ d.lin.reason0 = 2
      ∧ d.lin.reason1 = s.dev.lin.reason0 ∧ d.lin.reason2 = s.dev.lin.reason1) ∧
    exec (.ajarTimeout true) s = .next (s.withDev (s.dev.setFld 0x10110 0 16 (satInc 16 (s.dev.fldAt 0x10110 0 16)))) ∧
    (s.dev.rst.starting = false → exec (.ajarTimeout false) s = .next s) ∧
    (s.dev.clocked = true → s.dev.hwdtRuns = true → exec (.hwdtKick true) s =
      .next (s.withDev (s.dev.setFld 0x10110 16 16 (satInc 16 (s.dev.fldAt 0x10110 16 16))))) ∧
    exec (.hwdtKick false) s = .next s

/-- CLOCK_CONFIG with a value of 0 to 3 stores it in the clock configuration and answers OK; any other value is BAD_PARAM. The
PLL locks only in reset with the supply good; it can lose lock at any time, and logic on a divided clock does nothing while it
has none, with the supply away or in a POR or SYSRST; RST_N high ends its request; the monitors' release ends that of the
supply, as the power-up of a lintel POR without a record, else recorded as a SUPPLY reset; the lintel's supply switch and the
start of its crystal set only their flags. A write of ALARM_HI
stores its 16 bits and arms the alarm; the alarm event sets WAKE.ALARM and disarms once the counter equals or passes the armed
48-bit value, and does nothing before or while disarmed; an external wake sets WAKE.EXT; clearing and disarming change only
their own flag.
Where the spec leaves it to a reading, this is the model's own, in log entry 129. -/
def Obligations.ClocksSuppliesAndTheWakeAlarm : Prop :=
  (∀ (s : State) (h : CmdHdr) (v : Byte), s.dev.serves 0x14 = true →
     (v.toNat ≤ 3 → exec (.clockConfig h v) s = .next (s.withDev ((s.dev.setFld 0x10014 0 2 v.toNat).answered 0x14 h stOk []))
       ∧ (s.dev.setFld 0x10014 0 2 v.toNat).fldAt 0x10014 0 2 = v.toNat) ∧
     (v.toNat > 3 → exec (.clockConfig h v) s = .next (s.withDev (s.dev.answered 0x14 h stBadParam [])))) ∧
  (∀ (s : State) (b g : Bool),
     (s.dev.clocked = false →
       ∀ i ∈ [Instr.commandTaken b, .linkUp, .replyEntersStream, .ftLoRead, .hwdtKick b, .histogramSample, .coreInstruction 0,
         .productStart 0, .windowComplete 0, .streamedRunStart, .quadrantStart, .deviceCommitStart, .surveyPredelayEnd,
         .epochClose, .adjacencyRefresh, .optionLoadComplete 0 0], exec i s = .next s) ∧
     (exec .pllLock s = .next (s.withDev { s.dev with rst := { s.dev.rst with
       pllLock := s.dev.rst.pllLock || (!s.dev.rst.supplyLow && s.dev.rst.asserted.isSome) } })) ∧
     (exec .pllLockLoss s = .next (s.withDev { s.dev with rst := { s.dev.rst with pllLock := false } })) ∧
     (exec .rstNHigh s = .next (s.withDev { s.dev with rst := { s.dev.rst with pinLow := false } })) ∧
     (s.dev.rst.pinLow = false →
       (s.dev.rst.supplyLow = false → exec .monitorRelease s = .next s) ∧
       (s.dev.rst.asserted = some .lintelPor → exec .monitorRelease s = .next (s.withDev { s.dev with rst := { s.dev.rst with
         supplyLow := false } })) ∧
       (s.dev.rst.supplyLow = true → s.dev.rst.asserted = some .por → s.dev.db.sealed = false →
         ∃ d, exec .monitorRelease s = .next (s.withDev d) ∧ d.rst.supplyLow = false ∧ d.rst.asserted = some .por
           ∧ d.sys.main = .dark ∧ d.lin.count = satInc 32 s.dev.lin.count
           ∧ d.lin.hist = ((1 + 2 * 16 + s.dev.lin.rtc % 2 ^ 48 * 65536) :: s.dev.lin.hist).take 8)) ∧
     (exec (.lintelSupplySwitch ⟨b, g⟩) s =
       .next (s.withDev { s.dev with lin := { s.dev.lin with fromVddio := b, vbatOk := g } })) ∧
     (exec .lintelCrystalStart s = .next (s.withDev { s.dev with lin := { s.dev.lin with clkMasked := false, clkOk := true } }))) ∧
  (∀ (s : State) (v : Word),
     (s.dev.clocked = true → ∃ d, exec (.alarmHiWrite v) s = .next (s.withDev d)
       ∧ d = { s.dev with regs := d.regs, lin := { s.dev.lin with armed := true } }
       ∧ d.fldAt 0x20010 0 16 = v.toNat % 65536 ∧ ∀ a, a ≠ 0x20010 → d.reg a = s.dev.reg a) ∧
     (s.dev.lin.armed = true → (s.dev.reg 0x2000C).toNat + s.dev.fldAt 0x20010 0 16 * 2 ^ 32 ≤ s.dev.lin.rtc →
       exec .wakeAlarm s = .next (s.withDev { s.dev with lin := { s.dev.lin with wakeAlarm := true, armed := false } })) ∧
     ((s.dev.lin.armed = false ∨ s.dev.lin.rtc < (s.dev.reg 0x2000C).toNat + s.dev.fldAt 0x20010 0 16 * 2 ^ 32) →
       exec .wakeAlarm s = .next s) ∧
     exec .externalWake s = .next (s.withDev { s.dev with lin := { s.dev.lin with wakeExt := true } }) ∧
     (s.dev.clocked = true →
       exec .wakeAlarmClear s = .next (s.withDev { s.dev with lin := { s.dev.lin with wakeAlarm := false } }) ∧
       exec .wakeDisarm s = .next (s.withDev { s.dev with lin := { s.dev.lin with armed := false } })))

/-- LINTEL_POR leaves the lintel as it is after reset, with one count and the one history entry of itself, its crystal masked and
its supply as given; internal reset is asserted at the highest level with cause 10, RSTOUT_N low, and SEEN names LINTEL_POR and
SUPPLY. The array of the jamb and the fuses stay.
Where the spec leaves it to a reading, this is the model's own, in log entries 11, 14 and 177. -/
def Obligations.LintelPorStartsEverythingAnew : Prop :=
  ∀ (s : State) (b : Bool),
    ∃ d, exec (.lintelPor b) s = .next (s.withDev d)
      ∧ d.lin = { LintelState.reset with fromVddio := b, clkMasked := true } ∧ d.lin.hist = [10 + 3 * 16] ∧ d.lin.count = 1
      ∧ d.rst.asserted = some .lintelPor ∧ d.rst.causes = [(10, .lintelPor)] ∧ d.rst.rstoutLow = true ∧ d.rst.promoted = false
      ∧ d.bitAt 0x10100 16 = true ∧ d.bitAt 0x10100 25 = true ∧ d.hl = HostLink.reset
      ∧ (s.dev.jamb.commit = none → d.jamb.mem = s.dev.jamb.mem)

/-- A source that becomes active (the crystal running, the supply present) is logged with its policy and time and counted. At
policy 1 or above the alarm latch is set with the source and the privileged session ends; at policy 2 or above the whole key
store is zeroed; at policy 3 a POR with cause 8 follows. Below policy 2 the keys stay; below policy 1 the latch stays.
Where the spec leaves it to a reading, this is the model's own, in log entry 137. -/
def Obligations.TamperActsByPolicy : Prop :=
  ∀ (s : State) (a : Byte) (k p : Nat), k < 8 → a.toNat = 2 ^ k → bitOf s.dev.lin.active k = false → s.dev.lin.clkMasked = false →
    s.dev.rst.supplyLow = false → policyOf s.dev.lin.policy k = p →
    ∃ d, exec (.tamperEvent a) s = .next (s.withDev d) ∧ d.lin.active = 2 ^ k
      ∧ d.lin.tlog = ((k + p * 8 + (if p ≥ 2 then 32 else 0) + s.dev.lin.rtc % 2 ^ 48 * 65536) :: s.dev.lin.tlog).take 4
      ∧ d.lin.evCount = satInc 16 s.dev.lin.evCount
      ∧ d.lin.alarm = (s.dev.lin.alarm || p ≥ 1) ∧ (p ≥ 1 → bitOf d.lin.latched k = true ∧ d.db.privileged = false)
      ∧ (p = 0 → d.lin.latched = s.dev.lin.latched ∧ d.db = s.dev.db)
      ∧ d.lin.keys = (if p ≥ 2 then [] else s.dev.lin.keys) ∧ (p ≥ 2 → d.lin.erased = true)
      ∧ (p = 3 → d.rst.asserted.isSome = true ∧ (8, RstLevel.por) ∈ d.rst.causes)
      ∧ (p < 3 → d.rst = s.dev.rst)

/-! ### Casement cores and the mullion (R122 to R149, R189, R193) -/

/-- When an instruction of `n` bytes ends with a value for rd: rd reads the value unless it is x0, which reads zero; every other
register keeps its value; the pc is behind the instruction; the retired-instruction counter is one higher (of 64 bits); no other
control register, and neither SRAM nor rings, change; a HALT that waited takes effect.
Where the spec leaves it to a reading, this is the model's own, in log entry 150. -/
def Obligations.InstructionEnds : Prop :=
  ∀ (k : Casement) (n rd r : Nat) (v : Word), rd < 32 →
    (k.done n rd v).xr r = (if r = 0 then 0 else if r = rd then v else k.xr r) ∧
    (k.done n rd v).pc = k.pc + BitVec.ofNat 32 n ∧
    ((k.done n rd v).csrAt 0xB82).toNat * 2 ^ 32 + ((k.done n rd v).csrAt 0xB02).toNat
      = ((k.csrAt 0xB82).toNat * 2 ^ 32 + (k.csrAt 0xB02).toNat + 1) % 2 ^ 64 ∧
    (∀ m, m ≠ 0xB02 → m ≠ 0xB82 → (k.done n rd v).csrAt m = k.csrAt m) ∧
    (k.done n rd v).sram = k.sram ∧ (k.done n rd v).req = k.req ∧ (k.done n rd v).ctl = k.ctl ∧ (k.done n rd v).rsp = k.rsp ∧
    (k.done n rd v).fires = k.fires ∧ (k.done n rd v).wait = .none ∧
    (k.done n rd v).core = (if k.haltPending then .halted else k.core)

/-- On a core that executes plainly, with LEN and operands in range, AU.COPY, ABS, RELU, MAG2, SCALE, ADD, POOLSUM and POOLMAX
write the lanes of their result at the address in rs2 and end with OK: each lane is the exact result saturated to ±32,767, or
no-data where an input lane is. au_status keeps its bits and may gain NODATA and SAT; no other casement and no other state
changes. With LEN out of range they end with BAD_PARAM and write nothing. -/
def Obligations.ActivationUnitComputes : Prop :=
  ∀ (s : State) (c : Nat) (rd rs1 rs2 : BitVec 5), s.dev.corePlain c = true →
    let k := s.dev.cas c
    let cfg := k.csrAt 0x7C0
    let len := wfld cfg 0 11
    let shift := wfld cfg 11 4
    let g := 2 ^ (wfld cfg 15 3 + 1)
    let scale := sxt 16 (wfld (k.csrAt 0x7C5) 0 16)
    let src := (k.xr rs1.toNat).toNat
    let dst := (k.xr rs2.toNat).toNat
    let src2 := (k.csrAt 0x7C1).toNat
    let x := lanes16 len (s.dev.sramBytes c (src - 0x80000000) (2 * len))
    let x2 := lanes16 len (s.dev.sramBytes c (src2 - 0x80000000) (2 * len))
    let lane := fun (ins : List Int) (v : Int) => if noData ∈ ins then noData else clampI (-32767) 32767 v
    let grp := fun (i : Nat) => (x.drop (i * g)).take g
    let ends := fun (i : Instr) (out : List Int) => ∃ d st, exec i s = .next (s.withDev d) ∧ d = { s.dev with csm := d.csm }
      ∧ k.csrAt 0x7C2 &&& st = k.csrAt 0x7C2 ∧ st &&& 0xFFFFFFFC = k.csrAt 0x7C2 &&& 0xFFFFFFFC
      ∧ s.dev.onlyCas d c (({ k with
          sram := Tab.setList (fun _ => 0) k.sram (dst - 0x80000000) (laneBytes out) }.setCsr 0x7C2 st).done 4 rd.toNat 0)
    let refuses := fun (i : Instr) => ∃ d, exec i s = .next (s.withDev d) ∧ d = { s.dev with csm := d.csm }
      ∧ s.dev.onlyCas d c (k.done 4 rd.toNat (BitVec.ofNat 32 stBadParam.toNat))
    (1 ≤ len → len ≤ 1024 → operandIn src (2 * len) = true →
      (operandOut dst (2 * len) = true →
        ends (.auCopy c rd rs1 rs2) (x.map (fun a => lane [a] a)) ∧
        ends (.auAbs c rd rs1 rs2) (x.map (fun a => lane [a] (if a < 0 then -a else a))) ∧
        ends (.auRelu c rd rs1 rs2) (x.map (fun a => lane [a] (max 0 a))) ∧
        ends (.auScale c rd rs1 rs2) (x.map (fun a => lane [a] (auRound (a * scale) shift))) ∧
        (operandIn src2 (2 * len) = true →
          ends (.auAdd c rd rs1 rs2) ((x.zip x2).map (fun e => lane [e.1, e.2] (auRound (e.1 + e.2) shift))))) ∧
      (len % 2 = 0 → operandOut dst (2 * (len / 2)) = true →
        ends (.auMag2 c rd rs1 rs2) ((List.range (len / 2)).map (fun i =>
          lane [nthD x (2 * i) 0, nthD x (2 * i + 1) 0]
            (sqrtRound (nthD x (2 * i) 0 * nthD x (2 * i) 0 + nthD x (2 * i + 1) 0 * nthD x (2 * i + 1) 0).toNat)))) ∧
      (len % g = 0 → operandOut dst (2 * (len / g)) = true →
        ends (.auPoolsum c rd rs1 rs2) ((List.range (len / g)).map (fun i => lane (grp i) (auRound (sumI (grp i)) shift))) ∧
        ends (.auPoolmax c rd rs1 rs2) ((List.range (len / g)).map (fun i => lane (grp i) ((grp i).foldl max ((grp i).headD 0)))))) ∧
    (len = 0 ∨ len > 1024 → refuses (.auCopy c rd rs1 rs2) ∧ refuses (.auAdd c rd rs1 rs2) ∧ refuses (.auPoolmax c rd rs1 rs2))

/-- On a core that executes plainly, with no tensor dump armed: PN.FIRE with a good operand and fewer than two uncollected
products of the slot, whose path is the slot's own pane, queues the staged lanes on that pane and records the product;
a misaligned operand ends BAD_PARAM, a third product QUEUE_FULL, and neither fires. PN.COLLECT of a product under no live
ticket writes its result bytes at rs1, frees its buffer and ends with the product word; with no result it waits. When that
wait times out on a product without a result, its buffer is freed and the product word carries TIMEOUT.
Where the spec leaves it to a reading, this is the model's own, in log entry 56. -/
def Obligations.FireAndCollect : Prop :=
  ∀ (s : State) (c : Nat) (rd rs1 rs2 : BitVec 5), s.dev.corePlain c = true → s.dev.dbg.dumps = [] → s.dev.storm.samples = [] →
    let k := s.dev.cas c
    let a := (k.xr rs1.toNat).toNat
    let slot := wfld (k.xr rs2.toNat) 0 2
    let key := s.dev.ctxKey c (wfld (k.xr rs2.toNat) 2 7)
    let tk := s.dev.ticket key
    let o := 4 * c + slot
    let raw := lanes16 512 (s.dev.sramBytes c (a - 0x80000000) 1024)
    (operandIn a 1024 = true → (k.fires.filter (fun f => f.slot == slot)).length < 2 → s.dev.firePath o tk = .pane o 0 →
      ∃ d, exec (.pnFire c rd rs1 rs2) s = .next (s.withDev d)
        ∧ d = { s.dev with csm := d.csm, mul := { s.dev.mul with nextFire := s.dev.mul.nextFire + 1 }, panes := d.panes, mdl := d.mdl }
        ∧ s.dev.onlyCas d c (Casement.done { k with fires := k.fires ++ [
            { id := s.dev.mul.nextFire, slot := slot, ticket := key, noData := raw.contains noData, path := 0, pane := o
              result := none }] } 4 rd.toNat 0)
        ∧ (d.pane o).queue.length = (s.dev.pane o).queue.length + 1
        ∧ ((d.pane o).queue.getLast?.map (·.x)) = some (raw.map (stagedLane (s.dev.bitAt (aPane o 0) 4)))
        ∧ (∀ q, q ≠ o → d.pane q = s.dev.pane q)
        ∧ (d.ticket key).fired = (if tk.live then tk.fired ++ [o] else tk.fired)) ∧
    (operandIn a 1024 = false → ∃ d, exec (.pnFire c rd rs1 rs2) s = .next (s.withDev d) ∧ d = { s.dev with csm := d.csm }
      ∧ s.dev.onlyCas d c (k.done 4 rd.toNat (BitVec.ofNat 32 stBadParam.toNat))) ∧
    (operandIn a 1024 = true → (k.fires.filter (fun f => f.slot == slot)).length ≥ 2 →
      ∃ d, exec (.pnFire c rd rs1 rs2) s = .next (s.withDev d) ∧ d = { s.dev with csm := d.csm }
        ∧ s.dev.onlyCas d c (k.done 4 rd.toNat (BitVec.ofNat 32 stQueueFull.toNat))) ∧
    (∀ f r, operandOut a 1056 = true → k.oldestFire slot = some f → f.result = some r → (s.dev.ticket f.ticket).live = false →
      ∃ d, exec (.pnCollect c rd rs1 rs2) s = .next (s.withDev d) ∧ d = { s.dev with csm := d.csm }
        ∧ s.dev.onlyCas d c ({ k with
            fires := k.fires.filter (fun g => g.id != f.id)
            sram := Tab.setList (fun _ => 0) k.sram (a - 0x80000000) r.bytes }.done 4 rd.toNat (BitVec.ofNat 32 (productWord f r)))) ∧
    (operandOut a 1056 = true → k.oldestFire slot = none →
      ∃ d, exec (.pnCollect c rd rs1 rs2) s = .next (s.withDev d) ∧ d = { s.dev with csm := d.csm }
        ∧ s.dev.onlyCas d c { k with wait := .custom }) ∧
    (∀ f, k.oldestFire slot = some f → f.result = none → (s.dev.ticket f.ticket).live = false →
      ∃ d, exec (.pnCollectTimeout c rd rs1 rs2) s = .next (s.withDev d) ∧ d = { s.dev with csm := d.csm }
        ∧ s.dev.onlyCas d c ({ k with fires := k.fires.filter (fun g => g.id != f.id) }.done 4 rd.toNat
            (BitVec.ofNat 32 (productWord f (refusedResult stTimeout)))))

/-- On a core that executes plainly, with no tensor dump armed: MQ.SEND of DATA to a casement whose
credit it holds spends one credit, sends the bytes at rs1 and ends OK; without a credit it waits, and when that wait times
out it ends TIMEOUT and sends nothing. MQ.RECV answers the header of the ring's oldest message, 0 for an empty ring, or waits
where it may block. MQ.WAIT answers status and length of the reply to its tag, TIMEOUT for a tag that has moved on. MQ.REPLY
sends the answer of a REQ_USER and frees its slot with a credit; MQ.FREE of an RSP slot frees it.
Where the spec leaves it to a reading, this is the model's own, in log entry 49. -/
def Obligations.MessageInstructions : Prop :=
  ∀ (s : State) (c : Nat) (rd rs1 rs2 : BitVec 5), s.dev.corePlain c = true → s.dev.dbg.dumps = [] → s.dev.fenced c = false →
    let k := s.dev.cas c
    let a := (k.xr rs1.toNat).toNat
    let w := k.xr rs2.toNat
    let dst := wfld w 0 6
    let len := wfld w 6 4
    let tag := wfld (k.xr rs1.toNat) 0 8
    (wfld w 10 4 = 0 → dst < 32 → operandIn a (32 * (len + 1)) = true → s.dev.credit c dst ≠ 0 →
      ∃ d, exec (.mqSend c rd rs1 rs2) s = .next (s.withDev d) ∧ d = { s.dev with csm := d.csm, mul := d.mul }
        ∧ s.dev.onlyCas d c (k.done 4 rd.toNat 0) ∧ d.credit c dst = s.dev.credit c dst - 1
        ∧ (∀ r t, (r, t) ≠ (c, dst) → r < 64 → t < 64 → d.credit r t = s.dev.credit r t)
        ∧ d.mul.net = s.dev.mul.net ++ [
            { src := c, dst := dst, typ := tyData, len := len, tag := 0, ticket := wfld w 14 7, status := 0
              notify := wbit w 21, payload := s.dev.sramBytes c (a - 0x80000000) (32 * (len + 1)) }]) ∧
    (wfld w 10 4 = 0 → dst < 32 → operandIn a (32 * (len + 1)) = true → s.dev.credit c dst = 0 →
      (∃ d, exec (.mqSend c rd rs1 rs2) s = .next (s.withDev d) ∧ d = { s.dev with csm := d.csm }
        ∧ s.dev.onlyCas d c { k with wait := .custom }) ∧
      (∃ d, exec (.mqSendTimeout c rd rs1 rs2) s = .next (s.withDev d) ∧ d = { s.dev with csm := d.csm }
        ∧ s.dev.onlyCas d c (k.done 4 rd.toNat (BitVec.ofNat 32 stTimeout.toNat)))) ∧
    (∀ m l, wfld (k.xr rs1.toNat) 0 2 = 0 → k.req = m :: l →
      ∃ d, exec (.mqRecv c rd rs1) s = .next (s.withDev d) ∧ d = { s.dev with csm := d.csm }
        ∧ s.dev.onlyCas d c (k.done 4 rd.toNat (BitVec.ofNat 32 (recvHeader m)))) ∧
    (wfld (k.xr rs1.toNat) 0 2 = 0 → k.req = [] →
      ∃ d, exec (.mqRecv c rd rs1) s = .next (s.withDev d) ∧ d = { s.dev with csm := d.csm }
        ∧ s.dev.onlyCas d c (if wbit (k.xr rs1.toNat) 2 then { k with wait := .recv } else k.done 4 rd.toNat 0)) ∧
    (∀ st n, (k.rspAt (tag % 16)).busy = true → (k.rspAt (tag % 16)).gen = tag / 16 → (k.rspAt (tag % 16)).reply = some (st, n) →
      ∃ d, exec (.mqWait c rd rs1) s = .next (s.withDev d) ∧ d = { s.dev with csm := d.csm }
        ∧ s.dev.onlyCas d c (k.done 4 rd.toNat (BitVec.ofNat 32 (st.toNat + n * 256)))) ∧
    ((k.rspAt (tag % 16)).gen ≠ tag / 16 →
      ∃ d, exec (.mqWait c rd rs1) s = .next (s.withDev d) ∧ d = { s.dev with csm := d.csm }
        ∧ s.dev.onlyCas d c (k.done 4 rd.toNat (BitVec.ofNat 32 stTimeout.toNat))) ∧
    (∀ m, k.req.find? (fun m => m.slot == wfld w 0 5 && m.typ == tyReqUser) = some m → a = 0 →
      s.dev.granted c m.src ≤ s.dev.quota c m.src →
      ∃ d, exec (.mqReply c rd rs1 rs2) s = .next (s.withDev d) ∧ d = { s.dev with csm := d.csm, mul := d.mul }
        ∧ s.dev.onlyCas d c ({ k with req := k.req.erase m }.done 4 rd.toNat 0)
        ∧ d.mul = { s.dev.mul with net := s.dev.mul.net ++ [
            { src := c, dst := m.src, typ := tyRsp, len := 0, tag := m.tag
              ticket := m.ticket, status := BitVec.ofNat 8 (wfld w 9 8), notify := false, payload := zeros 32 },
            creditMsg c m.src 1] }) ∧
    (∀ i, i < 16 → a = 0x80038F00 + 512 * i →
      ∃ d, exec (.mqFree c rd rs1) s = .next (s.withDev d) ∧ d = { s.dev with csm := d.csm }
        ∧ s.dev.onlyCas d c ((k.freeRsp i).done 4 rd.toNat 0))

/-- On a core that executes plainly, SL.LOOKUP with a good operand of 1 to 8 rows of a defined table, and SL.LEASE, taking and
releasing, of a defined table take the lowest free RSP slot with its next generation, send the request to the edge router of
the table's half, and end with OK and the tag; with all 16 slots busy they wait; an undefined table ends BAD_PARAM.
Where the spec leaves it to a reading, this is the model's own, in log entries 31 and 57. -/
def Obligations.TableInstructions : Prop :=
  ∀ (s : State) (c t : Nat) (rd rs1 rs2 : BitVec 5), s.dev.corePlain c = true → s.dev.fenced c = false →
    let k := s.dev.cas c
    let a := (k.xr rs1.toNat).toNat
    let b := s.dev.sramBytes c (a - 0x80000000) 32
    let asks := fun (i : Instr) (typ dst : Nat) (payload : List Byte) =>
      (∀ n, n < 16 → (k.rspAt n).busy = false → (∀ m, m < n → (k.rspAt m).busy = true) →
        ∃ d tag, exec i s = .next (s.withDev d) ∧ d = { s.dev with csm := d.csm, mul := d.mul }
          ∧ tag = n + 16 * (((k.rspAt n).gen + 1) % 16)
          ∧ s.dev.onlyCas d c ((k.setRsp n { gen := ((k.rspAt n).gen + 1) % 16, busy := true, reply := none }).done 4 rd.toNat
              (BitVec.ofNat 32 (tag * 256)))
          ∧ d.mul = { s.dev.mul with net := s.dev.mul.net ++ [
              { src := c, dst := dst, typ := typ
                len := (payload.length + 31) / 32 - 1, tag := tag, ticket := 0, status := 0, notify := false, payload := payload }] })
      ∧ ((∀ m, m < 16 → (k.rspAt m).busy = true) → ∃ d, exec i s = .next (s.withDev d) ∧ d = { s.dev with csm := d.csm }
          ∧ s.dev.onlyCas d c { k with wait := .custom })
    let refuses := fun (i : Instr) => ∃ d, exec i s = .next (s.withDev d) ∧ d = { s.dev with csm := d.csm }
      ∧ s.dev.onlyCas d c (k.done 4 rd.toNat (BitVec.ofNat 32 stBadParam.toNat))
    (∀ e, s.dev.desc (wfld (k.xr rs2.toNat) 0 6) = some e → operandIn a 32 = true → 1 ≤ uAt b 0 1 → uAt b 0 1 ≤ 8 →
      asks (.slLookup c rd rs1 rs2) tySillLookup (sillEdge e.base) (b ++ [BitVec.ofNat 8 (wfld (k.xr rs2.toNat) 0 6)])) ∧
    (∀ e, t < 64 → s.dev.desc t = some e →
      asks (.slLease c rd t) tySillLease (sillEdge e.base) [BitVec.ofNat 8 t, 0] ∧
      asks (.slLeaseRelease c rd t) tySillLease (sillEdge e.base) [BitVec.ofNat 8 t, 1]) ∧
    (t < 64 → s.dev.desc t = none → refuses (.slLease c rd t) ∧ refuses (.slLeaseRelease c rd t)) ∧
    (s.dev.desc (wfld (k.xr rs2.toNat) 0 6) = none → operandIn a 32 = true → refuses (.slLookup c rd rs1 rs2))

/-- On a core that executes plainly and whose pc lies in its local SRAM: LUI, ADDI and ADD write their result; JAL and BEQ move the
pc; an all-zero word is an illegal instruction and traps with cause 2 to mtvec, mepc holding its pc. A read of the frame-time
CSR gives the low word and latches the upper one. The machine external interrupt, enabled and pending, traps with cause 11.
Where the spec leaves it to a reading, this is the model's own, in log entries 150 and 153. -/
def Obligations.CoreExecutesRiscV : Prop :=
  ∀ (s : State) (c : Nat), s.dev.corePlain c = true →
    let k := s.dev.cas c
    let w := leNat (s.dev.sramBytes c (k.pc.toNat - 0x80000000) 4)
    let a := k.xr (fld w 15 5)
    let b := k.xr (fld w 20 5)
    let ends := fun (i : Instr) (k' : Casement) => ∃ d, exec i s = .next (s.withDev d) ∧ d = { s.dev with csm := d.csm } ∧ s.dev.onlyCas d c k'
    (0x80000000 ≤ k.pc.toNat → k.pc.toNat + 4 ≤ 0x80040000 →
      (fld w 0 7 = 0x37 → ends (.coreInstruction c) (k.done 4 (fld w 7 5) (BitVec.ofNat 32 (w / 4096 * 4096)))) ∧
      (fld w 0 7 = 0x13 → fld w 12 3 = 0 →
        ends (.coreInstruction c) (k.done 4 (fld w 7 5) (a + BitVec.ofInt 32 (sxt 12 (fld w 20 12))))) ∧
      (fld w 0 7 = 0x33 → fld w 12 3 = 0 → fld w 25 7 = 0 → ends (.coreInstruction c) (k.done 4 (fld w 7 5) (a + b))) ∧
      (fld w 0 7 = 0x6F → ends (.coreInstruction c) (k.jump (fld w 7 5) (k.pc + 4) (k.pc + immJ w))) ∧
      (fld w 0 7 = 0x63 → fld w 12 3 = 0 →
        ends (.coreInstruction c) (k.jump 0 0 (if a = b then k.pc + immB w else k.pc + 4))) ∧
      (w = 0 → k.inTrap = false → ∃ k', ends (.coreInstruction c) k' ∧ k'.pc = k.csrAt 0x305 &&& 0xFFFFFFFC ∧ k'.inTrap = true
        ∧ k'.csrAt 0x341 = k.pc ∧ k'.csrAt 0x342 = 2)) ∧
    (∀ rd : BitVec 5, ends (.frameTimeCsrRead c rd)
      ({ k with ftLatch := BitVec.ofNat 32 (s.dev.now / 2 ^ 32) }.done 4 rd.toNat (BitVec.ofNat 32 s.dev.now))) ∧
    (k.req ≠ [] → wbit (k.csrAt 0x7C3) 0 = true → wbit (k.csrAt 0x300) 3 = true → wbit (k.csrAt 0x304) 11 = true →
      ∃ k', ends (.machineExternalInterrupt c) k' ∧ k'.csrAt 0x341 = k.pc ∧ k'.csrAt 0x342 = 0x8000000B
        ∧ wbit (k'.csrAt 0x300) 3 = false ∧ wbit (k'.csrAt 0x300) 7 = true
        ∧ k'.pc = (k.csrAt 0x305 &&& 0xFFFFFFFC) + (if wbit (k.csrAt 0x305) 0 then 44 else 0))

/-! ### Panes: products, ledger, programs, audits (R31 to R121, R558 to R561) -/

/-- On a clocked device that is not BOLTED: the oldest queued product of a TRUSTED pane that needs no calibration first starts with the
pane's configuration and ledger entries of that moment; on a SUSPECT or RETIRED pane it is delivered as refused, and the
discard is noted. The oldest running product completes into the result buffer that awaits it, with 520 corrected codes, and
counts in PANE_COUNT. No other pane changes.
Where the spec leaves it to a reading, this is the model's own, in log entry 21. -/
def Obligations.ProductsRunOnTheirPane : Prop :=
  ∀ (s : State) (p : Nat) (x : Product) (rest : List Product), p < 128 → s.dev.clocked = true → s.dev.dbg.bolted = false →
    ((s.dev.pane p).queue = x :: rest → (s.dev.pane p).st = .trusted → (s.dev.pane p).calFirst = false →
      exec (.productStart p) s = .next (s.withDev (s.dev.setPane p { s.dev.pane p with
        queue := rest
        drivers := x.x
        running := (s.dev.pane p).running ++ [{ x with
          cfg := some (s.dev.reg (aPane p 0)), corr := (s.dev.pane p).corr, bypass := s.dev.bitAt (aPane p 0x3C) 14 }] }))) ∧
    ((s.dev.pane p).queue = x :: rest → (s.dev.pane p).st = .suspect ∨ (s.dev.pane p).st = .retired → x.dest.remote = false →
      ∃ d, exec (.productStart p) s = .next (s.withDev d) ∧ d = { s.dev with regs := d.regs, panes := d.panes, csm := d.csm }
        ∧ d.pane p = { s.dev.pane p with queue := rest, drivers := x.x } ∧ (∀ q, q ≠ p → d.pane q = s.dev.pane q)
        ∧ d.bitAt (aPane p 0x18) 3 = true ∧ (∀ a, a ≠ aPane p 0x18 → d.reg a = s.dev.reg a)
        ∧ s.dev.onlyCas d x.dest.casement { s.dev.cas x.dest.casement with
            fires := (s.dev.cas x.dest.casement).fires.map (fun f =>
              if f.id = x.dest.id then { f with result := some (refusedResult stPaneSuspect) } else f) }) ∧
    ((s.dev.pane p).running = x :: rest → x.dest.remote = false → (s.dev.cas (p / 4)).flips = [] →
      ∃ d r, exec (.productComplete p) s = .next (s.withDev d)
        ∧ d = { s.dev with regs := d.regs, panes := d.panes, csm := d.csm, free := s.dev.free + 1 }
        ∧ (d.pane p).running = rest ∧ (d.pane p).queue = (s.dev.pane p).queue ∧ (∀ q, q ≠ p → d.pane q = s.dev.pane q)
        ∧ d.reg (aPane p 0x20) = s.dev.reg (aPane p 0x20) + 1
        ∧ r.status = stOk ∧ r.codes.length = 520
        ∧ s.dev.onlyCas d x.dest.casement { s.dev.cas x.dest.casement with
            fires := (s.dev.cas x.dest.casement).fires.map (fun f => if f.id = x.dest.id then { f with result := some r } else f) })

/-- On a clocked device that is not BOLTED: a calibration pair of a TRUSTED pane with a pair due runs when the pane is idle, or when it
is inserted; it clears the due mark, takes two free draws and leaves inactive columns as they were. The end of the calibration
period makes a pair due on a pane with entries. An array update after 1,024 contributions moves h an eighth of the way to the
measured ratio, counts and starts anew; with fewer than 64 it does nothing, and with a pair on its tick it is then that pair. A
pane in SELFTEST makes no update. A stale entry is marked and a pair becomes due. An
inactive column (code -512) corrects to no-data. A code without an entry, or with the bypass set, becomes four times itself.
With an entry of inverse gain g and offset o it is (16 y - o) g / 65,536, halves rounded away from zero, saturated to ±32,767;
so no active column ever reads as no-data.
Where the spec leaves it to a reading, this is the model's own, in log entries 18, 21 and 24. -/
def Obligations.LedgerEventsAndCorrection : Prop :=
  (∀ (s : State) (p : Nat) (l : Ledger), p < 128 → s.dev.clocked = true → s.dev.dbg.bolted = false → (s.dev.pane p).ledger = some l →
     let pairs := fun (i : Instr) => ∃ d l', exec i s = .next (s.withDev d) ∧ (d.pane p).calDue = false
       ∧ (d.pane p).calFirst = false ∧ (d.pane p).ledger = some l' ∧ l'.cols.length = l.cols.length ∧ d.free = s.dev.free + 2
       ∧ (d.pane p).cells = (s.dev.pane p).cells
       ∧ (∀ j, colActive (s.dev.reg (aPane p 0)) j = false → l'.cols[j]? = l.cols[j]?)
       ∧ d.lin = s.dev.lin ∧ d.rst = s.dev.rst
     ((s.dev.pane p).st = .trusted → (s.dev.pane p).calDue = true →
       ((s.dev.pane p).idle = true → pairs (.calibrationPair p)) ∧ pairs (.calInsert p)) ∧
     ((s.dev.pane p).calDue = false → exec (.calibrationPair p) s = .next s ∧ exec (.calInsert p) s = .next s) ∧
     exec (.calPeriodExpiry p) s = .next (s.withDev (s.dev.setPane p { s.dev.pane p with calDue := true })) ∧
     (∀ b, l.n ≥ 1024 → l.a0 ≠ 0 → (s.dev.pane p).st ≠ .selftest → ∃ d l',
       exec (.arrayUpdate p ⟨b, false⟩) s = .next (s.withDev d) ∧ (d.pane p).ledger = some l'
       ∧ l'.h = l.h + (meanR (l.arrayAs l.acc) / l.a0 - l.h) / 8 ∧ l'.updates = l.updates + 1 ∧ l'.n = 0 ∧ l'.cols = l.cols
       ∧ d.free = s.dev.free) ∧
     (∀ b, l.n < 64 ∨ (s.dev.pane p).st = .selftest → exec (.arrayUpdate p ⟨b, false⟩) s = .next s) ∧
     (∀ b, l.n < 64 → (s.dev.pane p).idle = true → exec (.arrayUpdate p ⟨b, true⟩) s = exec (.calibrationPair p) s) ∧
     (∀ col e, l.cols[col]? = some e →
       (s.dev.entryStale p e = true → ∃ d l', exec (.ledgerEntryStale p col) s = .next (s.withDev d)
         ∧ d = { s.dev with panes := d.panes, svy := d.svy, regs := d.regs }
         ∧ d.pane p = { s.dev.pane p with ledger := some l', calDue := true }
         ∧ l'.cols = l.cols.set col { e with stale := true } ∧ (∀ q, q ≠ p → d.pane q = s.dev.pane q)) ∧
       (s.dev.entryStale p e = false → exec (.ledgerEntryStale p col) s = .next s))) ∧
  (∀ (bypass : Bool) (e : Option (Nat × Int)) (y : Int),
     correct bypass e (-512) = -32768 ∧
     (y ≠ -512 → (e = none ∨ bypass = true) → correct bypass e y = 4 * y) ∧
     (∀ g o, y ≠ -512 → e = some (g, o) → bypass = false →
       -32767 ≤ correct bypass e y ∧ correct bypass e y ≤ 32767 ∧
       (-32767 * 65536 ≤ (16 * y - o) * g → (16 * y - o) * g ≤ 32767 * 65536 →
         2 * ((16 * y - o) * g - 65536 * correct bypass e y) ≤ 65536 ∧
         -65536 ≤ 2 * ((16 * y - o) * g - 65536 * correct bypass e y))))

/-- PANE_STATUS of panes within 0 to 127 answers 16 bytes a pane, beginning with its number and state; LEDGER_READ of an open
pane with entries answers 16 bytes and 8 a column; both refuse a range outside the panes or columns with BAD_PARAM, and
LEDGER_READ a pane without entries with PANE_UNVERIFIED and a shuttered one with PARTNER_GONE. Nothing changes. Clearing counts
zeroes the two counters of the pane; GRAFT_RELEASE clears PENDING once no ticket is bound to the pane, and not before.
PANE_GRAFT of a pane that serves a running model's original pane, with an eligible other spare, answers OK: the original's
graft register names the spare as serving, and the spare takes the target's configuration. A target that serves nothing, or a
spare that is not eligible, is BAD_PARAM; a target in an unpowered quadrant is PARTNER_GONE; neither changes anything.
Where the spec leaves it to a reading, this is the model's own, in log entry 19. -/
def Obligations.PaneReportsAndGrafts : Prop :=
  (∀ (s : State) (h : CmdHdr) (p n : Byte) (f k : Half),
     (s.dev.serves 0x25 = true → 1 ≤ n.toNat → p.toNat + n.toNat ≤ 128 →
       ∃ data : List Byte, exec (.paneStatus h p n) s = .next (s.withDev (s.dev.answered 0x25 h stOk data)) ∧ data.length = 16 * n.toNat
         ∧ ∀ i, i < n.toNat → uAt data (16 * i) 1 = p.toNat + i ∧ uAt data (16 * i + 1) 1 = (s.dev.pane (p.toNat + i)).st.code) ∧
     (s.dev.serves 0x25 = true → (n = 0 ∨ p.toNat + n.toNat > 128) →
       exec (.paneStatus h p n) s = .next (s.withDev (s.dev.answered 0x25 h stBadParam []))) ∧
     (s.dev.serves 0x26 = true → p.toNat ≤ 127 → 1 ≤ k.toNat → k.toNat ≤ 256 → f.toNat + k.toNat ≤ 520 →
       (∀ l, (s.dev.pane p.toNat).st ≠ .shuttered → (s.dev.pane p.toNat).ledger = some l →
         ∃ data : List Byte, exec (.ledgerRead h p f k) s = .next (s.withDev (s.dev.answered 0x26 h stOk data))
           ∧ data.length = 16 + 8 * k.toNat ∧ uAt data 0 1 = p.toNat ∧ uAt data 2 2 = f.toNat ∧ uAt data 4 2 = k.toNat) ∧
       ((s.dev.pane p.toNat).st ≠ .shuttered → (s.dev.pane p.toNat).ledger = none →
         exec (.ledgerRead h p f k) s = .next (s.withDev (s.dev.answered 0x26 h stPaneUnverified []))) ∧
       ((s.dev.pane p.toNat).st = .shuttered →
         exec (.ledgerRead h p f k) s = .next (s.withDev (s.dev.answered 0x26 h stPartnerGone [])))) ∧
     (s.dev.serves 0x26 = true → (p.toNat > 127 ∨ k = 0 ∨ k.toNat > 256 ∨ f.toNat + k.toNat > 520) →
       exec (.ledgerRead h p f k) s = .next (s.withDev (s.dev.answered 0x26 h stBadParam []))) ∧
     (∀ q, q < 128 → s.dev.clocked = true → s.dev.isPowered (quadOfPane q) = true →
       exec (.paneClrCounts q) s = .next (s.withDev ((s.dev.setReg (aPane q 0x1C) 0).setReg (aPane q 0x20) 0))) ∧
     (∀ q, s.dev.clocked = true → s.dev.ticketsOn q = false →
       exec (.graftRelease q) s = .next (s.withDev (s.dev.setFld (aPane q 0x30) 8 1 0))) ∧
     (∀ q, s.dev.ticketsOn q = true → exec (.graftRelease q) s = .next s)) ∧
  (∀ (s : State) (h : CmdHdr) (t x : Byte), s.dev.serves 0x24 = true → t.toNat ≤ 127 → x.toNat ≤ 127 →
     (∀ i o, s.dev.isPowered (quadOfPane t.toNat) = true → s.dev.originOf t.toNat = some (i, o) →
       s.dev.eligible t.toNat x.toNat = true → x.toNat ≠ o → ∃ d : Dev, exec (.paneGraft h t x) s = .next (s.withDev (d.answered 0x24 h stOk []))
         ∧ d.bitAt (aPane o 0x30) 7 = true ∧ d.fldAt (aPane o 0x30) 0 7 = x.toNat ∧ d.servingIn i o = x.toNat
         ∧ d.reg (aPane x.toNat 0) = s.dev.reg (aPane t.toNat 0) ∧ d.panes = s.dev.panes ∧ d.mdl = s.dev.mdl) ∧
     (s.dev.isPowered (quadOfPane t.toNat) = true → (s.dev.originOf t.toNat = none ∨ s.dev.eligible t.toNat x.toNat = false) →
       exec (.paneGraft h t x) s = .next (s.withDev (s.dev.answered 0x24 h stBadParam []))) ∧
     (s.dev.isPowered (quadOfPane t.toNat) = false →
       exec (.paneGraft h t x) s = .next (s.withDev (s.dev.answered 0x24 h stPartnerGone []))))

/-- PANE_PROGRAM that no condition refuses waits if its image, read without an error, is valid, and is BAD_IMAGE if not; a row of it
that was never written sets UNWR_READ; a refused one changes nothing. On a clocked device that is not BOLTED: PROGRAM_START queues the commit of the program
count. With the supply good a row whose cells are all within target is done; otherwise an iteration before the 320th pulses and
counts. The end of the rows is OK, with the commit of the image tag, or CELLS_FAILED, which makes the pane SUSPECT; a supply
that stays bad ends in SUPPLY_FAIL. VDD_PGM good or lost marks the quadrant and its programs.
Where the spec leaves it to a reading, this is the model's own, in log entries 15 and 21. -/
def Obligations.ProgramsFollowTheirStages : Prop :=
  ∀ (s : State) (h : CmdHdr) (pane flags : Byte) (addr : Word) (p : Nat) (g : Program), p < 128 → s.dev.clocked = true →
    s.dev.dbg.bolted = false →
    let unwr := fun (a n : Nat) => if anyRow s.dev.sill.rowUnwritten a n then s.dev.setFld 0x90000 1 1 1 else s.dev
    let vddPgm := fun (i : Instr) (q : Nat) (b : Bool) => ∃ d, exec i s = .next (s.withDev d)
      ∧ d = { s.dev with pwr := d.pwr, panes := d.panes } ∧ bitOf d.pwr.pgmGood (q - 6) = b ∧ d.pwr.dom = s.dev.pwr.dom
      ∧ (∀ i, i < 128 → (d.pane i).program = if quadOfPane i = q then (s.dev.pane i).program.map (fun x => { x with good := b })
          else (s.dev.pane i).program)
    (s.dev.serves 0x20 = true → pane.toNat ≤ 127 → flags.toNat ≤ 1 → addr.toNat % 128 = 0 → inWindow addr.toNat 540832 = true →
      (∀ st, s.dev.progRefusal pane.toNat (flags = 1) = some st →
        exec (.paneProgram h pane flags addr) s = .next (s.withDev (s.dev.answered 0x20 h st []))) ∧
      (s.dev.progRefusal pane.toNat (flags = 1) = none → s.dev.isOpen 4 = true → s.dev.sill.clearing = false →
        s.dev.sill.flips = [] →
        let w := unwr addr.toNat 540832
        exec (.paneProgram h pane flags addr) s = .next (s.withDev (
          if imageValid (s.dev.sillBytes addr.toNat 540832) then Dev.taken { w with pctl := { s.dev.pctl with
            progQueue := s.dev.pctl.progQueue ++ [{ cmd := hostCmdOf 0x20 h, pane := pane.toNat, addr := addr.toNat }] } }
              0x20 ([pane, flags, 0, 0] ++ wordBytes addr) h
          else w.answered 0x20 h stBadImage [])))) ∧
    (∀ r, s.dev.progReady = some r → r.pane = p → s.dev.programming < 4 → s.dev.restartRefusal p = none →
      exec (.programStart p) s = .next (s.withDev { s.dev with
        pctl := { s.dev.pctl with progQueue := s.dev.pctl.progQueue.erase r, committing := s.dev.pctl.committing ++ [r] }
        jamb := { s.dev.jamb with devQueue := s.dev.jamb.devQueue ++ [.progCount p] } })) ∧
    ((s.dev.pane p).program = some g → g.good = true → g.row < 520 → (s.dev.pane p).st = .programming → g.iter ≠ 0 →
      s.dev.sill.flips = [] →
      let tg := rowTargets (s.dev.sillBytes (g.addr + 0x20 + g.row * 1040) 1040)
      let cur := Tab.getList (fun _ => ((0, 0) : Nat × Nat)) (s.dev.pane p).cells (520 * g.row) 520
      let ok := (List.zip cur tg).all (fun e => within e.1.1 e.2.1 && within e.1.2 e.2.2)
      let w := if s.dev.isOpen 4 then unwr (g.addr + 0x20 + g.row * 1040) 1040 else s.dev
      (ok = true → exec (.programIteration p) s = .next (s.withDev ((w.setPane p { s.dev.pane p with
          program := some { g with row := g.row + 1, iter := 0 } }).setFld (aPane p 0x2C) 10 10 (g.row + 1)))) ∧
      (ok = false → g.iter + 1 < 320 → ∃ d cells, exec (.programIteration p) s = .next (s.withDev d)
        ∧ d = { w with panes := d.panes, free := s.dev.free + 1 }
        ∧ d.pane p = { s.dev.pane p with cells := cells, program := some { g with iter := g.iter + 1 } }
        ∧ (∀ k, k < 520 * g.row ∨ 520 * g.row + 520 ≤ k →
            Tab.get (fun _ => ((0, 0) : Nat × Nat)) cells k = Tab.get (fun _ => (0, 0)) (s.dev.pane p).cells k))) ∧
    ((s.dev.pane p).program = some g → 520 ≤ g.row → g.failed ≤ 16 → g.failedCk = false →
      ∃ d, exec (.programEnd p) s = .next (s.withDev d) ∧ (d.pane p).st = .unverified ∧ (d.pane p).program = none
        ∧ d.fldAt (aPane p 0x2C) 20 3 = 1 ∧ d.jamb = { s.dev.jamb with devQueue := s.dev.jamb.devQueue ++ [.progTag p g.tag] }) ∧
    ((s.dev.pane p).program = some g → 520 ≤ g.row → g.failed > 16 ∨ g.failedCk = true →
      ∃ d, exec (.programEnd p) s = .next (s.withDev d) ∧ (d.pane p).st = .suspect ∧ (d.pane p).program = none
        ∧ d.fldAt (aPane p 0x2C) 20 3 = 2) ∧
    ((s.dev.pane p).program = some g → g.good = false →
      ∃ d, exec (.programSupplyTimeout p) s = .next (s.withDev d) ∧ (d.pane p).st = .unverified ∧ (d.pane p).program = none
        ∧ d.fldAt (aPane p 0x2C) 20 3 = 3 ∧ d.jamb = s.dev.jamb) ∧
    (∀ q, 6 ≤ q → q ≤ 9 → vddPgm (.vddPgmGood q) q true ∧ vddPgm (.vddPgmLost q) q false)

/-- When the commit in progress is that of a pane's program count, its page reads back right, nothing refuses the program any
more and no pane of its casement is AUDITING or in SELFTEST, the pane becomes PROGRAMMING with no record and no entries, its image id is cleared, PGM_EN rises, page and journal
hold the committed bytes, and the controller is idle. While a pane of its casement is under test, the program waits for it.
Where the spec leaves it to a reading, this is the model's own, in log entries 15 and 126. -/
def Obligations.ProgramBeginsAfterItsCount : Prop :=
  ∀ (s : State) (p : Nat) (r : ProgReq) (c : JCommit), p < 128 → s.dev.clocked = true → s.dev.pctl.counted = [] →
    s.dev.jamb.commit = some c → c.owner = .dev (.progCount p) → c.saved = none → c.savedLost = false → s.dev.jamb.flips = [] →
    s.dev.pctl.committing = [r] → r.pane = p → s.dev.restartRefusal p = none →
    ∃ d, exec (.jambCommitComplete true) s = .next (s.withDev d)
      ∧ (s.dev.casTesting (p / 4) = false → (d.pane p).st = .programming ∧ (d.pane p).record = none
        ∧ (d.pane p).ledger = none ∧ (d.pane p).program.isSome = true ∧ d.reg (aPane p 0x28) = 0 ∧ d.pctl.pgmEn = true
        ∧ d.pctl.counted = [])
      ∧ (s.dev.casTesting (p / 4) = true → d.panes = s.dev.panes ∧ d.pctl.counted = [r])
      ∧ d.pctl.committing = [] ∧ d.jamb.commit = none ∧ d.jamb.marker = .clear ∧ d.jamb.last = 1
      ∧ d.jamb.mem = ((s.dev.jamb.setPage 0 c.data).setPage c.page c.data).mem

/-- PANE_AUDIT with one valid record of a pane that may be audited requests the audit, and ends the life of the record retained
before (the new one is retained when the audit passes); a wrong record is BAD_IMAGE. PANE_AUDIT of a pane with a retained record requests the audit against it; without one the pane's status is
BAD_PARAM. AUDIT_START takes the casement's next request: the pane is AUDITING without entries. AUDIT_COMPLETE of an automatic
audit writes the outcome word: a failure leaves UNVERIFIED without record, a pass TRUSTED (or SUSPECT at a limit) with it.
PANE_SELFTEST of a TRUSTED pane enters SELFTEST and ends a graft that it serves; each of the first 63 sub-steps counts; the last ends TRUSTED or SUSPECT.
PANE_RETIRE of an UNVERIFIED pane makes it RETIRED.
Where the spec leaves it to a reading, this is the model's own, in log entries 16, 20 and 24. -/
def Obligations.AuditsAndSelfTests : Prop :=
  ∀ (s : State) (h : CmdHdr) (pane : Byte) (rec : List Byte) (p : Nat), p < 128 → s.dev.clocked = true → s.dev.dbg.bolted = false →
    s.dev.pctl.counted = [] →
    (s.dev.serves 0x21 = true → rec.length = 256 →
      (recordValid rec = true → recPane rec < 128 → s.dev.auditRefusal (recPane rec) = none →
        exec (.paneAudit h rec) s = .next (s.withDev (Dev.taken { (s.dev.setPane (recPane rec) { s.dev.pane (recPane rec) with
            record := none }) with pctl := { s.dev.pctl with
              nextNo := s.dev.pctl.nextNo + 1
              audits := s.dev.pctl.audits ++ [{ pane := recPane rec, record := rec, cmdNo := some s.dev.pctl.nextNo }]
              cmds := s.dev.pctl.cmds ++ [{ no := s.dev.pctl.nextNo, cmd := hostCmdOf 0x21 h, panes := [(recPane rec, none)] }] } }
            0x21 rec h))) ∧
      (recordValid rec = false → exec (.paneAudit h rec) s = .next (s.withDev (s.dev.answered 0x21 h stBadImage [])))) ∧
    (s.dev.serves 0x21 = true → pane.toNat ≤ 127 → s.dev.auditRefusal pane.toNat = none →
      (∀ r, (s.dev.pane pane.toNat).record = some r → ∃ d : Dev,
        exec (.paneAuditRetained h [pane]) s = .next (s.withDev (d.taken 0x21 [pane] h))
          ∧ d = { s.dev with pctl := d.pctl, panes := d.panes } ∧ (∀ q, d.pane q = s.dev.pane q)
          ∧ d.pctl.audits = s.dev.pctl.audits ++ [{ pane := pane.toNat, record := r, cmdNo := some s.dev.pctl.nextNo }]) ∧
      ((s.dev.pane pane.toNat).record = none → ∃ d : Dev,
        exec (.paneAuditRetained h [pane]) s = .next (s.withDev (d.answered 0x21 h stOk
          ([pane, stBadParam, 0, 0] ++ wordBytes (s.dev.reg (aPane pane.toNat 0x24))))) ∧ d = { s.dev with pctl := d.pctl }
          ∧ d.pctl.audits = s.dev.pctl.audits)) ∧
    (∀ c r, c < 32 → s.dev.pctl.auditing.any (fun r => r.pane / 4 == c) = false → s.dev.isOpen (quadOf c) = true →
      (∀ k, k < 4 → (s.dev.pane (4 * c + k)).st ≠ .programming) → s.dev.pctl.audits.find? (fun r => r.pane / 4 == c) = some r →
      s.dev.auditRefusalFor r.pane (s.dev.named r.pane) = none → ∃ d, exec (.auditStart c) s = .next (s.withDev d) ∧ (d.pane r.pane).st = .auditing
        ∧ (d.pane r.pane).ledger = none ∧ d.pctl.audits = s.dev.pctl.audits.erase r ∧ d.pctl.auditing = s.dev.pctl.auditing ++ [r]
        ∧ (∀ q, q ≠ r.pane → d.pane q = s.dev.pane q)) ∧
    (∀ c r, s.dev.pctl.auditing = [r] → r.pane / 4 = c → r.pane < 128 → r.cmdNo = none →
      let out := auditOutcome ((s.dev.progEntry r.pane).map (fun e => e.2)) r.record
        (capture s.dev.free r.pane (s.dev.pane r.pane).cells r.record)
      ∃ d, exec (.auditComplete c) s = .next (s.withDev d) ∧ d.pctl.auditing = []
        ∧ d.reg (aPane r.pane 0x24) = BitVec.ofNat 32 out.word
        ∧ (out = .pass ∨ out = .corrected → (d.pane r.pane).record = some r.record ∧ (d.pane r.pane).ledger.isSome = true
            ∧ ((d.pane r.pane).st = .trusted ∨ (d.pane r.pane).st = .suspect))
        ∧ (out ≠ .pass → out ≠ .corrected → (d.pane r.pane).st = .unverified ∧ (d.pane r.pane).record = none
            ∧ (d.pane r.pane).ledger = none)) ∧
    (s.dev.serves 0x22 = true → pane.toNat ≤ 127 → (s.dev.pane pane.toNat).st = .trusted → ∃ d : Dev,
      exec (.paneSelftest h pane) s = .next (s.withDev (d.taken 0x22 [pane] h))
        ∧ d = { s.dev with panes := d.panes, dbg := d.dbg, regs := d.regs, pctl := { s.dev.pctl with grafts := d.pctl.grafts }, chk := d.chk }
        ∧ (∀ g ∈ d.pctl.grafts, g.spare ≠ pane.toNat)
        ∧ d.pane pane.toNat = { s.dev.pane pane.toNat with st := .selftest, selftest := some { cmd := hostCmdOf 0x22 h, step := 0 } }
        ∧ (∀ q, q ≠ pane.toNat → d.pane q = s.dev.pane q)) ∧
    (∀ t, (s.dev.pane p).selftest = some t → (s.dev.pane p).running = [] → (s.dev.pane p).st = .selftest →
      (t.step + 1 < 64 → exec (.selftestSubstep p) s = .next (s.withDev (s.dev.setPane p { s.dev.pane p with
        selftest := some { t with step := t.step + 1 } }))) ∧
      (t.step = 63 → ∃ d, exec (.selftestSubstep p) s = .next (s.withDev d) ∧ (d.pane p).selftest = none
        ∧ ((d.pane p).st = .trusted ∨ (d.pane p).st = .suspect))) ∧
    (s.dev.serves 0x23 = true → pane.toNat ≤ 127 → (s.dev.pane pane.toNat).st = .unverified →
      (s.dev.pane pane.toNat).selftest = none → s.dev.pctl.auditing = [] → ∃ d : Dev,
      exec (.paneRetire h pane) s = .next (s.withDev (d.answered 0x23 h stOk [])) ∧ (d.pane pane.toNat).st = .retired
        ∧ (d.pane pane.toNat).ledger = none ∧ (∀ q, q ≠ pane.toNat → d.pane q = s.dev.pane q)) ∧
    (s.dev.serves 0x23 = true → pane.toNat ≤ 127 → (s.dev.pane pane.toNat).st = .retired →
      exec (.paneRetire h pane) s = .next (s.withDev (s.dev.answered 0x23 h stOk [])))


/-! ### Models, tickets and records (R156 to R173, R562 to R566) -/

/-- MODEL_LOAD takes a packet at offset 0 of an EMPTY slot, or behind the bytes received of a LOADING one, and answers OK: before
the section table is whole the slot is LOADING with the bytes. Another offset is BAD_PARAM, a STARTED slot BUSY. CHECK_CONFIG
with a valid section replaces the section of a LOADED model. MODEL_START that nothing refuses makes the slot STARTED, in placed
mode (2) exactly if it has a placed mapping whose panes are all TRUSTED, with steps and sequence from 0, and answers mode and
reserve. MODEL_STOP of a STARTED slot with tickets makes it STOPPING; without, LOADED, and answers its step. MODEL_UNLOAD of a
LOADED slot empties it and zeroes its code.
Where the spec leaves it to a reading, this is the model's own, in log entries 40 and 41. -/
def Obligations.ModelsLoadStartAndStop : Prop :=
  ∀ (s : State) (h : CmdHdr) (slot policy reserve dest : Byte) (mask : Half) (off : Nat) (data old : List Byte) (m : Model),
    slot.toNat ≤ 15 →
    let i := slot.toNat
    let sl := s.dev.slot i
    (s.dev.serves 0x30 = true → 1 ≤ data.length → data.length ≤ 4092 → off < 2 ^ 24 →
      ((sl.st = .empty ∧ off = 0 ∧ old = []) ∨ (sl.st = .loading ∧ off ≠ 0 ∧ off = sl.recv.length ∧ old = sl.recv
        ∧ s.dev.db.verifs = []) → (old ++ data).length < 0x100 →
        (12 ≤ (old ++ data).length → (old ++ data).length < hdrTotal (old ++ data)) →
        (old.length < 0x1C → 0x1C ≤ (old ++ data).length →
          s.dev.casInUse i (hdrCasements (old ++ data)) = false ∧ s.dev.casClosed (hdrCasements (old ++ data)) = false) →
        exec (.modelLoad h slot off data) s = .next (s.withDev
          ((s.dev.setSlot i { sl with st := .loading, recv := old ++ data }).answered 0x30 h stOk []))) ∧
      (sl.st = .loading → off ≠ 0 → off ≠ sl.recv.length →
        exec (.modelLoad h slot off data) s = .next (s.withDev (s.dev.answered 0x30 h stBadParam []))) ∧
      (sl.st = .started →
        exec (.modelLoad h slot off data) s = .next (s.withDev (s.dev.answered 0x30 h stBusy [])))) ∧
    (s.dev.serves 0x36 = true → 16 ≤ data.length → data.length ≤ 1352 → sl.st = .loaded → sl.model = some m →
      (checkValid data (onesOf 128 m.panes) = true → exec (.checkConfig h slot data) s = .next (s.withDev
        ((s.dev.setSlot i { sl with model := some { m with check := data } }).answered 0x36 h stOk []))) ∧
      (checkValid data (onesOf 128 m.panes) = false →
        exec (.checkConfig h slot data) s = .next (s.withDev (s.dev.answered 0x36 h stBadImage [])))) ∧
    (s.dev.serves 0x31 = true → (∀ x ∈ s.dev.storm.samples, x.slot ≠ i) →
      (∀ st, s.dev.startRefusal i policy.toNat reserve.toNat dest.toNat mask.toNat = some st →
        exec (.modelStart h slot policy reserve dest mask) s = .next (s.withDev (s.dev.answered 0x31 h st []))) ∧
      (s.dev.startRefusal i policy.toNat reserve.toNat dest.toNat mask.toNat = none → sl.model = some m →
        ∃ d : Dev, exec (.modelStart h slot policy reserve dest mask) s = .next (s.withDev (d.answered 0x31 h stOk
            [slot, BitVec.ofNat 8 (d.slot i).mode, BitVec.ofNat 8 (if reserve = 0 then 8 else reserve.toNat), 0]))
          ∧ (d.slot i).st = .started ∧ (d.slot i).model = some m ∧ (d.slot i).step = 0 ∧ (d.slot i).seq = 0
          ∧ (d.slot i).nextEmit = 0 ∧ (d.slot i).dest = dest.toNat ∧ (d.slot i).mask = mask.toNat
          ∧ (d.slot i).reserve = (if reserve = 0 then 8 else reserve.toNat)
          ∧ ((d.slot i).mode = 2 ↔ bitOf m.flags 0 = true ∧ ∀ p ∈ onesOf 128 m.panes, (s.dev.pane p).st = .trusted)
          ∧ (∀ j, j ≠ i → d.slot j = s.dev.slot j) ∧ d.mdl.tickets = s.dev.mdl.tickets ∧ d.panes = s.dev.panes)) ∧
    (s.dev.serves 0x32 = true → s.dev.dbg.dumps = [] →
      (sl.st = .started → s.dev.heldBy i ≠ [] → exec (.modelStop h slot) s = .next (s.withDev
        ((s.dev.setSlot i { sl with st := .stopping, stopCmd := some (hostCmdOf 0x32 h) }).taken 0x32 [slot] h))) ∧
      (sl.st = .started → s.dev.heldBy i = [] → (∀ r ∈ s.dev.mdl.done, r.slot ≠ i) → sl.unloadAfter = false →
        ∃ d, exec (.modelStop h slot) s = .next (s.withDev d) ∧ (d.slot i).st = .loaded ∧ (d.slot i).model = sl.model
          ∧ d.hl.slots = [] ∧ d.hl.stream = [{ bytes := replyPacket 0x32 h.tag stOk (leBytes 4 sl.step)
                                               flagged := h.notify, verdict := false }]
          ∧ (∀ j, j ≠ i → d.slot j = s.dev.slot j)) ∧
      (sl.st = .loaded → exec (.modelStop h slot) s = .next (s.withDev (s.dev.answered 0x32 h stOk (leBytes 4 sl.step)))) ∧
      (sl.st = .empty → exec (.modelStop h slot) s = .next (s.withDev (s.dev.answered 0x32 h stBadParam [])))) ∧
    (s.dev.serves 0x33 = true →
      (sl.st = .loaded → sl.model = some m → ∃ d : Dev, exec (.modelUnload h slot) s = .next (s.withDev (d.answered 0x33 h stOk []))
        ∧ d = { s.dev with mdl := d.mdl, csm := d.csm, sill := d.sill } ∧ (d.slot i).st = .empty ∧ (d.slot i).model = none
        ∧ (∀ j, j ≠ i → d.slot j = s.dev.slot j) ∧ d.sill.mem = s.dev.sill.mem
        ∧ (∀ e ∈ m.code, ∀ a, e.2.1 ≤ a → a < e.2.1 + e.2.2 → Tab.get (fun _ => (0 : Byte)) (d.cas e.1).sram a = 0)) ∧
      (sl.st = .empty → exec (.modelUnload h slot) s = .next (s.withDev (s.dev.answered 0x33 h stOk []))) ∧
      (sl.st = .started ∨ sl.st = .stopping →
        exec (.modelUnload h slot) s = .next (s.withDev (s.dev.answered 0x33 h stBusy []))))

/-- RUN_WINDOW of a STARTED slot over good sill: in waiting mode it takes the next step and leaves a PANE_UNVERIFIED record
without a ticket; in streamed mode, with STORM open, it takes the free ticket, whose window holds the samples, and answers
ticket and step; with no ticket free it is QUEUE_FULL and takes none. TICKET_DONE of a live ticket and TICKET_LIMIT_EXPIRY
(TIMEOUT) assemble one record and make it DONE, and its products and windows are discarded; other tickets stay. RECORD_EMIT sends the slot's next record with the next sequence
number, frees its ticket and steps on; without one it does nothing. LIN_SET sets one reference of a running ticket. RESULT_READ
answers up to MAX oldest records and removes them; CLR_HIGH sets the high mark to the count.
Where the spec leaves it to a reading, this is the model's own, in log entries 25, 43 and 178. -/
def Obligations.TicketsBecomeRecords : Prop :=
  ∀ (s : State) (h : CmdHdr) (slot ch ws wf max : Byte) (addr : Word) (m : Model) (t : Nat) (v : VerdictIn), t < 128 →
    s.dev.clocked = true → s.dev.dbg.dumps = [] → s.dev.dbg.points = [] → s.dev.bitAt 0xC0010 0 = false →
    let i := slot.toNat
    let sl := s.dev.slot i
    let k := s.dev.ticket t
    let words := fun j => sxt 32 (uAt (s.dev.sillBytes addr.toNat (4 * m.winLen)) (4 * j) 4)
    let ends := fun (ins : Instr) (st : Byte) (w : Dev) => ∃ d r, exec ins s = .next (s.withDev d)
      ∧ d = { w with mdl := d.mdl, csm := d.csm, mul := { s.dev.mul with
          dispatch := s.dev.mul.dispatch.filter (fun m => m.ticket != t) } }
      ∧ (∀ c, d.cas c = { s.dev.cas c with fires := (s.dev.cas c).fires.filter (fun f => f.ticket != t) })
      ∧ d.mdl.done = s.dev.mdl.done ++ [r] ∧ d.mdl.slots = s.dev.mdl.slots
      ∧ d.ticket t = { k with st := .done } ∧ (∀ u, u ≠ t → d.ticket u = s.dev.ticket u)
      ∧ r.slot = k.slot ∧ r.step = k.step ∧ r.ticket = some t ∧ r.verdict = hasVerdict st ∧ recStatus r.bytes = st
    (s.dev.serves 0x34 = true → i ≤ 15 → ch.toNat ≤ 15 → ws.toNat ≤ 8 → wf.toNat ≤ 3 → addr.toNat % 4 = 0 → sl.st = .started →
      sl.model = some m → inWindow addr.toNat (4 * m.winLen) = true → s.dev.isOpen 4 = true → s.dev.sill.flips = [] →
      s.dev.sill.clearing = false →
      (sl.mode = 3 → ∃ (d : Dev) (r : DoneRec),
        exec (.runWindow h slot ch ws wf addr) s = .next (s.withDev (d.answered 0x34 h stOk ([0x80, 0, 0, 0] ++ leBytes 4 sl.step)))
          ∧ d = { s.dev with mdl := d.mdl, regs := d.regs } ∧ d.slot i = { sl with step := (sl.step + 1) % 2 ^ 32 }
          ∧ d.mdl.tickets = s.dev.mdl.tickets ∧ d.mdl.done = s.dev.mdl.done ++ [r] ∧ r.slot = i ∧ r.step = sl.step ∧ r.ticket = none
          ∧ r.verdict = false ∧ recStatus r.bytes = stPaneUnverified) ∧
      (sl.mode = 1 → s.dev.isOpen 3 = true → s.dev.freeTicket i = some t → (∀ j, j < m.winLen → words j ≠ -8388608) → ∃ d : Dev,
        exec (.runWindow h slot ch ws wf addr) s = .next (s.withDev (d.answered 0x34 h stOk
            ([BitVec.ofNat 8 t, 0, 0, 0] ++ leBytes 4 sl.step)))
          ∧ d = { s.dev with mdl := d.mdl, regs := d.regs, dbg := d.dbg } ∧ d.slot i = { sl with step := (sl.step + 1) % 2 ^ 32 }
          ∧ (d.ticket t).st = .issued ∧ (d.ticket t).slot = i ∧ (d.ticket t).step = sl.step ∧ (d.ticket t).channel = ch.toNat
          ∧ (d.ticket t).mode = 1 ∧ (d.ticket t).window.length = m.winLen
          ∧ (∀ j, j < m.winLen → ws = 0 → -32767 ≤ words j → words j ≤ 32767 → (d.ticket t).window[j]? = some (words j))
          ∧ (∀ u, u ≠ t → d.ticket u = s.dev.ticket u) ∧ d.mdl.done = s.dev.mdl.done) ∧
      (s.dev.unready i = false → s.dev.freeTicket i = none →
        exec (.runWindow h slot ch ws wf addr) s = .next (s.withDev (s.dev.answered 0x34 h stQueueFull [])))) ∧
    (s.dev.dbg.bolted = false →
      (s.dev.storm.samples = [] → (∀ e ∈ s.dev.chk.src, e.st ≠ .retracted) →
        (k.live = true → ends (.ticketDone t v false) (k.status v) s.dev) ∧
        (k.st = .issued ∨ k.st = .running → ends (.ticketLimitExpiry t) stTimeout { s.dev with storm := { s.dev.storm with
          run := s.dev.storm.run.map (fun r => { r with regions := r.regions.filter (fun (x : Region) => x.ticket != t) }) } })) ∧
      (k.live = false → exec (.ticketDone t v false) s = .next s) ∧
      (k.st = .free ∨ k.st = .done → exec (.ticketLimitExpiry t) s = .next s) ∧
      (∀ r, i ≤ 15 → s.dev.nextDone i = some r → r.slot = i → r.verdict = false → hasVerdict (recStatus r.bytes) = false →
        r.bytes.length = 32 → r.dest = 1 → s.dev.ownHost = true → s.dev.mdl.resq.length < 256 → s.dev.mdl.lossOf = [] →
        (s.dev.mdl.resq.length = 255 → ∀ j, j < i → s.dev.nextDone j = none) → sl.st = .started → ∃ d b, exec (.recordEmit i) s = .next (s.withDev d)
          ∧ d = { s.dev with mdl := d.mdl, chk := d.chk, dbg := d.dbg, hl := d.hl } ∧ d.mdl.done = s.dev.mdl.done.erase r
          ∧ d.slot i = { sl with seq := (sl.seq + 1) % 65536, nextEmit := (sl.nextEmit + 1) % 2 ^ 32 }
          ∧ d.mdl.resq = s.dev.mdl.resq ++ [(s.dev.stackId, b)] ∧ recSeq b = sl.seq % 65536 ∧ recStatus b = recStatus r.bytes
          ∧ (∀ u, r.ticket = some u → d.ticket u = ticketDefault u)) ∧
      (s.dev.nextDone i = none → exec (.recordEmit i) s = .next s)) ∧
    (∀ pos ref, k.st = .running → (ref % 16384 = 0x3FFF ∨ fld ref 11 3 < (s.dev.ckOf k.slot).sources.length) →
      exec (.linSet t pos ref) s = .next (s.withDev (s.dev.setTicket t { k with
        lineage := setAt ((k.lineage ++ List.replicate 4 0x3FFF).take 4) (pos % 4) (ref % 16384) }))) ∧
    (∀ pos ref, k.st ≠ .running → exec (.linSet t pos ref) s = .next (s.withDev (s.dev.setFld 0x718 2 1 1))) ∧
    (s.dev.serves 0x35 = true → 1 ≤ max.toNat → max.toNat ≤ 64 → (∀ e ∈ s.dev.mdl.resq, e.2.length = 32) →
      let out := s.dev.mdl.resq.take max.toNat
      exec (.resultRead h max) s = .next (s.withDev (Dev.answered { s.dev with mdl := { s.dev.mdl with
          resq := s.dev.mdl.resq.drop max.toNat } } 0x35 h
        (if out.any (fun e => hasVerdict (recStatus e.2) && recCheck e.2 % 4 == 1) then stProvisional
         else if out.any (fun e => bitOf (recCheck e.2) 8) then stReduced else stOk)
        (leBytes 1 out.length ++ leBytes 2 (s.dev.mdl.resq.length - out.length) ++ [0]
          ++ (out.map (fun e => leBytes 1 e.1 ++ [0, 0, 0] ++ e.2)).flatten)))) ∧
    (s.dev.serves 0x35 = true → (max = 0 ∨ max.toNat > 64) →
      exec (.resultRead h max) s = .next (s.withDev (s.dev.answered 0x35 h stBadParam []))) ∧
    exec .resqClrHigh s = .next (s.withDev { s.dev with mdl := { s.dev.mdl with high := s.dev.mdl.resq.length } })

/-! ### Sill and the storm (R180 to R229, R567, R568) -/

/-- With sill open and no flipped bit: SILL_WRITE of 1 to 4,092 bytes in a window that no gate refuses answers OK; the bytes read
as written and no other byte of memory changes. SILL_READ answers the bytes, UNWRITTEN if a row was never written. SILL_ZERO of
whole rows makes exactly their bytes read zero. A valid descriptor that is free defines its table and no other; a used table is
BUSY. A range outside the windows is BAD_PARAM, a shut sill PARTNER_GONE, and a table leased to another BUSY: nothing changes. While the
on-chip clear runs a read waits, and a write waits with the leases of its tables.
Where the spec leaves it to a reading, this is the model's own, in log entries 33 and 34. -/
def Obligations.HostReachesSill : Prop :=
  ∀ (s : State) (h : CmdHdr) (addr len : Word) (n : Half) (data : List Byte),
    let a := addr.toNat
    let m := data.length
    (s.dev.serves 0x40 = true → 1 ≤ m → m ≤ 4092 →
      (inWindow a m = true → s.dev.isOpen 4 = true → (s.dev.traceOn && inTrace a m) = false → s.dev.writeGate 32 a m = none →
        s.dev.writeHeld a m = false → s.dev.sill.flips = [] → ∃ d : Dev,
        exec (.sillWrite h addr data) s = .next (s.withDev (d.answered 0x40 h stOk []))
          ∧ d = { s.dev with sill := { s.dev.sill with mem := d.sill.mem, written := d.sill.written, leases := d.sill.leases } }
          ∧ (∀ k, k < m → d.sill.byteAt (a + k) = nthD data k 0)
          ∧ (∀ x, x < a ∨ a + m ≤ x → Tab.get (fun _ => (0 : Byte)) d.sill.mem x = Tab.get (fun _ => 0) s.dev.sill.mem x)
          ∧ (∀ x, x / 128 < a / 128 ∨ (a + m - 1) / 128 < x / 128 → d.sill.byteAt x = s.dev.sill.byteAt x)) ∧
      (inWindow a m = true → s.dev.isOpen 4 = true → (s.dev.traceOn && inTrace a m) = false → s.dev.writeGate 32 a m = none →
        s.dev.writeHeld a m = true → ∃ d : Dev,
        exec (.sillWrite h addr data) s = .next (s.withDev (d.taken 0x40 (leBytes 4 a ++ data) h))
          ∧ d = { s.dev with sill := { s.dev.sill with
              held := s.dev.sill.held ++ [.write (hostCmdOf 0x40 h) a data], leases := d.sill.leases } }
          ∧ (∀ e ∈ s.dev.tablesAt a m, e.leased = true → d.leaseOf e.table = some 32)) ∧
      (inWindow a m = false → exec (.sillWrite h addr data) s = .next (s.withDev (s.dev.answered 0x40 h stBadParam []))) ∧
      (inWindow a m = true → s.dev.isOpen 4 = false →
        exec (.sillWrite h addr data) s = .next (s.withDev (s.dev.answered 0x40 h stPartnerGone []))) ∧
      (∀ e w, inWindow a m = true → s.dev.isOpen 4 = true → (s.dev.traceOn && inTrace a m) = false → e ∈ s.dev.tablesAt a m →
        e.leased = true → s.dev.leaseOf e.table = some w → w ≠ 32 →
        exec (.sillWrite h addr data) s = .next (s.withDev (s.dev.answered 0x40 h stBusy [])))) ∧
    (s.dev.serves 0x41 = true →
      (1 ≤ n.toNat → n.toNat ≤ 4096 → inWindow a n.toNat = true → s.dev.isOpen 4 = true → s.dev.sill.clearing = false →
        s.dev.sill.flips = [] →
        let unw := anyRow s.dev.sill.rowUnwritten a n.toNat
        exec (.sillRead h addr n) s = .next (s.withDev (Dev.answered (if unw then s.dev.setFld 0x90000 1 1 1 else s.dev) 0x41 h
          (if unw then stUnwritten else stOk) (s.dev.sillBytes a n.toNat)))) ∧
      (1 ≤ n.toNat → n.toNat ≤ 4096 → inWindow a n.toNat = true → s.dev.isOpen 4 = true → s.dev.sill.clearing = true →
        exec (.sillRead h addr n) s = .next (s.withDev (Dev.taken { s.dev with sill := { s.dev.sill with
          held := s.dev.sill.held ++ [.read (hostCmdOf 0x41 h) a n.toNat] } } 0x41 (leBytes 4 a ++ leBytes 2 n.toNat) h))) ∧
      (n = 0 ∨ n.toNat > 4096 ∨ inWindow a n.toNat = false →
        exec (.sillRead h addr n) s = .next (s.withDev (s.dev.answered 0x41 h stBadParam [])))) ∧
    (s.dev.serves 0x43 = true → a % 128 = 0 → len.toNat % 128 = 0 → 1 ≤ len.toNat → inWindow a len.toNat = true →
      s.dev.isOpen 4 = true → s.dev.writeGate 32 a len.toNat = none → s.dev.sill.clearing = false → ∃ d : Dev,
      exec (.sillZero h addr len) s = .next (s.withDev (d.answered 0x43 h stOk [])) ∧ d = { s.dev with sill := d.sill }
        ∧ (∀ x, a ≤ x → x < a + len.toNat → d.sill.byteAt x = 0)
        ∧ (∀ x, x < a ∨ a + len.toNat ≤ x → d.sill.byteAt x = s.dev.sill.byteAt x)) ∧
    (s.dev.serves 0x42 = true → m = 32 → descDelete data = false →
      let e := descOf data
      ((descFormat data && e.placed && s.dev.descFree e) = true → s.dev.tableUsed e.table = false → ∃ d : Dev,
        exec (.sillTableDefine h data) s = .next (s.withDev (d.answered 0x42 h stOk []))
          ∧ d = { s.dev with sill := { s.dev.sill with descs := d.sill.descs } } ∧ d.desc e.table = some e
          ∧ ∀ t, t ≠ e.table → d.desc t = s.dev.desc t) ∧
      ((descFormat data && e.placed && s.dev.descFree e) = true → s.dev.tableUsed e.table = true →
        exec (.sillTableDefine h data) s = .next (s.withDev (s.dev.answered 0x42 h stBusy []))) ∧
      ((descFormat data && e.placed && s.dev.descFree e) = false →
        exec (.sillTableDefine h data) s = .next (s.withDev (s.dev.answered 0x42 h stBadParam []))))

/-- On a clocked device that is not BOLTED with sill open, not clearing and without flipped bits: SILL_RD answers the bytes; SILL_WR that
no gate refuses stores them and answers OK, and a refused one only answers; SILL_LOOKUP of valid keys joins its edge's queue;
SILL_LEASE of a leased table that no other holds is granted, but BUSY where a lower router id asks on the same tick; of another's
it is BUSY. LOOKUP_REPLY answers the oldest lookup with the
saturated sums. A casement's lease expires, the host's does not. The clear ends; a zero front zeroes its row and passes it; the
scrubber corrects a flipped bit and steps.
Where the spec leaves it to a reading, this is the model's own, in log entries 31 and 35. -/
def Obligations.CasementsReachSill : Prop :=
  ∀ (s : State) (src dst : Nat) (m : Msg), s.dev.clocked = true → s.dev.dbg.bolted = false → src < 32 → dst = 34 ∨ dst = 35 → s.dev.isOpen 4 = true →
    s.dev.sill.clearing = false → s.dev.sill.flips = [] →
    let net := fun (st : Byte) (b : List Byte) => s.dev.mul.net.erase m ++ [rspTo m st b]
    let answers := fun (i : Instr) (x : Dev) (st : Byte) (b : List Byte) =>
      exec i s = .next (s.withDev { x with mul := { s.dev.mul with net := net st b } })
    (s.dev.netHead src dst tySillRd = some m →
      let a := uAt m.payload 0 4
      let n := uAt m.payload 4 1
      let unw := anyRow s.dev.sill.rowUnwritten a n
      (inWindow a n = true → answers (.sillRd src dst) (if unw then s.dev.setFld 0x90000 1 1 1 else s.dev)
        (if unw then stUnwritten else stOk) (padTo 32 (s.dev.sillBytes a n))) ∧
      (inWindow a n = false → answers (.sillRd src dst) s.dev stBadParam [])) ∧
    (s.dev.netHead src dst tySillWr = some m →
      let a := uAt m.payload 0 4
      let bs := m.payload.drop 4
      (inWindow a bs.length = true → s.dev.writeGate src a bs.length = none → s.dev.writeHeld a bs.length = false →
        ∃ d, exec (.sillWr src dst) s = .next (s.withDev d)
          ∧ d = { s.dev with mul := { s.dev.mul with net := net stOk [] }, sill := { s.dev.sill with mem := d.sill.mem, written := d.sill.written } }
          ∧ (∀ k, k < bs.length → d.sill.byteAt (a + k) = nthD bs k 0)
          ∧ (∀ x, x < a ∨ a + bs.length ≤ x → Tab.get (fun _ => (0 : Byte)) d.sill.mem x = Tab.get (fun _ => 0) s.dev.sill.mem x)) ∧
      (∀ st, inWindow a bs.length = true → s.dev.writeGate src a bs.length = some st → answers (.sillWr src dst) s.dev st [])) ∧
    (s.dev.netHead src dst tySillLookup = some m → ∀ e ks, s.dev.desc (uAt m.payload 32 1) = some e →
      lookupKeys e m.payload = some ks → ∃ d, exec (.sillLookup src dst) s = .next (s.withDev d)
        ∧ d = { s.dev with mul := { s.dev.mul with net := s.dev.mul.net.erase m }, sill := { s.dev.sill with lookups0 := d.sill.lookups0, lookups1 := d.sill.lookups1 } }
        ∧ d.sill.lookups0 = s.dev.sill.lookups0 ++ (if dst = 34 then [{ msg := m, desc := e }] else [])
        ∧ d.sill.lookups1 = s.dev.sill.lookups1 ++ (if dst = 34 then [] else [{ msg := m, desc := e }])) ∧
    (s.dev.netHead src dst tySillLease = some m → ∀ e, s.dev.desc (uAt m.payload 0 1) = some e → e.leased = true →
      (bitOf (uAt m.payload 1 1) 0 = false → (s.dev.leaseOf (uAt m.payload 0 1) = none ∨ s.dev.leaseOf (uAt m.payload 0 1) = some src) →
        ∀ rival : Option Nat, (∀ r, rival = some r → src ≤ r) →
        ∃ x : Dev, answers (.sillLease src dst ⟨false, rival⟩) x stOk [] ∧ x = { s.dev with sill := { s.dev.sill with leases := x.sill.leases } }
          ∧ x.leaseOf (uAt m.payload 0 1) = some src ∧ ∀ t, t ≠ uAt m.payload 0 1 → x.leaseOf t = s.dev.leaseOf t) ∧
      (∀ r, bitOf (uAt m.payload 1 1) 0 = false → s.dev.leaseOf (uAt m.payload 0 1) = none → r < src →
        answers (.sillLease src dst ⟨false, some r⟩) s.dev stBusy []) ∧
      (∀ w rival, s.dev.leaseOf (uAt m.payload 0 1) = some w → w ≠ src →
        answers (.sillLease src dst ⟨false, rival⟩) s.dev stBusy [])) ∧
    (∀ l rest ks, s.dev.sill.lookups0 = l :: rest → l.msg = m → m.dst = 34 → lookupKeys l.desc m.payload = some ks →
      let lane := fun k => ks.map (fun i => sxt 16 (uAt (s.dev.sillBytes (l.desc.base + i * l.desc.entrySize) l.desc.entrySize) (2 * k) 2))
      ∃ d r, exec (.lookupReply 0) s = .next (s.withDev d)
        ∧ d = { s.dev with mul := { s.dev.mul with net := s.dev.mul.net ++ [r] }, regs := d.regs, sill := { s.dev.sill with lookups0 := rest } }
        ∧ d.reg 0x90024 = s.dev.reg 0x90024 + 1 ∧ r.src = 34 ∧ r.dst = m.src ∧ r.typ = tyRsp ∧ r.tag = m.tag
        ∧ (r.status = stOk ∨ r.status = stUnwritten)
        ∧ (∀ k, k < l.desc.entrySize / 2 → -32768 ∉ lane k →
            uAt r.payload (32 + 2 * k) 2 = tc 16 (clampI (-32767) 32767 (sumI (lane k))))) ∧
    (∀ t w, s.dev.leaseOf t = some w →
      (w < 32 → ∃ d, exec (.leaseExpiry t) s = .next (s.withDev d)
        ∧ d = { s.dev with sill := { s.dev.sill with leases := d.sill.leases } } ∧ d.leaseOf t = none
        ∧ ∀ t', t' ≠ t → d.leaseOf t' = s.dev.leaseOf t') ∧
      (32 ≤ w → exec (.leaseExpiry t) s = .next s)) ∧
    exec .sillClearComplete s = .next s ∧
    (∀ x, x.dev = { s.dev with sill := { s.dev.sill with clearing := true } } → s.dev.sill.held = [] →
      (∀ op ∈ s.dev.pwr.closers, op.closes 4 = false) → exec .sillClearComplete x = .next (x.withDev s.dev)) ∧
    (∀ die, die ≤ 1 → s.dev.sill.fronts = true → s.dev.sill.selfRefresh = false → s.dev.sill.front die < dieRows →
      s.dev.sill.held = [] → ∃ d, exec (.zeroFrontAdvance die) s = .next (s.withDev d)
        ∧ d = { s.dev with sill := { s.dev.sill with mem := d.sill.mem, front0 := d.sill.front0, front1 := d.sill.front1 } }
        ∧ d.sill.front die = s.dev.sill.front die + 1 ∧ d.sill.front (1 - die) = s.dev.sill.front (1 - die)
        ∧ ∀ x, Tab.get (fun _ => (0 : Byte)) d.sill.mem x
            = if dieRowAddr die (s.dev.sill.front die) ≤ x ∧ x < dieRowAddr die (s.dev.sill.front die) + 128 then 0
              else Tab.get (fun _ => 0) s.dev.sill.mem x) ∧
    (∀ w b, s.dev.bitAt 0x90004 0 = true → b < 16 → w / 128 * 128 = 0x1000000 + b * 0x100000 + s.dev.sill.scrubBank * 128 →
      w % 8 = 0 → s.dev.sill.scrubBank < 8192 →
      ∀ x, x.dev = { s.dev with sill := { s.dev.sill with flips := [(w, 1)] } } →
        exec (.scrubRead 0) x = .next (x.withDev { (s.dev.satFld 0x90008 0 16) with sill := { s.dev.sill with
          scrubBank := (s.dev.sill.scrubBank + 1) % 8192 } }))

/-- On a clocked device that is not BOLTED: a PANE_FWD to a storm with no pass and no operation under way starts a substitution pass with its product, and the end of a
substitution pass answers each of its products. STREAMED_RUN_START runs the oldest streamed tickets of the one slot that has
some; each operation serves every region, and the last assembles one record a region. A shadow pass starts over a staged
dwell and its end resolves exactly those samples. SAMPLE_ABANDON gives up one sample and counts it. A storm fault drops run,
passes, products and samples until STORM_RESTART. A lost source counts as confirmed FLAGGED; an expired one is let go.
Where the spec leaves it to a reading, this is the model's own, in log entries 22, 27 and 28. -/
def Obligations.StormRunsItsWork : Prop :=
  ∀ (s : State) (i : Nat), s.dev.clocked = true → s.dev.dbg.bolted = false → s.dev.dbg.dumps = [] →
    let st := s.dev.storm
    let up := s.dev.stormUp = true ∧ s.dev.sill.clearing = false
    let marked := fun (d : Dev) (x : StormState) => d.storm = { x with doing := d.storm.doing, work := d.storm.work }
    (∀ src m, up → src < 32 → s.dev.netHead src 33 tyPaneFwd = some m → st.pass = none → st.fwd = [] →
      s.dev.midOperation = false →
      ∃ d r, exec (.paneFwd src 33) s = .next (s.withDev d)
        ∧ d = { s.dev with mul := { s.dev.mul with net := s.dev.mul.net.erase m }, storm := d.storm }
        ∧ marked d { st with pass := some (.subst [r]) }
        ∧ r.casement = src ∧ r.pane = uAt m.payload 0 1 ∧ r.fire = m.tag ∧ r.slot = (s.dev.ticket m.ticket).slot) ∧
    (∀ rs, up → st.pass = some (.subst rs) → st.fwd = [] → st.run = none → s.dev.streamWaits = false →
      ∃ d msgs, exec (.stormPassEnd false) s = .next (s.withDev d) ∧ d.mul.net = s.dev.mul.net ++ msgs
        ∧ msgs.map (fun x => (x.src, x.dst, x.tag)) = rs.map (fun r => (33, r.casement, r.fire))
        ∧ marked d { st with pass := st.suspended, suspended := none } ∧ d.mdl = s.dev.mdl ∧ d.panes = s.dev.panes) ∧
    (∀ m, up → i < 16 → (s.dev.slot i).model = some m → s.dev.streamTickets i ≠ [] →
      (∀ j, j < 16 → j ≠ i → s.dev.streamTickets j = []) → st.run = none → st.pass = none → st.fwd = [] →
      let ts := (s.dev.streamTickets i).take (min 64 (2097152 / m.stormBuf))
      ∃ d r, exec .streamedRunStart s = .next (s.withDev d) ∧ d = { s.dev with storm := d.storm, mdl := d.mdl }
        ∧ marked d { st with run := some r, lastSlot := i } ∧ r.slot = i ∧ r.op = 0
        ∧ r.regions.map (fun (x : Region) => x.ticket) = ts ∧ (∀ x ∈ r.regions, x.status = 0 ∧ x.out = none)
        ∧ (∀ t ∈ ts, d.ticket t = { s.dev.ticket t with st := .running }) ∧ (∀ t, t ∉ ts → d.ticket t = s.dev.ticket t)) ∧
    (∀ r m, up → st.run = some r → (s.dev.slot r.slot).model = some m → st.pass = none → st.fwd = [] →
      (r.op + 1 < progOps m.stormProg → ∃ d rs, exec .stormOperationComplete s = .next (s.withDev d)
        ∧ marked d { st with run := some { r with op := r.op + 1, busy := true, regions := rs } }
        ∧ rs.map (fun (x : Region) => x.ticket) = r.regions.map (fun (x : Region) => x.ticket) ∧ d.mdl.done = s.dev.mdl.done) ∧
      (r.op + 1 ≥ progOps m.stormProg → ∃ d, exec .stormOperationComplete s = .next (s.withDev d) ∧ d.storm.run = none
        ∧ d.mdl.done.length = s.dev.mdl.done.length + r.regions.length ∧ d.mdl.done.take s.dev.mdl.done.length = s.dev.mdl.done
        ∧ ∀ x ∈ r.regions, (d.ticket x.ticket).st = .done)) ∧
    (∀ lane x, up → s.dev.sampling = true → st.pass = none → st.run = none → st.fwd = [] → st.suspended = none →
      s.dev.streamWaits = false →
      st.samples.find? (fun y => y.slot == i && y.lane == lane) = some x → s.dev.dwellOver x = true →
      (∀ y ∈ s.dev.dwellSamples i lane x.dwell, y.st = .staged) →
      ∃ d, exec (.shadowPassStart i lane) s = .next (s.withDev d) ∧ d = { s.dev with storm := d.storm }
        ∧ marked d { st with pass := some (.shadow i lane x.dwell) }) ∧
    (∀ lane, st.suspended = none → st.samples.find? (fun y => y.slot == i && y.lane == lane) = none → exec (.shadowPassStart i lane) s = .next s) ∧
    (∀ lane dwell, up → st.pass = some (.shadow i lane dwell) → st.run = none → ∃ d, exec (.stormPassEnd false) s = .next (s.withDev d)
      ∧ d.storm.samples = st.samples.filter (fun y => !(y.slot == i && y.lane == lane && y.dwell == dwell))
      ∧ d.storm.run = none ∧ d.storm.fwd = st.fwd) ∧
    (∀ late, st.pass = none ∨ s.dev.sill.clearing = true → exec (.stormPassEnd late) s = .next s) ∧
    (∀ x step path n, st.samples.find? (fun y => y.slot == i && y.step == step && y.path == path && y.n == n) = some x →
      s.dev.chk.pend = [] → ∃ d, exec (.sampleAbandon i step path n) s = .next (s.withDev d)
        ∧ d = { s.dev with storm := d.storm, regs := d.regs, chk := d.chk } ∧ d.storm.samples = st.samples.erase x
        ∧ d.fldAt 0x80010 0 16 = satInc 16 (s.dev.fldAt 0x80010 0 16)
        ∧ (s.dev.emitted i step = false → d.chk.lostSteps = s.dev.chk.lostSteps ++ [(x.slot, x.step)])) ∧
    (s.dev.isPowered 3 = true → st.restarting = false → ∃ d, exec .stormFault s = .next (s.withDev d) ∧ d.storm.restarting = true
      ∧ d.storm.run = none ∧ d.storm.pass = none ∧ d.storm.suspended = none ∧ d.storm.fwd = [] ∧ d.storm.samples = []
      ∧ d.bitAt 0x80000 1 = true) ∧
    exec .stormRestart s = .next (s.withDev { s.dev with storm := { st with restarting := false } }) ∧
    (∀ e, s.dev.chk.src = [e] → s.dev.chk.pend = [] →
      (e.st = .provisional →
        exec (.sourceLoss e.node e.stackId e.slot e.seq) s = .next (s.withDev (Dev.satFld { s.dev with chk := { s.dev.chk with
          src := [{ e with st := .confirmedFlagged }] } } 0x714 16 16))) ∧
      (e.st ≠ .provisional → exec (.sourceLoss e.node e.stackId e.slot e.seq) s = .next s ∧
        ((∀ r ∈ s.dev.mdl.done, r.refs = []) → exec (.sourceHoldExpiry e.node e.stackId e.slot e.seq) s = .next (s.withDev { s.dev with chk := { s.dev.chk with src := [] } }))))

/-! ### Probes, acquisition and the survey (R263 to R321, R569 to R572) -/

/-- On a clocked device with FRONT open. A write of EXC_CODE during an access saves the code; a zero DISABLES the channel and drops its windows; a
non-zero one on a DISABLED channel at rest begins DEBOUNCE; EXC_SET does so for each channel of its mask. A bias departure makes
an ACTIVE channel OPEN or SHORT; its return begins DEBOUNCE, whose end queues a TEDS access or settles; settled is ACTIVE. An
access, which an excluded channel is not given, holds the excitation at zero and its end restores it, with what was read, and answers its command; a stuck bus
answers TIMEOUT and excludes the channel. TEDS and PROBE_LIFE commands queue (an excluded channel is BUSY) or answer the
accumulators; PROBE_CONFIG writes what OPS selects.
Where the spec leaves it to a reading, this is the model's own, in log entries 71, 72 and 74. -/
def Obligations.ProbesComeAndGo : Prop :=
  ∀ (s : State) (h : CmdHdr) (channel ops row : Byte) (sens sup cns rated : Word) (mask sec sh : Half) (codes : List Half)
    (data ident memory : List Byte) (ch : Nat), ch = channel.toNat → ch < 16 → s.dev.clocked = true → s.dev.isOpen 2 = true →
    let k := s.dev.chan ch
    let becomes := fun (i : Instr) (st : ProbeSt) => ∃ d, exec i s = .next (s.withDev d) ∧ (d.chan ch).st = st
      ∧ ∀ c, c ≠ ch → d.chan c = s.dev.chan c
    let queues := fun (i : Instr) (op : Byte) (ps : List Byte) (r : TedsReq) =>
      (k.tedsExcl = false → s.dev.front.tedsQueue.any (fun q => q.ch == ch) = false → exec i s = .next (s.withDev
        (Dev.taken { s.dev with front := { s.dev.front with tedsQueue := s.dev.front.tedsQueue ++ [r] } } op ps h))) ∧
      (k.tedsExcl = true → exec i s = .next (s.withDev (s.dev.answered op h stBusy [])))
    (∀ code : Word,
      (k.st = .teds → exec (.excCodeWrite ch code) s = .next (s.withDev (s.dev.setChan ch { k with
        saved := some (wfld code 0 12), excFault := false, excAt := s.dev.now }))) ∧
      (wfld code 0 12 = 0 → k.st ≠ .teds → ∃ d, exec (.excCodeWrite ch code) s = .next (s.withDev d) ∧ (d.chan ch).st = .disabled
        ∧ (d.chan ch).wins = [] ∧ d.fldAt (aExc ch) 0 12 = 0 ∧ ∀ c, c ≠ ch → d.chan c = s.dev.chan c) ∧
      (wfld code 0 12 ≠ 0 → k.st = .disabled → k.bias = .inside → ∃ d, exec (.excCodeWrite ch code) s = .next (s.withDev d)
        ∧ d = { s.dev with regs := d.regs, front := d.front } ∧ (d.chan ch).st = .debounce
        ∧ d.fldAt (aExc ch) 0 12 = wfld code 0 12 ∧ ∀ c, c ≠ ch → d.chan c = s.dev.chan c) ∧
      (wfld code 0 12 ≠ 0 → k.st = .active → ∃ d, exec (.excCodeWrite ch code) s = .next (s.withDev d)
        ∧ d = { s.dev with regs := d.regs, front := d.front } ∧ (d.chan ch).st = .active
        ∧ d.fldAt (aExc ch) 0 12 = wfld code 0 12 ∧ ∀ c, c ≠ ch → d.chan c = s.dev.chan c)) ∧
    (s.dev.serves 0x51 = true → mask ≠ 0 → codes.length = 16 → (∀ x ∈ codes, x.toNat < 4096) → ∃ d : Dev,
      exec (.excSet h mask codes) s = .next (s.withDev (d.answered 0x51 h stOk []))
        ∧ (bitOf mask.toNat ch = true → k.st ≠ .teds → d.fldAt (aExc ch) 0 12 = (nthD codes ch 0).toNat)
        ∧ (bitOf mask.toNat ch = false ∨ k.st = .teds → d.fldAt (aExc ch) 0 12 = s.dev.fldAt (aExc ch) 0 12)) ∧
    (k.st = .active → becomes (.biasDeparture ch true) .opened ∧ becomes (.biasDeparture ch false) .shorted) ∧
    (k.st = .opened ∨ k.st = .shorted → becomes (.biasReturn ch) .debounce) ∧
    (k.st = .debounce →
      (s.dev.sup 24 = false ∨ k.tedsExcl = true → becomes (.debounceComplete ch) .settling) ∧
      (s.dev.sup 24 = true → k.tedsExcl = false → s.dev.front.tedsQueue = [] → exec (.debounceComplete ch) s = .next (s.withDev
        { s.dev with front := { s.dev.front with tedsQueue := [{ tedsNone ch with arrival := true }] } }))) ∧
    (k.st = .settling → becomes (.settleComplete ch) .active) ∧
    (k.st ≠ .settling → exec (.settleComplete ch) s = .next s) ∧
    (∀ r rest, s.dev.front.teds = none → s.dev.front.tedsQueue = r :: rest → r.ch = ch → k.tedsExcl = false → ∃ d,
      exec .tedsAccessStart s = .next (s.withDev d) ∧ d.front.teds = some r ∧ d.front.tedsAt = s.dev.now
        ∧ d.front.tedsMode = s.dev.front.tedsMode ∧ d.front.tedsQueue = rest
        ∧ (d.chan ch).st = .teds ∧ (d.chan ch).saved = some (s.dev.fldAt (aExc ch) 0 12) ∧ d.fldAt (aExc ch) 0 12 = 0
        ∧ (d.chan ch).wins = []) ∧
    ((∀ r ∈ s.dev.front.tedsQueue, (s.dev.chan r.ch).tedsExcl = true) → exec .tedsAccessStart s = .next s) ∧
    (∀ x ps code, s.dev = Dev.taken x 0x52 ps h → x.hl.linkReplies = [] → x.hl.stream = [] →
      s.dev.front.teds = some { tedsNone ch with reads := [hostCmdOf 0x52 h] } → k.saved = some code → code < 4096 →
      (s.dev.sup 27 = false → ident.length = 8 → memory.length ≤ 128 → ∃ d : Dev,
        exec (.tedsAccessComplete true ident memory) s = .next (s.withDev (d.answered 0x52 h stOk
            ([1, BitVec.ofNat 8 memory.length, 0, 0] ++ ident ++ memory)))
          ∧ d.front.teds = none ∧ d.front.tedsMode = false ∧ d.fldAt (aExc ch) 0 12 = code
          ∧ (d.chan ch).st = (if code = 0 then .disabled else .settling) ∧ (d.chan ch).tedsPresent = true
          ∧ (d.chan ch).ident = ident ∧ (d.chan ch).memory = memory) ∧
      (∃ d : Dev, exec .tedsStuck s = .next (s.withDev (d.answered 0x52 h stTimeout [])) ∧ d.front.teds = none
        ∧ (d.chan ch).tedsExcl = true ∧ d.fldAt (aExc ch) 0 12 = code)) ∧
    (s.dev.serves 0x52 = true → queues (.tedsRead h channel) 0x52 [channel] { tedsNone ch with reads := [hostCmdOf 0x52 h] }) ∧
    (s.dev.serves 0x53 = true → data.length = 8 → row.toNat ≤ 15 → queues (.tedsWrite h channel row 1 data) 0x53 ([channel, row, 1, 0] ++ data)
      { tedsNone ch with writes := [(hostCmdOf 0x53 h, row.toNat, data)] }) ∧
    (s.dev.serves 0x54 = true →
      (k.lifeValid = true → queues (.probeLifeWrite h channel) 0x54 [2, channel]
        { tedsNone ch with life := true, lifeCmds := [hostCmdOf 0x54 h] }) ∧
      exec (.probeLifeGet h channel) s = .next (s.withDev (s.dev.answered 0x54 h stOk
        (leBytes 1 (if k.lifeValid then 1 else 0) ++ leBytes 1 (if k.rated ≠ 0 ∧ k.rated ≤ k.consumed then 1 else 0)
          ++ leBytes 2 k.seconds ++ leBytes 4 (k.serial.getD 0) ++ leBytes 4 k.rated ++ leBytes 4 k.consumed ++ leBytes 2 k.shocks
          ++ leBytes 6 k.lastUpdate))) ∧
      (k.tedsPresent = true → 64 ≤ k.memory.length → sec.toNat ≤ 3599 → sh.toNat ≤ 3599 → rated = 0 →
        exec (.probeLifeSet h channel rated cns sec sh) s = .next (s.withDev ((s.dev.setChan ch { k with
          rated := 0, consumed := cns.toNat, seconds := sec.toNat, shocks := sh.toNat, lifeValid := true
          serial := some (basicSerial k.basic) }).answered 0x54 h stOk []))) ∧
      (sec.toNat > 3599 → exec (.probeLifeSet h channel rated cns sec sh) s = .next (s.withDev (s.dev.answered 0x54 h stBadParam [])))) ∧
    (s.dev.serves 0x50 = true → 1 ≤ ops.toNat → ops.toNat ≤ 7 → wfld sup 28 4 = 0 → ∃ d : Dev,
      exec (.probeConfig h channel ops sens sup) s = .next (s.withDev (d.answered 0x50 h stOk []))
        ∧ d = { s.dev with regs := d.regs, front := d.front }
        ∧ d.reg (aSens ch) = (if bitOf ops.toNat 0 then sens else s.dev.reg (aSens ch))
        ∧ d.reg aSup = (if bitOf ops.toNat 2 then sup else s.dev.reg aSup)
        ∧ (∀ a, a ≠ aSens ch → a ≠ aSup → d.reg a = s.dev.reg a)
        ∧ d.chan ch = (if bitOf ops.toNat 1 then { k with tedsExcl := false } else k) ∧ ∀ c, c ≠ ch → d.chan c = s.dev.chan c)

/-- On a clocked device with FRONT open: a sample of an ACTIVE, uncalibrating channel without high-pass is (raw - OFFSET) times GCORR / 2^22, rounded,
clamped, and joins every window in progress; of a channel that is not ACTIVE the gap marker does. A full window leaves and every
STARTED instance that listens takes one step. ACQ_CAL of channels nobody listens to begins phase 1; a sample
of a phase past the first 64 joins its sum; with 4,160 samples the phases write OFFSET, their average, and GCORR, and the last
clears UNCAL and answers; before that, or for a phase not in progress, nothing changes. ACQ_CONFIG writes CFG, HOP and ATTEN of its channels and sets UNCAL with a new
rate or gain. A second of excitation and a shock block count toward one LU at 3,600; a due life write is queued
at once where no window is in progress, and else as the next one completes.
Where the spec leaves it to a reading, this is the model's own, in log entries 70, 75, 77, 79 and 81. -/
def Obligations.SamplesFillWindows : Prop :=
  ∀ (s : State) (h : CmdHdr) (mask : Half) (cfg hop atten : Word) (ch : Nat) (raw : Int), ch < 16 → s.dev.clocked = true →
    s.dev.isOpen 2 = true →
    let k := s.dev.chan ch
    let n := s.dev.winLen ch
    (k.cal = none → (∀ w ∈ k.wins, w.xs.length < n) → k.blockN < n → ∃ d,
      exec (.acqSample ch raw false) s = .next (s.withDev d) ∧ d = { s.dev with regs := d.regs, front := d.front }
        ∧ (∀ c, c ≠ ch → d.chan c = s.dev.chan c) ∧ (d.chan ch).st = k.st ∧ (d.chan ch).blockN = k.blockN + 1
        ∧ (k.st = .active → s.dev.bitAt (aAcq ch 0) 4 = false →
            let x := clampI (-8388607) 8388607 (roundAway (((raw - sxt 24 (s.dev.fldAt (aAcq ch 0xC) 0 24))
              * s.dev.fldAt (aAcq ch 0x10) 0 24 : Int) / 4194304))
            (k.hopLeft ≠ 0 → (d.chan ch).wins.map (·.xs) = k.wins.map (fun w => x :: w.xs)) ∧
            (k.hopLeft = 0 → s.dev.bitAt (aAcq ch 0) 5 = true → k.wins.length < 64 →
              (d.chan ch).wins.map (·.xs) = k.wins.map (fun w => x :: w.xs) ++ [[x]]))
        ∧ (k.st ≠ .active → (d.chan ch).wins.map (·.xs) = k.wins.map (fun w => -8388608 :: w.xs))) ∧
    (∀ c overload, k.cal = some c → (∀ w ∈ k.wins, w.xs.length < n) → k.blockN < n → c.count < c.length →
      exec (.acqSample ch raw overload) s = .next (s.withDev (s.dev.setChan ch { k with cal := some { c with
        count := c.count + 1, sum := if c.count < 64 then c.sum else c.sum + raw } }))) ∧
    (∀ w, s.dev.dbg.bolted = false → k.wins.filter (fun x => x.xs.length ≥ n) = [w] → ∃ d,
      exec (.windowComplete ch) s = .next (s.withDev d) ∧ (d.chan ch).wins = k.wins.filter (fun x => x.xs.length < n)
        ∧ (∀ j, j < 16 → (d.slot j).step = if (s.dev.slot j).st = .started ∧ bitOf (s.dev.slot j).mask ch = true then
            ((s.dev.slot j).step + 1) % 2 ^ 32 else (s.dev.slot j).step)) ∧
    ((∀ w ∈ k.wins, w.xs.length < n) → exec (.windowComplete ch) s = .next s) ∧
    (s.dev.serves 0x58 = true → mask ≠ 0 → (∀ c, c < 16 → bitOf mask.toNat c = true → s.dev.listened c = false ∧ (s.dev.chan c).cal = none) →
      ∃ d : Dev, exec (.acqCal h mask) s = .next (s.withDev (d.taken 0x58 (leBytes 2 mask.toNat) h))
        ∧ d.front.cals = s.dev.front.cals ++ [{ cmd := hostCmdOf 0x58 h, left := onesOf 16 mask.toNat }]
        ∧ (∀ c, c < 16 → bitOf mask.toNat c = true → (d.chan c).cal = some { phase := 1, off := 0 } ∧ (d.chan c).wins = [])
        ∧ (∀ c, c < 16 → bitOf mask.toNat c = false → d.chan c = s.dev.chan c)) ∧
    (s.dev.serves 0x58 = true → (∃ c, c < 16 ∧ bitOf mask.toNat c = true ∧ s.dev.listened c = true) →
      exec (.acqCal h mask) s = .next (s.withDev (s.dev.answered 0x58 h stBusy []))) ∧
    (∀ c, k.cal = some c → c.phase = 1 ∨ c.phase = 2 →
      (∀ n, c.count < 4160 ∨ n ≠ c.phase → exec (.acqCalPhaseEnd ch n) s = .next s) ∧
      (4160 ≤ c.count →
        let mean := roundAway ((c.sum : Rat) / 4096)
        (c.phase = 1 → exec (.acqCalPhaseEnd ch 1) s = .next (s.withDev
          ((s.dev.setFld (aAcq ch 0xC) 0 24 (tc 24 mean)).setChan ch { k with cal := some { phase := 2, off := mean } }))) ∧
        (c.phase = 2 → 2 ^ 21 ≤ mean - c.off → ∃ d g, exec (.acqCalPhaseEnd ch 2) s = .next (s.withDev d)
          ∧ d = (s.dev.setFld (aAcq ch 0x10) 0 24 g).setChan ch { k with cal := some { phase := 3, off := c.off } }
          ∧ -(mean - c.off) ≤ 2 * ((g : Int) * (mean - c.off) - 2 ^ 44)
          ∧ 2 * ((g : Int) * (mean - c.off) - 2 ^ 44) ≤ mean - c.off))) ∧
    (∀ x ps c, s.dev = Dev.taken x 0x58 ps h → x.hl.linkReplies = [] → x.hl.stream = [] → k.cal = some c → c.phase = 3 →
      64 ≤ c.count →
      s.dev.front.cals = [{ cmd := hostCmdOf 0x58 h, left := [ch] }] → ∃ d : Dev,
      exec (.acqCalPhaseEnd ch 3) s = .next (s.withDev (d.answered 0x58 h stOk [])) ∧ d.front.cals = []
        ∧ (d.chan ch).cal = none ∧ d.bitAt (aAcq ch 8) 0 = false) ∧
    (s.dev.serves 0x59 = true → mask ≠ 0 → acqConfigOk cfg hop atten = true →
      (∀ c, c < 16 → bitOf mask.toNat c = true → s.dev.listened c = false) → ∃ d : Dev,
      exec (.acqConfig h mask cfg hop atten) s = .next (s.withDev (d.answered 0x59 h stOk []))
        ∧ (bitOf mask.toNat ch = true → d.fldAt (aAcq ch 0) 0 4 = wfld cfg 0 4 ∧ d.fldAt (aAcq ch 0) 16 7 = wfld cfg 16 7
            ∧ d.reg (aAcq ch 4) = hop ∧ d.reg (aAcq ch 0x14) = atten ∧ (d.chan ch).wins = []
            ∧ (s.dev.fldAt (aAcq ch 0) 0 4 ≠ wfld cfg 0 4 → d.bitAt (aAcq ch 8) 0 = true))
        ∧ (bitOf mask.toNat ch = false → (∀ o, o < 0x20 → d.reg (aAcq ch o) = s.dev.reg (aAcq ch o)) ∧ d.chan ch = k)) ∧
    (∀ v, exec (.acqGainWrite ch v) s = .next (s.withDev ((s.dev.setFld (aAcq ch 0x10) 0 24 v.toNat).setFld (aAcq ch 8) 0 1 0))) ∧
    (k.tedsPresent = true → s.dev.fldAt (aExc ch) 0 12 ≠ 0 → ∃ d, exec (.lifeSecond ch) s = .next (s.withDev d)
      ∧ (d.chan ch).seconds = (if k.seconds + 1 ≥ 3600 then 0 else k.seconds + 1)
      ∧ (d.chan ch).consumed = (if k.seconds + 1 ≥ 3600 then satInc 32 k.consumed else k.consumed)
      ∧ (d.chan ch).shocks = k.shocks ∧ (d.chan ch).st = k.st ∧ ∀ c, c ≠ ch → d.chan c = s.dev.chan c) ∧
    (s.dev.fldAt (aExc ch) 0 12 = 0 → exec (.lifeSecond ch) s = .next s) ∧
    (k.blockN ≥ n → k.tedsPresent = true → ∃ d, exec (.shockBlock ch) s = .next (s.withDev d)
      ∧ (d.chan ch).blockN = 0 ∧ (d.chan ch).blockHit = false
      ∧ (d.chan ch).shocks = (if k.blockHit then (if k.shocks + 1 ≥ 3600 then 0 else k.shocks + 1) else k.shocks)
      ∧ (d.chan ch).consumed = (if k.blockHit ∧ k.shocks + 1 ≥ 3600 then satInc 32 k.consumed else k.consumed)
      ∧ (d.chan ch).seconds = k.seconds) ∧
    (k.wins ≠ [] → (∀ w ∈ k.wins, w.xs.length < n) → exec (.lifeAutoWrite ch) s = .next s) ∧
    (k.writeDue = true → k.tedsExcl = false → s.dev.front.tedsQueue = [] → k.wins = [] → ∃ d,
      exec (.lifeAutoWrite ch) s = .next (s.withDev d) ∧ d = { s.dev with front := d.front } ∧ d.front.tedsQueue = [{ tedsNone ch with life := true }]
      ∧ d.chan ch = { k with writeDue := false } ∧ ∀ c, c ≠ ch → d.chan c = s.dev.chan c)

/-- On a clocked device with FRONT open. SURVEY_SEQ writes its entries, and LENGTH unless 0. On an idle converter SURVEY_URGENT and SURVEY_CAL start at
once and stay in progress; a channel above 47 is BAD_PARAM, a second calibration BUSY. SINGLE_GO in single mode starts the
conversion; MODE, MAINS, LOWPWR and CALREF writes store their value (3 as 0). The end of a single or urgent conversion writes
the rounded code of R297 and the time to the channel's registers, and answers the urgent command with them; with no
conversion nothing happens. The end of a pre-delay starts the entry's conversion.
Where the spec leaves it to a reading, this is the model's own, in log entries 64, 66 and 67. -/
def Obligations.SurveyConverts : Prop :=
  ∀ (s : State) (h : CmdHdr) (flags first length channel : Byte) (entries : List Word) (p : Nat), s.dev.clocked = true →
    s.dev.isOpen 2 = true →
    let v := s.dev.svy
    let idle := v.conv = none ∧ v.predelay = false ∧ v.cal = none ∧ v.urgents = []
    let n0 := s.dev.fldAt 0x40010 0 24
    let nr := s.dev.fldAt 0x40014 0 24
    let code := fun (c : Conv) => clampI (-2097151) 2097151 (roundAway (1048576 * ((p : Rat) / (svyPeriods c.period v.hz60 : Rat)
      - (n0 : Rat) / 16777216) / ((((nr : Int) - (n0 : Int) : Int) : Rat) / 16777216)))
    (s.dev.serves 0x55 = true → flags = 0 → first.toNat + entries.length ≤ 32 → first.toNat ≤ 31 → length.toNat ≤ 32 →
      entries.all entryOk = true → ∃ d : Dev,
      exec (.surveySeq h flags first length entries) s = .next (s.withDev (d.answered 0x55 h stOk []))
        ∧ (∀ k, k < entries.length → d.reg (0x40100 + 4 * (first.toNat + k)) = nthD entries k 0)
        ∧ (∀ k, k < 32 → k < first.toNat ∨ first.toNat + entries.length ≤ k → d.reg (0x40100 + 4 * k) = s.dev.reg (0x40100 + 4 * k))
        ∧ d.fldAt 0x40008 0 6 = (if length = 0 then s.dev.fldAt 0x40008 0 6 else length.toNat)) ∧
    (s.dev.serves 0x56 = true →
      (channel.toNat ≤ 47 → idle → ∃ (d : Dev) (c : Conv),
        exec (.surveyUrgent h channel) s = .next (s.withDev (d.taken 0x56 [channel] h)) ∧ d = { s.dev with svy := d.svy }
          ∧ d.svy.conv = some c ∧ c.what = .urgent ∧ c.ch = channel.toNat ∧ c.start = s.dev.now
          ∧ d.svy.serving = some { ch := channel.toNat, cmds := [hostCmdOf 0x56 h] } ∧ d.svy.urgents = []) ∧
      (channel.toNat > 47 → exec (.surveyUrgent h channel) s = .next (s.withDev (s.dev.answered 0x56 h stBadParam [])))) ∧
    (s.dev.serves 0x57 = true →
      (idle → ∃ (d : Dev) (c : Conv), exec (.surveyCal h) s = .next (s.withDev (d.taken 0x57 [] h)) ∧ d = { s.dev with svy := d.svy }
        ∧ d.svy.conv = some c ∧ c.what = .cal ∧ c.ch = 47 ∧ d.svy.cal = some (hostCmdOf 0x57 h, 0, 0, 0, false)) ∧
      (v.cal.isSome = true → exec (.surveyCal h) s = .next (s.withDev (s.dev.answered 0x57 h stBusy [])))) ∧
    (idle → s.dev.fldAt aSvyCtrl 0 2 = 2 → v.single = false → ∃ d c, exec .singleGo s = .next (s.withDev d)
      ∧ d = { s.dev with regs := d.regs, svy := d.svy } ∧ d.bitAt aSvyCtrl 16 = true ∧ d.svy.single = true ∧ d.svy.conv = some c
      ∧ c.what = .single ∧ c.ch = s.dev.fldAt aSvyCtrl 8 6 ∧ c.period = s.dev.fldAt aSvyCtrl 14 2) ∧
    (s.dev.fldAt aSvyCtrl 0 2 ≠ 2 → exec .singleGo s = .next s) ∧
    (∀ m, (if m % 4 = 3 then 0 else m % 4) = s.dev.fldAt aSvyCtrl 0 2 → exec (.svyModeWrite m) s = .next s) ∧
    (∀ m, idle → m % 4 = 0 ∨ m % 4 = 3 → s.dev.fldAt aSvyCtrl 0 2 ≠ 0 → ∃ d, exec (.svyModeWrite m) s = .next (s.withDev d)
      ∧ d = { s.dev with regs := d.regs, svy := d.svy } ∧ d.fldAt aSvyCtrl 0 2 = 0 ∧ d.bitAt aSvyCtrl 16 = false
      ∧ d.svy.single = false ∧ d.svy.conv = none) ∧
    (∀ m, exec (.svyMainsWrite m) s = .next (s.withDev (s.dev.setFld aSvyCtrl 2 2 (if m % 4 = 3 then 0 else m % 4)))) ∧
    (∀ b, exec (.svyLowpwrWrite b) s = .next (s.withDev (s.dev.setFld aSvyCtrl 4 1 (if b then 1 else 0)))) ∧
    (∀ w, ∃ d, exec (.svyCalrefWrite w) s = .next (s.withDev d) ∧ d = { (s.dev.setFld 0x40014 0 24 w.toNat) with svy := d.svy }
      ∧ d.svy = { v with uncal := false }) ∧
    (v.conv = none → exec (.surveyConversionEnd p false) s = .next s) ∧
    (∀ c, v.conv = some c → n0 ≠ nr → c.ch ≤ 47 → v.cal = none → v.urgents = [] → v.predelay = false → s.dev.fldAt aSvyCtrl 0 2 ≠ 1 →
      let done := fun (d : Dev) => sxt 22 (d.fldAt (0x40300 + 8 * c.ch) 0 22) = code c ∧ d.fldAt (0x40300 + 8 * c.ch) 26 6 = c.ch
        ∧ d.bitAt (0x40300 + 8 * c.ch) 25 = true ∧ d.reg (0x40304 + 8 * c.ch) = BitVec.ofNat 32 (s.dev.now / 65536)
      (c.what = .single → ∃ d, exec (.surveyConversionEnd p false) s = .next (s.withDev d) ∧ done d ∧ d.svy.single = false
        ∧ d.bitAt aSvyCtrl 16 = false) ∧
      (∀ x ps, c.what = .urgent → s.dev = Dev.taken x 0x56 ps h → x.hl.linkReplies = [] → x.hl.stream = [] → v.single = false →
        v.serving = some { ch := c.ch, cmds := [hostCmdOf 0x56 h] } → ∃ d : Dev,
        exec (.surveyConversionEnd p false) s = .next (s.withDev (d.answered 0x56 h stOk
            (wordBytes (d.reg (0x40300 + 8 * c.ch)) ++ wordBytes (d.reg (0x40304 + 8 * c.ch)))))
          ∧ done d ∧ d.svy.serving = none)) ∧
    (∀ w, v.latched = some w → v.predelay = true → ∃ d c, exec .surveyPredelayEnd s = .next (s.withDev d)
      ∧ d = { s.dev with svy := d.svy } ∧ d.svy.predelay = false ∧ d.svy.conv = some c ∧ c.what = .seq ∧ c.ch = wfld w 0 6
      ∧ c.period = wfld w 29 2)

/-! ### The mullion and casement faults (R122 to R149) -/

/-- On a clocked device that is not BOLTED, the oldest message from `src`, once it has crossed the mesh to a casement `dst` that is up: DATA (not of the door) and
REQ_USER take the lowest free slot of the REQ ring, with their payload in its SRAM; CONTROL one of the CTL ring; a RSP of the
current generation stores its status and payload in its slot, or, where the slot is held for a forwarded product, is that
product's result and frees the slot; one of an older generation is dropped; CREDIT adds its count.
At the hinge, REG_RD answers the word read and REG_WR writes it. At a fenced casement the ghost counts the message, answers a
request with PARTNER_GONE, and nothing else changes.
Where the spec leaves it to a reading, this is the model's own, in log entries 49, 50 and 147. -/
def Obligations.MessagesReachTheirPartner : Prop :=
  ∀ (s : State) (src dst : Nat) (m : Msg), s.dev.clocked = true → s.dev.dbg.bolted = false → dst < 32 → src ≠ 37 →
    let k := s.dev.cas dst
    let net := s.dev.mul.net.erase m
    let enters := fun (i : Instr) => ∀ sl, freeSlot k.req 32 = some sl → ∃ d, exec i s = .next (s.withDev d)
      ∧ d = { s.dev with mul := { s.dev.mul with net := net }, csm := d.csm, dbg := d.dbg }
      ∧ s.dev.onlyCas d dst { k.store (0x34F00 + 512 * sl) m.payload with
          req := k.req ++ [{ slot := sl, src := src, len := m.len, typ := m.typ, tag := m.tag, ticket := m.ticket }] }
    let ghost := { (s.dev.satFld (aCsm dst 0x038) 0 16) with mul := { s.dev.mul with net := net } }
    (s.dev.ghosted dst = false →
      (s.dev.netHead src dst tyData = some m → enters (.data src dst)) ∧
      (s.dev.netHead src dst tyReqUser = some m → enters (.reqUser src dst)) ∧
      (∀ sl, s.dev.netHead src dst tyControl = some m → freeSlot k.ctl 8 = some sl → ∃ d,
        exec (.control src dst) s = .next (s.withDev d)
          ∧ d = { s.dev with mul := { s.dev.mul with net := net }, csm := d.csm }
          ∧ s.dev.onlyCas d dst { k.store (0x3AF00 + 512 * sl) m.payload with
              ctl := k.ctl ++ [{ slot := sl, src := src, len := m.len, typ := m.typ, tag := m.tag, ticket := m.ticket }] }) ∧
      (s.dev.netHead src dst tyRsp = some m → m.notify = false → m.tag < 256 →
        let r := k.rspAt (m.tag % 16)
        (r.busy = true → r.gen = m.tag / 16 → r.reply = none →
          (r.fire = none → k.wait = .none → ∃ d, exec (.rsp src dst false) s = .next (s.withDev d)
            ∧ d = { s.dev with mul := { s.dev.mul with net := net }, csm := d.csm }
            ∧ s.dev.onlyCas d dst ((k.store (0x38F00 + 512 * (m.tag % 16)) m.payload).setRsp
                (m.tag % 16) { r with reply := some (m.status, m.len) })) ∧
          (∀ id, r.fire = some id → ∃ d, exec (.rsp src dst false) s = .next (s.withDev d)
            ∧ d = { s.dev with mul := { s.dev.mul with net := net }, csm := d.csm }
            ∧ s.dev.onlyCas d dst { k.freeRsp (m.tag % 16) with fires := k.fires.map (fun f => if f.id = id then { f with
                result := some (if m.status = stOk then ProdResult.ofBytes m.status m.payload else refusedResult m.status) } else f) })) ∧
        (r.gen ≠ m.tag / 16 → exec (.rsp src dst false) s = .next (s.withDev { s.dev with mul := { s.dev.mul with net := net } }))) ∧
      (s.dev.netHead src dst tyCredit = some m → s.dev.mul.dispatch = [] →
        exec (.credit src dst) s = .next (s.withDev { s.dev with mul := { s.dev.mul with
          net := net
          credits := Tab.set (fun _ => 0) s.dev.mul.credits (64 * dst + src) (s.dev.credit dst src + uAt m.payload 0 1) } }))) ∧
    (s.dev.fenced dst = true →
      (s.dev.netHead src dst tyData = some m → m.notify = false → exec (.data src dst) s = .next (s.withDev ghost)) ∧
      (s.dev.netHead src dst tyReqUser = some m → exec (.reqUser src dst) s = .next (s.withDev
        { ghost with mul := { s.dev.mul with net := net ++ [rspTo m stPartnerGone []] } }))) ∧
    (∀ m, s.dev.netHead dst 32 tyRegRd = some m → s.dev.isOpen 0 = true → uAt m.payload 0 4 = 0x10018 →
      exec (.regRd dst 32) s = .next (s.withDev { s.dev with
        sys := { s.dev.sys with ftLatch := BitVec.ofNat 32 (s.dev.now / 2 ^ 32) }
        mul := { s.dev.mul with net := s.dev.mul.net.erase m ++ [rspTo m stOk (padTo 32 (leBytes 4 s.dev.now))] } })) ∧
    (∀ m, s.dev.netHead dst 32 tyRegWr = some m → s.dev.regOpen 0x10014 = true → uAt m.payload 0 4 = 0x10014 →
      let w := s.dev.reg 0x10014
      let v := wordOf (uAt m.payload 4 4)
      let sp := regSpec 0x10014
      exec (.regWr dst 32) s = .next (s.withDev { (s.dev.setReg 0x10014
          ((w &&& ~~~(sp.rw ||| sp.w1c)) ||| (v &&& sp.rw) ||| (w &&& sp.w1c &&& ~~~v) ||| (v &&& sp.w1s))) with
        mul := { s.dev.mul with net := s.dev.mul.net.erase m ++ [rspTo m stOk []] } })) ∧
    (s.dev.netHead src dst tyData = none → exec (.data src dst) s = .next s)

/-- A fault of a powered casement that is not fenced (a watchdog expiry, an uncorrectable fault, the host's fence) writes CAUSE,
sets the fence and stops the core; other casements keep all but products of tickets that end with it. In a closed quadrant the
host's fence is only a bit. The end of the drain, when the faults detected before have been reclaimed, empties rings, resets
the core, and leaves it FAILED, or, with AUTO_RESTART and fewer than three restarts in the last second, still fenced;
CASEMENT_RESTART then starts it at CSM_ENTRY and lifts the fence, but for a host fence of the same tick. CSM_CTRL.HALT halts a core between instructions and clearing it starts it at CSM_ENTRY; a
request that times out advances its slot's generation and frees it. A watchdog kick changes nothing, and is counted if it
falls on the tick of expiry.
Where the spec leaves it to a reading, this is the model's own, in log entries 42 and 59. -/
def Obligations.CasementFaultsAndRestarts : Prop :=
  ∀ (s : State) (c : Nat), c < 32 → s.dev.clocked = true →
    let k := s.dev.cas c
    let faults := fun (i : Instr) (cause : Nat) => ∃ d, exec i s = .next (s.withDev d)
      ∧ d.fldAt (aCsm c 0x014) 0 3 = cause ∧ d.fenced c = true ∧ (d.cas c).core = .fenced ∧ (d.cas c).drained = false
      ∧ (d.cas c).wait = .none ∧ (d.cas c).sram = k.sram
      ∧ (∀ c', c' ≠ c → ∃ q : Fire → Bool, d.cas c' = { s.dev.cas c' with fires := (s.dev.cas c').fires.filter q })
      ∧ ((∀ t, t < 128 → (s.dev.ticket t).live = false) → ∀ c', c' ≠ c → d.cas c' = s.dev.cas c')
      ∧ (∀ c', c' < 32 → c' ≠ c → d.fenced c' = s.dev.fenced c')
    (s.dev.isPowered (quadOf c) = false → exec (.hostFence c) s = .next (s.withDev (s.dev.setFld 0xA0000 c 1 1))) ∧
    (s.dev.isPowered (quadOf c) = true →
    (s.dev.fenced c = false →
      (∀ cause, 1 ≤ cause → cause ≤ 4 → faults (.casementFault c cause) cause) ∧ faults (.hostFence c) 4 ∧
      (s.dev.dbg.bolted = false → k.core = .running → s.dev.hartHalted c = false → s.dev.fldAt (aCsm c 0x00C) 0 16 ≠ 0 →
        faults (.casementWatchdogExpiry c) 1)) ∧
    (s.dev.fenced c = true → ∃ d, exec (.hostFence c) s = .next (s.withDev d) ∧ d = { s.dev with regs := d.regs }
      ∧ ∀ a, d.reg a = s.dev.reg a) ∧
    (∀ b, b ≠ c → s.dev.mul.faults = [(b, false), (c, false)] → exec (.fenceDrainEnd c) s = .next (s.withDev { s.dev with
      mul := { s.dev.mul with faults := [(b, false), (c, true)] } })) ∧
    (s.dev.mul.faults = [(c, false)] → ∃ d, exec (.fenceDrainEnd c) s = .next (s.withDev d) ∧ d.mul.faults = []
      ∧ (d.cas c).req = [] ∧ (d.cas c).ctl = [] ∧ (d.cas c).x = [] ∧ (d.cas c).csr = [] ∧ (d.cas c).fires = []
      ∧ (d.cas c).drained = true ∧ (∀ r, r < 16 → ((d.cas c).rspAt r).busy = false)
      ∧ (∀ o, 0x34F00 ≤ o → o < 0x3BF00 → Tab.get (fun _ => (0 : Byte)) (d.cas c).sram o = 0)
      ∧ (∀ o, o < 0x34F00 → Tab.get (fun _ => (0 : Byte)) (d.cas c).sram o = Tab.get (fun _ => 0) k.sram o)
      ∧ (d.cas c).core = (if s.dev.bitAt (aCsm c 0x000) 1 && (s.dev.recentRestarts c).length < 3 then .fenced else .failed)
      ∧ (∀ c', c' ≠ c → d.cas c' = s.dev.cas c')) ∧
    (k.core = .fenced → k.drained = true → s.dev.isOpen (quadOf c) = true → (∃ d,
      exec (.casementRestart ⟨c, true⟩) s = .next (s.withDev d) ∧ (d.cas c).core = .fenced ∧ d.fenced c = true) ∧ ∃ d,
      exec (.casementRestart ⟨c, false⟩) s = .next (s.withDev d)
      ∧ (d.cas c).core = .running ∧ (d.cas c).pc = s.dev.reg (aCsm c 0x008) ∧ d.fenced c = false ∧ d.bitAt (aCsm c 0x000) 0 = false
      ∧ (d.cas c).restarts = s.dev.recentRestarts c ++ [s.dev.now]) ∧
    (k.core = .failed → s.dev.isOpen (quadOf c) = true → ∃ d, exec (.csmCtrlRestart c) s = .next (s.withDev d) ∧ (d.cas c).core = .running
      ∧ (d.cas c).pc = s.dev.reg (aCsm c 0x008) ∧ (d.cas c).req = [] ∧ d.fenced c = false) ∧
    (k.core = .running → exec (.csmCtrlRestart c) s = .next s) ∧
    (k.core = .running → k.wait = .none → exec (.csmCtrlHalt c true) s = .next (s.withDev
      ((s.dev.setFld (aCsm c 0x000) 0 1 1).setCas c { k with core := .halted }))) ∧
    (k.core = .halted → s.dev.bitAt (aCsm c 0x000) 0 = true → ∃ d, exec (.csmCtrlHalt c false) s = .next (s.withDev d)
      ∧ d.bitAt (aCsm c 0x000) 0 = false ∧ (d.cas c).core = .running ∧ (d.cas c).pc = s.dev.reg (aCsm c 0x008)
      ∧ (d.cas c).x = k.x ∧ (∀ c', c' ≠ c → d.cas c' = s.dev.cas c')) ∧
    (∀ i, i < 16 → s.dev.dbg.bolted = false → (k.rspAt i).busy = true → (k.rspAt i).reply = none → s.dev.hartHalted c = false →
      k.wait = .none → (k.rspAt i).fire = none → exec (.requestTimeout c i) s = .next (s.withDev (s.dev.setCas c (k.setRsp i
        { gen := ((k.rspAt i).gen + 1) % 16, busy := false, reply := none })))) ∧
    exec (.csmWdtKick c false) s = .next s ∧
    (k.core = .running → s.dev.fldAt (aCsm c 0x00C) 0 16 ≠ 0 →
      exec (.csmWdtKick c true) s = .next (s.withDev (s.dev.satFld (aCsm c 0x01C) 16 16))))

/-! ### Jamb and deadbolt (R432 to R482, R578, R581, R582) -/

/-- Without flipped groups. JAMB_READ answers the bytes of a page, or whole pages, and changes no register. JAMB_WRITE opens the
buffer with 64 bytes, or lays bytes over an open one; another page is NVM_BUSY, one the host may not write NVM_LOCKED. JAMB_COMMIT
starts the commit of the open buffer; DISCARD frees it with LAST 3; JAMB_LOCK commits the lock of page 255. A good commit makes
the page read the buffer's bytes and page 0 its journal copy, changes no other page, and answers OK; a failed read-back
answers NVM_UNCORRECTABLE with LAST 2. An idle controller starts the oldest device commit and saves the buffer.
Where the spec leaves it to a reading, this is the model's own, in log entries 7, 9 and 126. -/
def Obligations.JambPagesAndCommits : Prop :=
  ∀ (s : State) (h : CmdHdr) (page off : Byte) (n : Half) (data : List Byte), s.dev.jamb.flips = [] →
    let j := s.dev.jamb
    let p := page.toNat
    let o := off.toNat
    (s.dev.serves 0x70 = true →
      (1 ≤ n.toNat → o + n.toNat ≤ 64 → ∃ d : Dev, exec (.jambRead h page off n) s = .next (s.withDev (d.answered 0x70 h stOk
          (bytesAt (j.readPage p) o n.toNat))) ∧ d = { s.dev with regs := d.regs } ∧ ∀ a, d.reg a = s.dev.reg a) ∧
      (∀ k, o = 0 → n.toNat = 64 * k → 2 ≤ k → k ≤ 62 → p + k ≤ 256 → (∀ c, j.commit = some c → c.data.length ≤ 64) → ∃ d : Dev,
        exec (.jambRead h page off n) s = .next (s.withDev (d.answered 0x70 h stOk
          (((List.range k).map (fun i => j.readPage (p + i))).flatten)))
          ∧ d = { s.dev with regs := d.regs } ∧ ∀ a, d.reg a = s.dev.reg a) ∧
      (o ≠ 0 → o + n.toNat > 64 → exec (.jambRead h page off n) s = .next (s.withDev (s.dev.answered 0x70 h stBadParam [])))) ∧
    (s.dev.serves 0x71 = true → 1 ≤ data.length → o + data.length ≤ 64 →
      (j.hostPage p = true → j.busy = false → j.buf = none → data.length = 64 →
        exec (.jambWrite h page off data) s = .next (s.withDev (Dev.answered { s.dev with jamb := { j with buf := some (p, data) } }
          0x71 h stOk []))) ∧
      (∀ bs, j.hostPage p = true → j.busy = false → j.buf = some (p, bs) →
        exec (.jambWrite h page off data) s = .next (s.withDev (Dev.answered { s.dev with jamb := { j with
          buf := some (p, bs.take o ++ data ++ bs.drop (o + data.length)) } } 0x71 h stOk []))) ∧
      (∀ q bs, j.hostPage p = true → j.busy = false → j.buf = some (q, bs) → q ≠ p →
        exec (.jambWrite h page off data) s = .next (s.withDev (s.dev.answered 0x71 h stNvmBusy []))) ∧
      (j.hostPage p = false → exec (.jambWrite h page off data) s = .next (s.withDev (s.dev.answered 0x71 h stNvmLocked [])))) ∧
    (s.dev.serves 0x72 = true → j.hostPage p = true → j.busy = false →
      (∀ bs, j.buf = some (p, bs) →
        (j.devQueue = [] → exec (.jambCommit h page) s = .next (s.withDev (Dev.taken { s.dev with jamb := { j with
          buf := none
          commit := some { page := p, data := bs, owner := .host (some (hostCmdOf 0x72 h)), saved := none, savedLost := false } } }
            0x72 [page, 0] h))) ∧
        exec (.jambCommitDiscard h page) s = .next (s.withDev (Dev.answered { s.dev with jamb := { j with buf := none, last := 3 } }
          0x72 h stOk []))) ∧
      (j.buf = none → exec (.jambCommitDiscard h page) s = .next (s.withDev (s.dev.answered 0x72 h stBadParam [])) ∧
        (j.devQueue = [] → exec (.jambCommit h page) s = .next (s.withDev (s.dev.answered 0x72 h stBadParam []))))) ∧
    (s.dev.serves 0x73 = true →
      (p = 255 → j.lockSeen = false → j.busy = false → j.buf = none →
        exec (.jambLock h page) s = .next (s.withDev (Dev.taken { s.dev with jamb := { j with
          commit := some { page := 255, data := [], owner := .lock (some (hostCmdOf 0x73 h)), saved := none, savedLost := false } } }
            0x73 [page] h))) ∧
      (p = 255 → j.lockSeen = true → exec (.jambLock h page) s = .next (s.withDev (s.dev.answered 0x73 h stNvmLocked []))) ∧
      (p ≠ 255 → exec (.jambLock h page) s = .next (s.withDev (s.dev.answered 0x73 h stBadParam [])))) ∧
    (∀ x ps, s.dev = Dev.taken x 0x72 ps h → s.dev.clocked = true → x.hl.linkReplies = [] → x.hl.stream = [] → data.length = 64 →
      j.commit = some { page := p, data := data, owner := .host (some (hostCmdOf 0x72 h)), saved := none, savedLost := false } →
      (∃ d : Dev, exec (.jambCommitComplete true) s = .next (s.withDev (d.answered 0x72 h stOk []))
        ∧ d.jamb.page p = data ∧ (p ≠ 0 → d.jamb.page 0 = data) ∧ (∀ q, q ≠ p → q ≠ 0 → d.jamb.page q = j.page q)
        ∧ d.jamb.commit = none ∧ d.jamb.marker = .clear ∧ d.jamb.last = 1 ∧ d.jamb.commits = j.commits + 1 ∧ d.jamb.buf = j.buf) ∧
      (∃ d : Dev, exec (.jambCommitComplete false) s = .next (s.withDev (d.answered 0x72 h stNvmUncorrectable []))
        ∧ d.jamb.commit = none ∧ d.jamb.last = 2 ∧ ∀ q, q ≠ p → q ≠ 0 → d.jamb.page q = j.page q)) ∧
    (∀ job rest, s.dev.clocked = true → j.busy = false → j.devQueue = job :: rest → ∃ d : Dev,
      exec .deviceCommitStart s = .next (s.withDev d) ∧ d = { s.dev with regs := d.regs, jamb := { j with
        devQueue := rest, buf := none
        commit := some { page := j.jobPage job, data := j.jobData job, owner := .dev job, saved := j.buf, savedLost := false } } }
      ∧ ∀ a, d.reg a = s.dev.reg a) ∧
    (j.busy = true ∨ j.devQueue = [] → exec .deviceCommitStart s = .next s)

/-- Where neither an alarm nor a seal forbids it: GENERATE stores a private scalar and its public key and answers the public key;
WRITE_IMAGE stores a point of the curve (another is BAD_PARAM), WRITE_FABRIC and WRITE_STACK 16 bytes, CLEAR zeros, and no other
key byte changes; READ_PUBLIC answers a present key, KEYS_ABSENT otherwise. SEAL with the image key's hash starts the burn,
whose end sets all three seal bits and answers; a sealed device denies it. A sealed device lowers no tamper policy. A challenge
request answers its 64-byte block and leaves it outstanding, ATTEST signs one, an answer starts the verification; a session
drops, a challenge expires after 327,680 periods. ALARM_CLEAR of an unsealed device clears the latch, unless a source holds it.
Where the spec leaves it to a reading, this is the model's own, in log entries 4, 12 and 13. -/
def Obligations.KeysSealAndChallenges : Prop :=
  ∀ (s : State) (h : CmdHdr) (slot purpose : Byte) (key hash nonce sig : List Byte) (policy : Half),
    let keyFrame := fun (d : Dev) (lo n : Nat) => ∀ a, a < lo ∨ lo + n ≤ a →
      Tab.get (fun _ => (0 : Byte)) d.lin.keys a = Tab.get (fun _ => 0) s.dev.lin.keys a
    let stores := fun (i : Instr) (lo : Nat) (bs : List Byte) => ∃ d : Dev,
      exec i s = .next (s.withDev (d.answered 0x90 h stOk [])) ∧ d = { s.dev with lin := { s.dev.lin with keys := d.lin.keys } }
        ∧ d.keyBytes lo bs.length = bs ∧ keyFrame d lo bs.length
    (s.dev.serves 0x90 = true → s.dev.keyGate = none →
      (∃ (d : Dev) (pub : List Byte), exec (.keyProvisionGenerate h 0) s = .next (s.withDev (d.answered 0x90 h stOk pub))
        ∧ pub.length = 64 ∧ d = { s.dev with lin := { s.dev.lin with keys := d.lin.keys }, free := s.dev.free + 1 }
        ∧ d.keyBytes 0x020 64 = pub ∧ keyFrame d 0 96) ∧
      (key.length = 16 → stores (.keyProvisionWriteFabric h 0 key) 0x0A0 key ∧ stores (.keyProvisionWriteStack h 0 key) 0x0B0 key) ∧
      stores (.keyProvisionClear h 0) 0 (List.replicate 96 0) ∧ stores (.keyProvisionClear h 1) 0x060 (List.replicate 64 0) ∧
      stores (.keyProvisionClear h 2) 0x0A0 (List.replicate 16 0) ∧ stores (.keyProvisionClear h 3) 0x0B0 (List.replicate 16 0) ∧
      (slot.toNat > 3 → exec (.keyProvisionClear h slot) s = .next (s.withDev (s.dev.answered 0x90 h stBadParam [])))) ∧
    (s.dev.serves 0x90 = true → key.length = 64 →
      (s.dev.db.sealed = false → p256On (keyPoint key) = true → stores (.keyProvisionWriteImage h 0 key) 0x060 key) ∧
      (s.dev.db.sealed = false → p256On (keyPoint key) = false →
        exec (.keyProvisionWriteImage h 0 key) s = .next (s.withDev (s.dev.answered 0x90 h stBadParam []))) ∧
      (s.dev.db.sealed = true → sha256 key ≠ s.dev.db.hash →
        exec (.keyProvisionWriteImage h slot key) s = .next (s.withDev (s.dev.answered 0x90 h stSecurityDenied [])))) ∧
    (s.dev.serves 0x90 = true →
      exec (.keyProvisionReadPublic h 1) s = .next (s.withDev (if s.dev.hasImgKey then s.dev.answered 0x90 h stOk (s.dev.keyBytes 0x060 64)
        else s.dev.answered 0x90 h stKeysAbsent [])) ∧
      exec (.keyProvisionReadPublic h 0) s = .next (s.withDev (if s.dev.hasDevKey then s.dev.answered 0x90 h stOk (s.dev.keyBytes 0x020 64)
        else s.dev.answered 0x90 h stKeysAbsent []))) ∧
    (s.dev.serves 0x91 = true →
      (s.dev.db.sealed = false → s.dev.inAlarm = false → hash.length = 32 → s.dev.hasDevKey = true → s.dev.hasImgKey = true →
        sha256 (s.dev.keyBytes 0x060 64) = hash → s.dev.db.burning = none → exec (.seal h hash) s = .next (s.withDev
          (Dev.taken { s.dev with db := { s.dev.db with burning := some (hostCmdOf 0x91 h, hash) } } 0x91 hash h))) ∧
      (s.dev.db.sealed = true → exec (.seal h hash) s = .next (s.withDev (s.dev.answered 0x91 h stSecurityDenied [])))) ∧
    (∀ x ps, s.dev = Dev.taken x 0x91 ps h → x.hl.linkReplies = [] → x.hl.stream = [] → s.dev.db.burnCut = none →
      s.dev.db.burning = some (hostCmdOf 0x91 h, hash) → hash.length = 32 → s.fuses.hash = [] → ∃ (d : Dev) (f : Fuses),
      exec .sealBurnComplete s = .next { s with fuses := f, dev := d.answered 0x91 h stOk [] }
        ∧ f = { seal0 := true, seal1 := true, seal2 := true, hash := hash }
        ∧ d = { s.dev with db := { s.dev.db with burning := none, sealed := true, hash := hash } }) ∧
    (s.dev.db.burning = none → exec .sealBurnComplete s = .next s) ∧
    (s.dev.serves 0x92 = true →
      (s.dev.db.sealed = false → exec (.tamperPolicy h policy) s = .next (s.withDev (Dev.answered { s.dev with lin := { s.dev.lin with
        policy := policy.toNat } } 0x92 h stOk []))) ∧
      (∀ i, i < 8 → s.dev.db.sealed = true → fld policy.toNat (2 * i) 2 < fld s.dev.lin.policy (2 * i) 2 →
        exec (.tamperPolicy h policy) s = .next (s.withDev (s.dev.answered 0x92 h stSecurityDenied [])))) ∧
    (s.dev.serves 0x93 = true → s.dev.db.sealed = false →
      (s.dev.alarmHeld = false → ∃ d : Dev, exec (.alarmClear h []) s = .next (s.withDev (d.answered 0x93 h stOk []))
        ∧ d.lin = { s.dev.lin with alarm := false, latched := 0, erased := false } ∧ d.db = s.dev.db) ∧
      (s.dev.alarmHeld = true →
        exec (.alarmClear h []) s = .next (s.withDev (s.dev.answered 0x93 h stAlarmActive (leBytes 4 s.dev.dbStatus))))) ∧
    (s.dev.serves 0x94 = true → s.dev.inAlarm = false →
      (purpose = 1 ∨ purpose = 2 → ∃ (d : Dev) (b : List Byte),
        exec (.authChallengeRequest h purpose) s = .next (s.withDev (d.answered 0x94 h stOk b)) ∧ b.length = 64
          ∧ d = { s.dev with db := { s.dev.db with challenge := some (purpose.toNat, b, s.dev.lin.rtc) }, free := s.dev.free + 1 }
          ∧ uAt b 3 1 = purpose.toNat ∧ uAt b 4 12 = Config.uid.toNat) ∧
      (nonce.length = 32 → s.dev.hasDevKey = true → ∃ (d : Dev) (b : List Byte),
        exec (.authChallengeAttest h nonce) s = .next (s.withDev (d.answered 0x94 h stOk b)) ∧ b.length = 128
          ∧ bytesAt b 32 32 = nonce ∧ d = { s.dev with db := { s.dev.db with challenge := none }, free := s.dev.free + 1 }) ∧
      (∀ blk t, sig.length = 64 → s.dev.db.challenge = some (2, blk, t) →
        (s.dev.lin.rtc ≤ t + 327680 → s.dev.hasImgKey = true → exec (.authChallengeAnswer h sig) s = .next (s.withDev
          (Dev.taken { s.dev with db := { s.dev.db with
            challenge := none
            verifs := s.dev.db.verifs ++ [{ cmd := hostCmdOf 0x94 h, purpose := .privilege, digest := sha256 blk, sig := sig }] } }
              0x94 ([1, 0] ++ sig) h))) ∧
        (t + 327680 < s.dev.lin.rtc → exec (.authChallengeAnswer h sig) s = .next (s.withDev
          (Dev.answered { s.dev with db := { s.dev.db with challenge := none } } 0x94 h stSecurityDenied [])))) ∧
      (sig.length = 64 → s.dev.db.challenge = none →
        exec (.authChallengeAnswer h sig) s = .next (s.withDev (s.dev.answered 0x94 h stSecurityDenied [])))) ∧
    (∀ p blk t, s.dev.clocked = true → s.dev.db.challenge = some (p, blk, t) →
      (t + 327680 ≤ s.dev.lin.rtc → exec .challengeExpiry s = .next (s.withDev { s.dev with db := { s.dev.db with challenge := none } })) ∧
      (s.dev.lin.rtc < t + 327680 → exec .challengeExpiry s = .next s)) ∧
    (s.dev.clocked = true → exec .dbCtrlDrop s = .next (s.withDev { s.dev with db := { s.dev.db with privileged := false } }))

/-! ### Debug (R483 to R507, R579, R580) -/

/-- BOLT (cause 1), a TRIG pin in bolt mode (5), BOLT_IO while DBG_CTRL lets it (3) enter BOLTED with the frame time and the cause;
UNBOLT drops the own cause and answers DBG_BOLT; BOLT_QUIET marks quiescence; BOLT_RELEASE leaves BOLTED unless the device
drives the line or has an own cause. LATCH_SET replaces one point. DUMP_TENSOR arms a dump, which CANCEL ends with both answers.
COUNTERS_READ answers the counters, and zeroes them if asked. A histogram sample counts one bucket and keeps the highest. A mark
enters an enabled trace, before the records of its tick with a higher source; the oldest record goes to the next 16 bytes of the trace region.
Where the spec leaves it to a reading, this is the model's own, in log entries 141, 142, 157, 158, 159, 160 and 161. -/
def Obligations.BoltsLatchesAndTrace : Prop :=
  ∀ (s : State) (h h1 : CmdHdr) (hart index mtch actions slot flags : Byte) (count symbol : Half) (value mask step ctrl : Word)
    (ids : List Half),
    let b := s.dev.dbg
    let bolts := fun (x d : Dev) (cause : Nat) => d.dbg.bolted = true ∧ d.dbg.quiet = false ∧ d.dbg.cause = cause
      ∧ d.dbg.ownCause = (cause != 3) ∧ d.dbg.boltFt = x.sys.ft ∧ d.mdl = x.mdl ∧ d.panes = x.panes ∧ d.csm = x.csm ∧ d.mul = x.mul
    (b.bolted = false →
      (s.dev.serves 0x80 = true → ∃ d : Dev, exec (.bolt h) s = .next (s.withDev (d.answered 0x80 h stOk [])) ∧ bolts s.dev d 1) ∧
      (∀ p, p < 2 → s.dev.clocked = true → s.dev.trigMode p = 1 → ∃ d, exec (.trigBolt p) s = .next (s.withDev d) ∧ bolts s.dev d 5) ∧
      (s.dev.clocked = true → s.dev.bitAt 0xC0000 0 = true → ∃ d, exec .boltIoLow s = .next (s.withDev d) ∧ bolts s.dev d 3 ∧ d.dbg.lineLow = true)) ∧
    (∀ p, s.dev.trigMode p ≠ 1 → exec (.trigBolt p) s = .next s) ∧
    (s.dev.bitAt 0xC0000 0 = false → exec .boltIoLow s = .next (s.withDev { s.dev with dbg := { b with lineLow := true } })) ∧
    (s.dev.serves 0x81 = true → exec (.unbolt h) s = .next (s.withDev (Dev.answered { s.dev with dbg := { b with ownCause := false } }
      0x81 h stOk (wordBytes (Dev.dbgBolt { s.dev with dbg := { b with ownCause := false } }))))) ∧
    (s.dev.clocked = true → exec .boltQuiet s = .next (s.withDev { s.dev with dbg := { b with quiet := b.bolted } })) ∧
    (s.dev.driving = true → exec .boltRelease s = .next s) ∧
    (s.dev.driving = false → b.bolted = false ∨ b.ownCause = true →
      exec .boltRelease s = .next (s.withDev { s.dev with dbg := { b with lineLow := false } })) ∧
    (s.dev.clocked = true → b.bolted = true → b.ownCause = false → ∃ d, exec .boltRelease s = .next (s.withDev d) ∧ d.dbg.bolted = false
      ∧ d.dbg.quiet = false ∧ d.dbg.cause = 0 ∧ d.dbg.lineLow = false) ∧
    (s.dev.serves 0x82 = true → let k := 4 * hart.toNat + index.toNat
      (latchOk hart index mtch actions count = true → exec (.latchSet h hart index mtch actions count value mask step) s = .next
        (s.withDev (Dev.answered { s.dev with dbg := { b with points := b.points.filter (fun e => e.1 != k) ++ (if mtch = 0 then [] else
          [(k, { mtch := mtch.toNat, actions := actions.toNat, count := count.toNat, seen := 0, armed := true, value := value
                 mask := mask, step := step })]) } } 0x82 h stOk []))) ∧
      (hart.toNat > 32 ∨ index.toNat > 3 ∨ mtch.toNat > 5 →
        exec (.latchSet h hart index mtch actions count value mask step) s = .next (s.withDev (s.dev.answered 0x82 h stBadParam [])))) ∧
    (s.dev.serves 0x83 = true → slot.toNat ≤ 15 →
      (∀ e, (s.dev.slot slot.toNat).st = .started → (s.dev.slot slot.toNat).symbol symbol.toNat = some e →
        (step - BitVec.ofNat 32 (s.dev.slot slot.toNat).step).toNat < 2 ^ 31 → b.dumps.length < 4 → ∃ x,
        exec (.dumpTensorArm h slot symbol step) s = .next (s.withDev (Dev.taken { s.dev with dbg := { b with dumps := b.dumps ++ [x] } }
          0x83 ([0, slot] ++ leBytes 2 symbol.toNat ++ wordBytes step) h)) ∧ x.cmd = hostCmdOf 0x83 h ∧ x.slot = slot.toNat
          ∧ x.symbol = symbol.toNat ∧ x.step = step.toNat ∧ x.seen = 0) ∧
      ((s.dev.slot slot.toNat).st ≠ .started →
        exec (.dumpTensorArm h slot symbol step) s = .next (s.withDev (s.dev.answered 0x83 h stBusy []))) ∧
      (b.dumps = [] → exec (.dumpTensorCancel h slot symbol step) s = .next (s.withDev (s.dev.answered 0x83 h stBadParam [])))) ∧
    (∀ y ps x, s.dev = Dev.taken y 0x83 ps h1 → y.serves 0x83 = true → h1.tag ≠ h.tag → b.dumps = [x] → x.cmd = hostCmdOf 0x83 h1 →
      x.slot = slot.toNat → x.symbol = symbol.toNat → x.step = step.toNat → ∃ d,
      exec (.dumpTensorCancel h slot symbol step) s = .next (s.withDev d) ∧ d.dbg.dumps = [] ∧ d.hl.slots = []
        ∧ d.hl.stream = [{ bytes := replyPacket 0x83 h1.tag stOk [], flagged := h1.notify, verdict := false },
                         { bytes := replyPacket 0x83 h.tag stOk [], flagged := h.notify, verdict := false }]) ∧
    (s.dev.serves 0x84 = true → s.dev.closed = false → 1 ≤ ids.length → ids.length ≤ 64 → (∀ i ∈ ids, isCounter i.toNat = true) →
      let data := (ids.map (fun i => s.dev.counterEntry i.toNat)).flatten
      exec (.countersRead h 0 ids) s = .next (s.withDev (s.dev.answered 0x84 h stOk data)) ∧
      ∃ d : Dev, exec (.countersRead h 1 ids) s = .next (s.withDev (d.answered 0x84 h stOk data))
        ∧ d = { s.dev with dbg := { b with counters := d.dbg.counters }, mul := { s.dev.mul with edgeGhost := d.mul.edgeGhost } }
        ∧ (∀ i ∈ ids, ∀ v ∈ d.counterWords i.toNat, v = 0)
        ∧ ∀ i w, w < 16 → (∀ j ∈ ids, j.toNat ≠ i) → d.counter i w = s.dev.counter i w) ∧
    (s.dev.serves 0x85 = true → ctrl &&& 0xFC00FFFC = 0 → flags.toNat ≤ 1 →
      (wbit ctrl 0 = false ∨ s.dev.tableInTrace = false → exec (.traceConfig h ctrl flags) s = .next (s.withDev (Dev.answered
        { (s.dev.setReg 0xC0010 ctrl) with dbg := if flags = 1 then
          { b with traceNext := 0, traceWrapped := false, traceFull := false, traceDropped := 0 } else b } 0x85 h stOk []))) ∧
      (wbit ctrl 0 = true → s.dev.tableInTrace = true →
        exec (.traceConfig h ctrl flags) s = .next (s.withDev (s.dev.answered 0x85 h stBusy [])))) ∧
    (s.dev.clocked = true → b.bolted = false → ∃ d, exec .histogramSample s = .next (s.withDev d) ∧ d = { s.dev with dbg := d.dbg }
      ∧ (let k := bucketOf s.dev.mdl.resq.length 256
         d.counter 0x41 k = satInc 32 (s.dev.counter 0x41 k) ∧ (∀ j, j < 8 → j ≠ k → d.counter 0x41 j = s.dev.counter 0x41 j))
      ∧ d.counter 0x41 8 = max (s.dev.counter 0x41 8) s.dev.mdl.resq.length) ∧
    (∀ v : Nat, s.dev.clocked = true → s.dev.bitAt 0xC0010 0 = true → s.dev.bitAt 0xC0010 24 = true → b.traceFull = false →
      s.dev.isOpen 4 = true → b.fifo.length < 8 →
      let r := leBytes 6 s.dev.now ++ [38, 9] ++ (leBytes 2 v ++ zeros 6)
      let t := s.withDev { s.dev with dbg := { b with fifo := traceInsert r b.fifo } }
      (∀ w : Word, wfld w 0 16 = v → s.dev.closed = false → exec (.traceMark w) s = .next t) ∧
      (∀ p, p < 2 → s.dev.trigMode p = 2 → exec (.trigMark p v) s = .next t)) ∧
    (∀ w, s.dev.bitAt 0xC0010 0 = false → exec (.traceMark w) s = .next s) ∧
    (∀ r rest, s.dev.clocked = true → b.bolted = false → b.fifo = r :: rest → r.length = 16 → s.dev.bitAt 0xC0010 0 = true →
      s.dev.sill.clearing = false → s.dev.isOpen 4 = true → b.traceFull = false → b.traceNext < 65535 → ∃ d, exec .traceRecordWrite s = .next (s.withDev d)
        ∧ d = { s.dev with sill := d.sill, dbg := { b with fifo := rest, traceNext := b.traceNext + 1 } }
        ∧ (∀ k, k < 16 → d.sill.byteAt (0x1F00000 + 16 * b.traceNext + k) = nthD r k 0)
        ∧ (∀ a, a < 0x1F00000 + 16 * b.traceNext ∨ 0x1F00000 + 16 * b.traceNext + 16 ≤ a →
            Tab.get (fun _ => (0 : Byte)) d.sill.mem a = Tab.get (fun _ => 0) s.dev.sill.mem a)) ∧
    (b.bolted = false → b.fifo = [] → exec .traceRecordWrite s = .next s)

/-- TAP_RESET selects IDCODE, and IDCODE shifts out version, part and maker; BYPASS its bit; SAMPLE/PRELOAD the pins, loading the
boundary latches. On a closed device EXTEST, DTMCS, DMI, SCAN_STATE, BOLT_REQ and the debug module's requests shift out a zero and
only load the instruction register. On an open one EXTEST drives its latches; DMI reads and writes the abstract data; a halt
request halts its hart and no other, a resume request lets it run; Access Register reads and writes one register of a halted
casement hart and is an error on a running one; Access Memory its SRAM bytes; SCAN_STATE steps through the stream while
BOLTED and shifts out zeros otherwise; BOLT_REQ bolts with cause 2 or drops the own cause.
Where the spec leaves it to a reading, this is the model's own, in log entries 162, 163, 164, 165, 166 and 167. -/
def Obligations.JtagPort : Prop :=
  ∀ (s : State) (c r shift inputs : Nat) (tdi : Bool) (a v : Word), c < 32 → r < 32 →
    let j := s.dev.dbg.jtag
    let jt := fun (k : JtagState) => { s.dev with dbg := { s.dev.dbg with jtag := k } }
    let ir := fun (code : Nat) => { j with ir := code, extest := false, scanPos := if j.ir = code then j.scanPos else 0 }
    exec .tapReset s = .next (s.withDev (jt (ir 1))) ∧
    exec .idcode s = .next (s.withDev (jt { ir 1 with tdo := Config.silicon.toNat * 2 ^ 28 + 0x2410 * 2 ^ 12 + 0x5B7 * 2 + 1 })) ∧
    exec (.bypass tdi) s = .next (s.withDev (jt { ir 0x3F with tdo := if tdi then 1 else 0 })) ∧
    (∃ n, exec (.samplePreload shift inputs) s = .next (s.withDev { jt { ir 2 with tdo := n, boundary := shift % 2 ^ 147 } with
        free := s.dev.free + 1 }) ∧ ∀ i, i < 49 → bitOf n (3 * i) = bitOf inputs i) ∧
    (s.dev.db.sealed = true → s.dev.db.privileged = false →
      ∀ e ∈ [(Instr.extest shift inputs, 0), (.dtmcs v, 0x10), (.dmi 2 0x10 v, 0x11), (.dmHaltRequest c, 0x11), (.dmResume c, 0x11),
        (.accessRegister c 0x1001 true v, 0x11), (.accessMemory c a 2 true v, 0x11), (.scanState, 0x20), (.boltReq, 0x21),
        (.boltReqUnbolt, 0x21)], exec e.1 s = .next (s.withDev (jt { ir e.2 with tdo := 0 }))) ∧
    (s.dev.db.sealed = false ∨ s.dev.db.privileged = true →
      (∃ n, exec (.extest shift inputs) s = .next (s.withDev (jt { ir 0 with tdo := n, boundary := shift % 2 ^ 147, extest := true }))
        ∧ ∀ i, i < 49 → bitOf n (3 * i) = bitOf inputs i ∧ bitOf n (3 * i + 1) = bitOf j.boundary (3 * i + 1)
          ∧ bitOf n (3 * i + 2) = bitOf j.boundary (3 * i + 2)) ∧
      exec (.dtmcs v) s = .next (s.withDev (jt { ir 0x10 with tdo := 0x71 + Config.dtmIdle % 8 * 4096 })) ∧
      (let out := j.dmiAddr.toNat * 2 ^ 34 + j.dmiData.toNat * 4
       exec (.dmi 0 0x04 v) s = .next (s.withDev (jt { ir 0x11 with tdo := out })) ∧
       exec (.dmi 1 0x04 v) s = .next (s.withDev (jt { ir 0x11 with tdo := out, dmiData := j.data0, dmiAddr := 0x04 })) ∧
       (wbit j.dmcontrol 0 = true →
         exec (.dmi 2 0x04 v) s = .next (s.withDev (jt { ir 0x11 with tdo := out, data0 := v, dmiData := v, dmiAddr := 0x04 })))) ∧
      (s.dev.clocked = true → s.dev.isPowered (quadOf c) = true → ∃ d, exec (.dmHaltRequest c) s = .next (s.withDev d) ∧ d.hartHalted c = true
        ∧ (∀ h, h ≤ 32 → h ≠ c → d.hartHalted h = s.dev.hartHalted h) ∧ d.regs = s.dev.regs ∧ d.mdl = s.dev.mdl) ∧
      (s.dev.clocked = true → s.dev.hartHalted c = true → ∃ d, exec (.dmResume c) s = .next (s.withDev d) ∧ d.hartHalted c = false
        ∧ (∀ h, h ≤ 32 → h ≠ c → d.hartHalted h = s.dev.hartHalted h) ∧ bitOf d.dbg.jtag.resumeAck c = true ∧ d.csm = s.dev.csm) ∧
      (s.dev.clocked = true → s.dev.hartHalted c = true →
        exec (.accessRegister c (0x1000 + r) false v) s = .next (s.withDev (jt { ir 0x11 with data0 := (s.dev.cas c).xr r })) ∧
        (∃ d, exec (.accessRegister c (0x1000 + r) true v) s = .next (s.withDev d)
          ∧ d = { jt (ir 0x11) with csm := d.csm } ∧ s.dev.onlyCas d c ((s.dev.cas c).setX r v)) ∧
        (a.toNat % 4 = 0 → 0x80000000 ≤ a.toNat → a.toNat < 0x80034F00 →
          exec (.accessMemory c a 2 false v) s = .next (s.withDev (jt { ir 0x11 with
            data0 := BitVec.ofNat 32 (leNat (s.dev.sramBytes c (a.toNat - 0x80000000) 4)) })) ∧
          ∃ d, exec (.accessMemory c a 2 true v) s = .next (s.withDev d) ∧ d = { jt (ir 0x11) with csm := d.csm }
            ∧ s.dev.onlyCas d c ((s.dev.cas c).store (a.toNat - 0x80000000) (leBytes 4 v.toNat)))) ∧
      (s.dev.clocked = true → s.dev.hartHalted c = false →
        exec (.accessRegister c (0x1000 + r) false v) s = .next (s.withDev (jt { ir 0x11 with cmderr := 4 })) ∧
        exec (.accessMemory c a 2 true v) s = .next (s.withDev (jt { ir 0x11 with cmderr := 4 }))) ∧
      (s.dev.dbg.bolted = false → exec .scanState s = .next (s.withDev (jt { ir 0x20 with tdo := 0 })) ∧
        (s.dev.clocked = true → ∃ d, exec .boltReq s = .next (s.withDev d) ∧ d.dbg.bolted = true ∧ d.dbg.cause = 2 ∧ d.dbg.ownCause = true
          ∧ d.dbg.boltFt = s.dev.sys.ft ∧ d.dbg.jtag = ir 0x21)) ∧
      (s.dev.dbg.bolted = true → j.ir ≠ 0x20 →
        exec .scanState s = .next (s.withDev (jt { ir 0x20 with tdo := 0x800, scanPos := 1 }))) ∧
      exec .boltReqUnbolt s = .next (s.withDev { s.dev with dbg := { s.dev.dbg with ownCause := false, jtag := ir 0x21 } }))

/-! ### The stack link (R398 to R414, R573) -/

/-- On a device with its clock, a good unauthenticated frame on an open port whose replay buffer is empty is counted. HEARTBEAT of
the master gives a standby its issued steps; CREDIT returns credits of each VC, at most 16; a SYNC request is answered with its
time and two of this device's; an answer keeps the better of its round and the best before and asks again, and the 16th round
records the offset to the partner; TRAIN of another STACK_ID names the port's partner, the first one is answered by TRAIN and
begins the SYNC rounds, a higher generation is adopted and ends a mastership, and a TRAIN of this device's own STACK_ID sets
ID_CONFLICT and leaves the port in training.
Where the spec leaves it to a reading, this is the model's own, in log entries 5, 94 and 95. -/
def Obligations.UnsequencedFramesArrive : Prop :=
  ∀ (s : State) (f : StkHdr), s.dev.clocked = true → s.dev.isOpen 5 = true → f.port < 3 → f.good = true → f.auth = false →
    (s.dev.port f.port).replay = [] →
    let p := f.port
    let q := s.dev.port p
    let x := s.dev.incCounter (0x61 + 2 * p)
    let sends := fun (i : Instr) (y : Dev) (k : StkPort) (typ : Nat) (payload : List Byte) => ∃ d g, exec i s = .next (s.withDev d)
      ∧ d = { y with stk := { y.stk with ports := d.stk.ports }, dbg := (y.incCounter (0x60 + 2 * p)).dbg }
      ∧ d.port p = { k with lastTx := some g, wire := stkBytes s.dev.stackKey p g } ∧ (∀ o, o ≠ p → d.port o = s.dev.port o)
      ∧ g.typ = typ ∧ g.src = s.dev.stackId ∧ g.dst = k.partner ∧ g.vc = 2 ∧ g.auth = false ∧ g.payload = payload
    (∀ steps, q.st = 2 →
      (s.dev.stk.role = 1 → f.src = s.dev.stk.masterId →
        exec (.heartbeat f steps) s = .next (s.withDev { x with stk := { x.stk with hbSteps := steps.map (·.toNat) } })) ∧
      (s.dev.stk.role ≠ 1 → exec (.heartbeat f steps) s = .next (s.withDev x))) ∧
    (∀ a b c r t u, q.st = 2 → q.queue = [] → q.credits = [r, t, u] →
      exec (.stackCredit f a b c) s = .next (s.withDev (x.setPort p { q with
        credits := [min 16 (r + a), min 16 (t + b), min 16 (u + c)] }))) ∧
    (∀ (t1 t2 t3 t4 : DWord) (best : Int × Int), q.st = 1 ∨ q.st = 2 ∨ q.st = 3 → q.train.isSome = true → q.best = some best →
      let rtt : Int := ((t4.toNat : Int) - t1.toNat) - ((t3.toNat : Int) - t2.toNat)
      let off : Int := (((t2.toNat : Int) - t1.toNat) - ((t4.toNat : Int) - t3.toNat)) / 2
      let r := if rtt < best.1 then (rtt, off) else best
      sends (.sync ⟨f, true⟩ t1 t2 t3 t4) x q 0xB (leBytes 8 t1.toNat ++ leBytes 8 s.dev.now ++ leBytes 8 s.dev.now) ∧
      (q.rounds < 15 → sends (.sync ⟨f, false⟩ t1 t2 t3 t4) x { q with best := some r, rounds := q.rounds + 1 } 0xB
        (leBytes 8 s.dev.now ++ leBytes 8 0 ++ leBytes 8 0)) ∧
      (q.rounds = 15 → let k := { q with best := none, rounds := 0, synced := true }
        exec (.sync ⟨f, false⟩ t1 t2 t3 t4) s = .next (s.withDev { x.setPort p k with stk := { (x.setPort p k).stk with
          offs := x.stk.offs.filter (fun e => e.1 != q.partner) ++ [(q.partner, r.2)] } }))) ∧
    (∀ id g uid, q.st = 1 ∨ q.st = 3 →
      let k := { q with train := some (id % 4, g % 65536, uid % 2 ^ 96), partner := id % 4 }
      let y := x.setPort p k
      (id % 4 ≠ s.dev.stackId → g % 65536 = s.dev.stk.generation →
        (q.train.isSome = true → exec (.train f id g uid) s = .next (s.withDev y)) ∧
        (q.train = none → sends (.train f id g uid) (x.incCounter (0x60 + 2 * p)) k 0xB
          (leBytes 8 s.dev.now ++ leBytes 8 0 ++ leBytes 8 0))) ∧
      (id % 4 ≠ s.dev.stackId → g % 65536 > s.dev.stk.generation → q.train.isSome = true →
        (s.dev.stk.role = 0 ∨ s.dev.stk.role = 3 → exec (.train f id g uid) s = .next (s.withDev { y with stk := { y.stk with
          generation := g % 65536, masterId := (if s.dev.stackId = 1 then id % 4 else 1), role := 2, former := true, formed := false } })) ∧
        (s.dev.stk.role = 1 ∨ s.dev.stk.role = 2 → exec (.train f id g uid) s = .next (s.withDev { y with stk := { y.stk with
          generation := g % 65536, masterId := (if g % 65536 ≥ 2 then 1 else s.dev.stk.masterId) } }))) ∧
      (id % 4 = s.dev.stackId → s.dev.stk.role = 0 → ∃ d, exec (.train f id g uid) s = .next (s.withDev d)
        ∧ d = { x with regs := d.regs, hl := d.hl } ∧ d.bitAt 0xB0000 9 = true ∧ ∀ a, a ≠ 0xB0000 → d.reg a = s.dev.reg a)) ∧
    (q.st ≠ 2 → ∀ steps, exec (.heartbeat f steps) s = .next s)

/-- On a device with its clock, a good unauthenticated frame in sequence for this device, on an UP port with an empty replay
buffer, room in its receive buffers and AUTH off, is counted, advances the port's received SEQ and sends a CREDIT of its VC back;
DATA does so as it leaves the buffer. Then: DATA is delivered from source 37 under the inbox
credits; CMD waits, or is judged as a host command; REPLY answers the forwarded command; NOTE is relayed under the master's own
SEQ and marked with its source; a RECORD for the host enters the result queue, another does not; a RESOLVE of a record never
received goes no further, another is queued; EPOCH fills the inactive buffer of the standby and a matching COMMIT commits it, any
other discards it; RESET asserts its level with cause STACK; TAKEOVER of a higher generation is adopted. A frame out of sequence
is discarded.
Where the spec leaves it to a reading, this is the model's own, in log entries 5, 84, 87, 88, 96, 131 and 175. -/
def Obligations.SequencedFramesArrive : Prop :=
  ∀ (s : State) (f : StkHdr), s.dev.clocked = true → s.dev.isOpen 5 = true → f.port < 3 → f.good = true → f.auth = false →
    s.dev.bitAt 0xB0004 3 = false → (s.dev.port f.port).st = 2 → (s.dev.port f.port).replay = [] → f.dst = s.dev.stackId →
    (∀ v, s.dev.rxHeld f.port v < 16) →
    let p := f.port
    let q := s.dev.port p
    let x := s.dev.incCounter (0x61 + 2 * p)
    let arrives := fun (vc : Nat) (y : Dev) =>
      y = { s.dev with stk := { s.dev.stk with ports := y.stk.ports }, dbg := (x.incCounter (0x60 + 2 * p)).dbg }
      ∧ (∃ g, y.port p = { q with rxSeq := f.seq, lastTx := some g, wire := stkBytes s.dev.stackKey p g } ∧ g.typ = 2
        ∧ g.src = s.dev.stackId ∧ g.dst = q.partner ∧ g.vc = 2 ∧ g.payload = setAt [(0 : Byte), 0, 0] vc 1)
      ∧ ∀ o, o ≠ p → y.port o = s.dev.port o
    let standby := s.dev.stk.role = 1 ∧ f.src = s.dev.stk.masterId
    (f.seq ≠ (q.rxSeq + 1) % 65536 → ∀ b, exec (.note f b) s = .next s ∧ exec (.epoch f b) s = .next s) ∧
    (f.seq = (q.rxSeq + 1) % 65536 →
      (∀ ticket notify payload, uAt payload 1 1 ≠ 0xFF → bitOf (uAt payload 9 1) 0 = false → s.dev.mul.dispatch = [] →
        let body := leBytes 1 f.src ++ payload.drop 1
        let m : Msg := { src := 37, dst := uAt payload 1 1 % 32, typ := tyData, len := (body.length + 31) / 32 - 1, tag := 0,
                         ticket := ticket % 128, status := 0, notify := notify, payload := body }
        let n := s.dev.credit 37 m.dst
        (s.dev.dbg.bolted = true ∨ n = 0 → exec (.stackData f ticket notify payload) s = .next (s.withDev
          { x.setPort p { q with rxSeq := f.seq } with mul := { s.dev.mul with dispatch := [{ m with via := some p }] } })) ∧
        (s.dev.dbg.bolted = false → n > 0 → ∃ y, arrives 0 y ∧ exec (.stackData f ticket notify payload) s = .next (s.withDev
          { y with mul := { s.dev.mul with
            net := s.dev.mul.net ++ [m], credits := Tab.set (fun _ => 0) s.dev.mul.credits (64 * 37 + m.dst) (n - 1) } }))) ∧
      (∀ packet sl, parseCommand packet = some sl → s.dev.hl.stackCmds = [] → ∃ y, arrives 0 y ∧
        (s.dev.rst.hingeUp = true → s.dev.takes sl.op = true → exec (.cmd f packet) s = .next (s.withDev
          (y.judge (sl.cmd (some f.src)) (runOpcode sl.flags sl.params)))) ∧
        (s.dev.takes sl.op = false →
          exec (.cmd f packet) s = .next (s.withDev (y.withHl { s.dev.hl with stackCmds := [(f.src, sl)] })))) ∧
      (∀ packet x ps h w, s.dev.hl = (Dev.taken x 0x60 ps h).hl → x.hl.linkReplies = [] → x.hl.stream = [] →
        s.dev.stk.forwards = [w] → w.cmd = hostCmdOf 0x60 h → w.target = f.src → w.op = nthD packet 1 0 → w.tag = nthD packet 2 0 →
        ∃ y, arrives 1 y ∧ exec (.reply f packet) s = .next (s.withDev
          (Dev.answered { y with hl := x.hl, stk := { y.stk with forwards := [] } } 0x60 h stOk
            ([nthD packet 3 0, 0] ++ leBytes 2 (uAt packet 4 2) ++ (bytesAt packet 6 (uAt packet 4 2)).take 4092)))) ∧
      (∀ packet, s.dev.stk.role = 0 ∨ s.dev.stk.role = 3 → s.dev.hl.queued < 64 → ∃ y, arrives 1 y
        ∧ exec (.note f packet) s = .next (s.withDev (y.withHl { s.dev.hl with
            seq := (s.dev.hl.seq + 1) % 65536
            notes := s.dev.hl.notes ++ [{ typ := uAt packet 1 1 % 32 + 32 * f.src, seq := s.dev.hl.seq,
                                          data := bytesAt packet 6 (uAt packet 4 2) }] }))) ∧
      (∀ r, r.length = 32 → s.dev.stk.role = 0 ∨ s.dev.stk.role = 3 → s.dev.mdl.resq.length < 256 → s.dev.mdl.lossOf = [] →
        s.dev.stk.recvd.length < 8192 → s.dev.verdictOut = true → s.dev.namesSource 0 f.src (recSlot r) = false →
        let known := fun (y : Dev) => { y with stk := { y.stk with recvd := s.dev.stk.recvd ++ [(f.src, recSlot r, recSeq r)] } }
        (∃ y, arrives 1 y ∧ exec (.stackRecord f ⟨true, r⟩) s = .next (s.withDev { known y with mdl := { s.dev.mdl with
          resq := s.dev.mdl.resq ++ [(f.src, r)], high := max s.dev.mdl.high (s.dev.mdl.resq.length + 1) } })) ∧
        ∃ y, arrives 1 y ∧ exec (.stackRecord f ⟨false, r⟩) s = .next (s.withDev (known y))) ∧
      (∀ r, r.length = 16 → s.dev.stk.role = 0 → s.dev.hl.resols.length < 8192 → s.dev.chk.src = [] → ∃ y, arrives 1 y
        ∧ exec (.stackResolve f r) s = .next (s.withDev
          (if (f.src, uAt r 0 1 % 16, uAt r 2 2) ∈ s.dev.stk.recvd then
            y.withHl { s.dev.hl with resols := s.dev.hl.resols ++ [{ retract := bitOf (uAt r 1 1) 0, data := r }] } else y))) ∧
      (∀ data, standby → ∃ y, arrives 2 y ∧ exec (.epoch f data) s = .next (s.withDev { y with
        stk := { y.stk with inactive := s.dev.stk.inactive.filter (fun b => b.take 4 == data.take 4) ++ [data] } })) ∧
      (∀ epoch count crc : Word, standby → ∃ y, arrives 2 y ∧ exec (.commit f epoch count crc) s = .next (s.withDev
        (if s.dev.stk.inactive.length = count.toNat ∧ crc32 s.dev.stk.inactive.flatten = crc.toNat then
          { y with stk := { y.stk with inactive := [], committed := s.dev.stk.inactive.flatten, epoch := epoch.toNat } }
        else { y with stk := { y.stk with inactive := [] } }))) ∧
      (∀ level : Byte, level.toNat ≤ 1 → s.dev.rst.supplyLow = false → s.dev.db.sealed = false → s.dev.rst.level = none →
        ∃ d, exec (.stackReset f level) s = .next (s.withDev d)
          ∧ s.dev.ResetTaken d 7 (if level = 0 then .core else .sys)) ∧
      (∀ g e : Word, g.toNat % 65536 > s.dev.stk.generation → s.dev.stk.role = 0 ∨ s.dev.stk.role = 3 → ∃ y, arrives 2 y
        ∧ exec (.takeover f g e) s = .next (s.withDev { y with stk := { y.stk with
            generation := g.toNat % 65536, masterId := f.src, role := 2, former := true, formed := false } })))

/-- On a device with its clock: a port of the master in training that has met its partner and measured its offset, nothing queued
and no route yet, goes UP with 16 credits a VC, SEQ from 0 and renumbered unacknowledged frames, reports the partners it brings
and sends the partner its opening command. After 10 ms without UP the port is NO_TRAIN, reported, and trains anew. A resend sends
every unacknowledged frame again, from the oldest on, and counts; giving up drops the oldest and puts the port DOWN, as loss of
frames does: it trains anew while enabled. On an UP port with AUTH off a HEARTBEAT with the issued
steps leaves ahead of every queued frame and takes no credit. The master of a formed stack closes an epoch under the next number
and sends it with its COMMIT; it toggles STK_ALIVE while DOOR is open. A standby whose master is silent becomes acting master
under the generation after the epoch's and its own, and only sets PARTITION while STK_ALIVE still toggles. A follower in DOORSTEP
takes the master's RESET.
Where the spec leaves it to a reading, this is the model's own, in log entries 83, 86, 88, 91 and 218. -/
def Obligations.StackPortsAndRoles : Prop :=
  ∀ (s : State) (p : Nat), p < 3 → s.dev.clocked = true →
    let q := s.dev.port p
    let alone := s.dev.stk.role = 0 ∧ s.dev.chk.src = [] ∧ s.dev.stk.forwards = [] ∧ s.dev.stk.rstAwaits = []
    let others := fun (d : Dev) => ∀ o, o ≠ p → d.port o = s.dev.port o
    let fresh := fun (k : StkPort) (st : Nat) => { k with st := st, train := none, best := none, rounds := 0, synced := false }
    let trains := fun (d : Dev) (k : StkPort) (st : Nat) => others d ∧ ∃ g,
      d.port p = { fresh k st with lastTx := some g, wire := stkBytes s.dev.stackKey p g } ∧ g.typ = 0xE ∧ g.dst = q.partner
        ∧ g.payload = leBytes 1 s.dev.stackId ++ leBytes 4 s.dev.stk.generation ++ uidBytes
    let down := fun (d : Dev) (k : StkPort) =>
      (s.dev.portEnabled p = true → trains d k 1) ∧ (s.dev.portEnabled p = false → others d ∧ d.port p = fresh k 0)
    (s.dev.portEnabled p = true → q.st = 1 ∨ q.st = 3 → q.train.isSome = true → q.synced = true → q.queue = [] →
      s.dev.stk.role = 0 → s.dev.bitAt 0xB0004 3 = false → s.dev.partners = [] → s.dev.hl.queued < 61 →
      q.partner < 4 → q.partner ≠ s.dev.stackId →
      ∃ d ns g, exec (.portUp p) s = .next (s.withDev d) ∧ q.partner ∈ d.partners ∧ others d
        ∧ d.hl = { s.dev.hl with seq := (s.dev.hl.seq + ns.length) % 65536, notes := s.dev.hl.notes ++ ns }
        ∧ (∀ n ∈ ns, n.typ = 5 + 32 * s.dev.stackId)
        ∧ ns.map (fun n => n.data.take 2) = d.partners.map (fun i => leBytes 1 0 ++ leBytes 1 i)
        ∧ d.port p = { q with
            st := 2, credits := [15, 16, 16], rxSeq := 0xFFFF, txSeq := (q.replay.length + 1) % 65536
            replay := renumber 0 q.replay ++ [g], lastTx := some g, wire := stkBytes s.dev.stackKey p g }
        ∧ g.typ = 4 ∧ g.dst = q.partner ∧ g.vc = 0 ∧ g.payload = commandPacket 0x10 0 [0, 0]) ∧
    (q.st = 0 ∨ q.st = 2 ∨ q.synced = false → exec (.portUp p) s = .next s) ∧
    (s.dev.portEnabled p = true → q.st = 1 ∨ q.st = 3 → s.dev.stk.role = 0 → q.queue = [] → s.dev.hl.queued < 64 →
      ∃ d, exec (.noTrain p) s = .next (s.withDev d) ∧ trains d q 3 ∧ d = { s.dev with
        stk := { s.dev.stk with ports := d.stk.ports }, dbg := (s.dev.incCounter (0x60 + 2 * p)).dbg
        hl := { s.dev.hl with seq := (s.dev.hl.seq + 1) % 65536, notes := s.dev.hl.notes ++ [⟨5 + 32 * s.dev.stackId, s.dev.hl.seq,
          leBytes 1 2 ++ leBytes 1 q.partner ++ leBytes 2 0 ++ leBytes 12 0⟩] } }) ∧
    (∀ f rest, q.replay = f :: rest → q.st = 2 →
      (let fs := q.replay.map (fun e => { e with ack := q.rxSeq })
       exec (.stackResend p) s = .next (s.withDev (s.dev.setPort p { q with
        resends := satInc 16 q.resends, lastTx := fs.getLast?, wire := (fs.map (stkBytes s.dev.stackKey p)).flatten }))) ∧
      (f.src = s.dev.stackId → f.typ = 6 → alone → ∃ d, exec (.stackGiveUp p) s = .next (s.withDev d)
        ∧ down d { q with replay := rest })) ∧
    (q.st = 2 → alone → ∃ d, exec (.portDown p) s = .next (s.withDev d) ∧ down d q) ∧
    (q.st ≠ 2 → exec (.portDown p) s = .next s) ∧
    (q.st = 2 → s.dev.bitAt 0xB0004 3 = false → ∃ d g, exec (.heartbeatDue p) s = .next (s.withDev d)
      ∧ d = { s.dev with stk := { s.dev.stk with ports := d.stk.ports }, dbg := (s.dev.incCounter (0x60 + 2 * p)).dbg }
      ∧ others d ∧ d.port p = { q with lastTx := some g, wire := stkBytes s.dev.stackKey p g } ∧ g.typ = 1 ∧ g.vc = 2 ∧ g.auth = false ∧ g.dst = q.partner
      ∧ g.payload = (s.dev.startedSlots.map (fun i => leBytes 4 (((s.dev.slot i).step + 2 ^ 32 - 1) % 2 ^ 32))).flatten) ∧
    (s.dev.dbg.bolted = false → s.dev.stk.role = 0 → s.dev.stk.formed = true → s.dev.bitAt 0xB0004 3 = false →
      s.dev.stkRoute 1 = some p → q.queue = [] → (∀ r a t, q.credits = [r, a, t] → 2 ≤ t → ∃ d g e,
        exec .epochClose s = .next (s.withDev d) ∧ d.stk.epoch = s.dev.stk.epoch + 1
          ∧ (d.port p).replay = q.replay ++ [g, e] ∧ (d.port p).credits = [r, a, t - 2]
          ∧ g.typ = 9 ∧ g.dst = 1 ∧ g.payload.take 4 = leBytes 4 (s.dev.stk.epoch + 1) ∧ e.typ = 0xA ∧ e.dst = 1
          ∧ e.payload = leBytes 4 (s.dev.stk.epoch + 1) ++ leBytes 4 1 ++ leBytes 4 (crc32 g.payload))) ∧
    (s.dev.stk.role ≠ 0 → exec .epochClose s = .next s ∧ exec .stkAliveToggle s = .next s) ∧
    (s.dev.stk.role = 0 → s.dev.isOpen 5 = true →
      exec .stkAliveToggle s = .next (s.withDev { s.dev with stk := { s.dev.stk with aliveOut := !s.dev.stk.aliveOut } })) ∧
    (s.dev.stk.role = 1 → ∀ us,
      exec (.standbyTakeover false us) s = .next (s.withDev (s.dev.setFld 0xB0000 8 1 1)) ∧
      (s.dev.bitAt 0xB0004 3 = false → uAt s.dev.stk.committed 7 1 = 0 → s.dev.chk.src = [] → s.dev.hl.queued < 64 →
        let gen := (max s.dev.stk.generation (uAt s.dev.stk.committed 4 2) + 1) % 65536
        ∃ d, exec (.standbyTakeover true us) s = .next (s.withDev d)
        ∧ d = { s.dev with
            hl := { s.dev.hl with
              seq := (s.dev.hl.seq + 1) % 65536,
              notes := s.dev.hl.notes ++ [⟨6 + 32 * s.dev.stackId, s.dev.hl.seq,
                leBytes 4 s.dev.stk.epoch ++ leBytes 2 gen ++ leBytes 1 0 ++ [0]⟩] }
            stk := { s.dev.stk with
              role := 3, generation := gen, masterId := s.dev.stackId, formed := false, ports := d.stk.ports }
            dbg := { s.dev.dbg with counters := d.dbg.counters } })) ∧
    (s.dev.stk.role ≠ 1 → ∀ a us, exec (.standbyTakeover a us) s = .next s) ∧
    (∀ (f : StkHdr) (level : Byte), s.dev.sys.main = .doorstep → s.dev.stackId ≠ 0 → level.toNat ≤ 1 →
      s.dev.rst.supplyLow = false → s.dev.db.sealed = false → s.dev.rst.level = none →
      ∃ d, exec (.stackReset f level) s = .next (s.withDev d) ∧ s.dev.ResetTaken d 7 (if level = 0 then .core else .sys))

/-- STACK_CONFIG served by the link: FORM on a master that has not formed a stack starts generation (at least 1) and epoch 0 and
answers the members; FORWARD and RESET on the master, to another STACK_ID whose route is an UP port with credits and AUTH off,
stay in progress while a CMD frame with the packet, or a RESET frame with the level, leaves for the target; PORTS, while no port is
enabled, stores the enables and starts training with a TRAIN frame on every enabled port; STATUS answers the status word, the epoch and the three port
words. FORM of a formed stack is BUSY; a target beyond 3 or this device is BAD_PARAM.
Where the spec leaves it to a reading, this is the model's own, in log entries 93 and 173. -/
def Obligations.StackConfigCommands : Prop :=
  ∀ (s : State) (h : CmdHdr), s.dev.serves 0x60 = true →
    let g := max 1 s.dev.stk.generation
    let bad := fun (i : Instr) (st : Byte) => exec i s = .next (s.withDev (s.dev.answered 0x60 h st []))
    let master := s.dev.stk.role = 0 ∨ s.dev.stk.role = 3
    let leaves := fun (i : Instr) (ps : List Byte) (p : Nat) (vc typ dst : Nat) (payload : List Byte)
        (waits : StackState → StackState) => ∃ d f, exec i s = .next (s.withDev d)
      ∧ d = { s.dev.taken 0x60 ps h with
          stk := { waits s.dev.stk with ports := d.stk.ports }, dbg := (s.dev.incCounter (0x60 + 2 * p)).dbg }
      ∧ d.port p = { s.dev.port p with
          replay := (s.dev.port p).replay ++ [f], lastTx := some f, txSeq := ((s.dev.port p).txSeq + 1) % 65536
          wire := stkBytes s.dev.stackKey p f
          credits := setAt (s.dev.port p).credits vc (nthD (s.dev.port p).credits vc 0 - 1) }
      ∧ f.typ = typ ∧ f.src = s.dev.stackId ∧ f.dst = dst ∧ f.vc = vc ∧ f.seq = (s.dev.port p).txSeq ∧ f.payload = payload
    (master → s.dev.stk.formed = false → exec (.stackConfigForm h) s = .next (s.withDev (Dev.answered { s.dev with stk := { s.dev.stk with
        formed := true, generation := g, epoch := 0 } } 0x60 h stOk (leBytes 1 s.dev.reachMask ++ [0] ++ leBytes 2 g)))) ∧
    (master → s.dev.stk.formed = true → bad (.stackConfigForm h) stBusy) ∧
    (∀ t k : Byte, t.toNat > 3 ∨ (master ∧ t.toNat = s.dev.stackId) → bad (.stackConfigReset h t k) stBadParam) ∧
    (∀ (t : Byte) (p : Nat), master → t.toNat ≤ 3 → t.toNat ≠ s.dev.stackId → s.dev.stkRoute t.toNat = some p →
      s.dev.bitAt 0xB0004 3 = false → (s.dev.port p).queue = [] →
      (∀ packet sl, parseCommand packet = some sl → nthD (s.dev.port p).credits 0 0 > 0 →
        leaves (.stackConfigForward h t packet) ([1, t] ++ packet) p 0 4 t.toNat packet (fun k => { k with
          forwards := k.forwards ++ [{ cmd := hostCmdOf 0x60 h, target := t.toNat, tag := sl.tag, op := sl.op }] })) ∧
      (∀ level : Byte, level.toNat ≤ 1 → nthD (s.dev.port p).credits 2 0 > 0 →
        leaves (.stackConfigReset h t level) [2, t, level] p 2 0xC t.toNat [level] (fun k => { k with
          rstAwaits := k.rstAwaits ++ [{ cmd := hostCmdOf 0x60 h, target := t.toNat }] }))) ∧
    (∀ v : Byte, v.toNat ≤ 15 → s.dev.isOpen 5 = true → (∀ p, p < 3 → (s.dev.port p).st = 0) →
      ∃ d : Dev, exec (.stackConfigPorts h v) s = .next (s.withDev (d.answered 0x60 h stOk []))
        ∧ d = { s.dev with
            regs := d.regs, stk := { s.dev.stk with ports := d.stk.ports }, dbg := { s.dev.dbg with counters := d.dbg.counters } }
        ∧ d.fldAt 0xB0004 0 4 = v.toNat ∧ (∀ a, a ≠ 0xB0004 → d.reg a = s.dev.reg a)
        ∧ (∀ p, p < 3 → bitOf v.toNat p = false → d.port p = s.dev.port p)
        ∧ (∀ p, p < 3 → bitOf v.toNat p = true → ∃ g, d.port p = { s.dev.port p with
            st := 1, train := none, best := none, rounds := 0, synced := false, lastTx := some g
            wire := stkBytes s.dev.stackKey p g } ∧ g.typ = 0xE)) ∧
    (∀ v : Byte, v.toNat > 15 → bad (.stackConfigPorts h v) stBadParam) ∧
    (∃ w0, wfld w0 0 2 = s.dev.stackId ∧ wfld w0 4 4 = s.dev.reachMask
      ∧ exec (.stackConfigStatus h) s = .next (s.withDev (s.dev.answered 0x60 h stOk
          (wordBytes w0 ++ leBytes 4 s.dev.stk.epoch ++ wordBytes (s.dev.stkPortWord 0) ++ wordBytes (s.dev.stkPortWord 1)
            ++ wordBytes (s.dev.stkPortWord 2)))))

/-! ### The site fabric (R415 to R421, R430, R476, R575 to R577) -/

/-- On a device with its clock, a good unauthenticated frame on an enabled site port whose PHY runs, with REQ_AUTH and AUTH off, on a master with no held
sources. HELLO of the known neighbour changes nothing; of a new one it is the neighbour, reported, measured and flooded; one that
holds this node's address moves this node when neither address is host-set and this unique ID is higher, to the next free
address, leaves it when lower, and sets CONFLICT when both are host-set. A newer ADJ of another node enters the database and
goes out on the other port; an older one, or this node's own, is ignored. ACK ends the wait for its frame and, on the give-up
tick, is counted; the frame of a command answers it OK. OFFSET_REQ is answered with its timestamp and two of this node's.
OFFSET_RSP of the round in flight keeps the better round and asks again; the eighth records the offset.
Where the spec leaves it to a reading, this is the model's own, in log entries 5, 95, 105 and 107. -/
def Obligations.NeighbourFramesAct : Prop :=
  ∀ (s : State) (f : SiteHdr), s.dev.clocked = true → f.good = true → f.auth = false → s.dev.siteEnabled f.port = true →
    (s.dev.site f.port).phyUp = true → s.dev.bitAt 0xB0100 3 = false → s.dev.bitAt 0xB0100 2 = false → s.dev.chk.src = [] → s.dev.stk.role = 0 → s.dev.hl.queued < 63 →
    let q := s.dev.site f.port
    let sends := fun (d : Dev) (p typ dst : Nat) (payload : List Byte) => ∃ g : SiteFrame, (d.site p).lastTx = some g ∧ g.typ = typ
      ∧ g.dst = dst ∧ g.src = d.fab.addr ∧ g.payload = payload
    let notes := fun (d : Dev) (cause addr uid : Nat) => d.hl.notes = s.dev.hl.notes ++ [⟨5 + 32 * s.dev.stackId, s.dev.hl.seq,
      leBytes 1 cause ++ leBytes 1 0 ++ leBytes 2 addr ++ leBytes 12 uid⟩]
    (∀ uid addr o sl n, uid < 2 ^ 96 → addr < 65536 →
      (q.nbr = some ⟨uid, addr⟩ → addr ≠ s.dev.fab.addr → exec (.hello f uid addr o sl n) s = .next (s.withDev (s.dev.setSite f.port q))) ∧
      (q.nbr = none → addr ≠ s.dev.fab.addr → ∃ d, exec (.hello f uid addr o sl n) s = .next (s.withDev d)
        ∧ (d.site f.port).nbr = some ⟨uid, addr⟩ ∧ notes d 5 addr uid
        ∧ (d.site f.port).off = { best := none, rounds := 0, done := none, rate := 0, t1 := s.dev.now }
        ∧ d.fab.adjSeq = (s.dev.fab.adjSeq + 1) % 2 ^ 32 ∧ sends d f.port 2 0xFFFF (adjBytes d.ownAdj)) ∧
      (q.nbr = some ⟨uid, addr⟩ → addr = s.dev.fab.addr → uid ≠ Config.uid.toNat →
        (s.dev.fab.origin ≠ 2 → o ≠ 2 → Config.uid.toNat > uid → addr < 0xFFFE → (∀ r ∈ s.dev.fab.db, r.addr ≠ addr + 1) →
          ∃ d, exec (.hello f uid addr o sl n) s = .next (s.withDev d) ∧ d.fab.addr = addr + 1 ∧ d.fab.origin = 3
            ∧ d.fab.adjSeq = (s.dev.fab.adjSeq + 1) % 2 ^ 32 ∧ sends d f.port 2 0xFFFF (adjBytes d.ownAdj)
            ∧ notes d 9 (addr + 1) Config.uid.toNat) ∧
        (s.dev.fab.origin ≠ 2 → o ≠ 2 → Config.uid.toNat < uid →
          exec (.hello f uid addr o sl n) s = .next (s.withDev (s.dev.setSite f.port q))) ∧
        (s.dev.fab.origin = 2 → o = 2 → s.dev.fab.conflicts = [] → ∃ d, exec (.hello f uid addr o sl n) s = .next (s.withDev d)
          ∧ d.fab.addr = addr ∧ d.fab.conflicts = [addr] ∧ d.bitAt 0xB0108 18 = true ∧ notes d 10 addr uid))) ∧
    (∀ uid addr a b n fl, uid < 2 ^ 96 → addr < 65536 → a < 65536 → b < 65536 → n < 2 ^ 32 → fl < 8 →
      let r : Adj := { uid := uid, addr := addr, nbrA := a, nbrB := b, seq := n, flags := fl }
      (uid = Config.uid.toNat → exec (.adj f uid addr a b n fl) s = .next s) ∧
      (∀ x, s.dev.fab.db.find? (fun y => y.uid == uid) = some x → n ≤ x.seq → exec (.adj f uid addr a b n fl) s = .next s) ∧
      (uid ≠ Config.uid.toNat → (∀ x ∈ s.dev.fab.db, x.uid ≠ uid) → addr ≠ s.dev.fab.addr → s.dev.bitAt 0xB0100 4 = false →
        ∃ d, exec (.adj f uid addr a b n fl) s = .next (s.withDev d)
          ∧ d = { s.dev with fab := { s.dev.fab with ports := d.fab.ports, db := s.dev.fab.db ++ [r], routes := d.fab.routes } }
          ∧ d.fab.routes = s.dev.fab.routes.filter (fun x => x.uid != uid) ++ [r]
          ∧ (s.dev.siteEnabled (1 - f.port) = true → sends d (1 - f.port) 2 0xFFFF (adjBytes r)))) ∧
    (∀ w : SiteAwait, q.awaits = [w] →
      let y := s.dev.setSite f.port { q with awaits := [] }
      (w.cmd = none → exec (.ack f w.frame.seq false) s = .next (s.withDev y)
        ∧ exec (.ack f w.frame.seq true) s = .next (s.withDev (y.satFld 0xB0110 16 16))) ∧
      (∀ x ps h, s.dev.hl = (Dev.taken x 0x64 ps h).hl → x.hl.linkReplies = [] → x.hl.stream = [] → w.cmd = some (hostCmdOf 0x64 h) →
        s.dev.fab.tableCmds = [] →
        exec (.ack f w.frame.seq false) s = .next (s.withDev ((y.withHl x.hl).answered 0x64 h stOk [])))) ∧
    (q.awaits = [] → ∀ n, exec (.ack f n false) s = .next s) ∧
    (∀ t1 : DWord, ∃ d, exec (.offsetReq f t1) s = .next (s.withDev d)
      ∧ d = { s.dev with fab := { s.dev.fab with ports := d.fab.ports } } ∧ (d.site f.port).off = q.off
      ∧ sends d f.port 5 (s.dev.nbrAddr f.port) (leBytes 8 t1.toNat ++ leBytes 8 s.dev.now ++ leBytes 8 s.dev.now)) ∧
    (∀ (t1 t2 t3 : DWord) (best : Int × Int), q.off.t1 = t1.toNat → q.nbr.isSome = true → q.off.best = some best →
      let rtt : Int := ((s.dev.now : Int) - t1.toNat) - ((t3.toNat : Int) - t2.toNat)
      let off : Int := (((t2.toNat : Int) - t1.toNat) - ((s.dev.now : Int) - t3.toNat)) / 2
      let r := if rtt < best.1 then (rtt, off) else best
      (q.off.rounds < 7 → ∃ d, exec (.offsetRsp f t1 t2 t3) s = .next (s.withDev d)
        ∧ (d.site f.port).off = { q.off with best := some r, rounds := q.off.rounds + 1, t1 := s.dev.now }
        ∧ sends d f.port 4 (s.dev.nbrAddr f.port) (leBytes 8 s.dev.now)) ∧
      (q.off.rounds = 7 → q.off.done = none → exec (.offsetRsp f t1 t2 t3) s = .next (s.withDev (s.dev.setSite f.port { q with
        off := { q.off with best := none, rounds := 8, done := some (r.2, s.dev.now), rate := 0 } })))) ∧
    (∀ t1 t2 t3 : DWord, q.off.t1 ≠ t1.toNat → exec (.offsetRsp f t1 t2 t3) s = .next s)

/-- On a device with its clock, a good unauthenticated routed frame of another node on an enabled site port whose PHY runs, with
REQ_AUTH off and no ACK_REQ. For this node, when no other holds its address by a host's setting (else it is dropped): a RECORD with a verdict of a source that a STARTED instance names is held as a source; a RESOLVE of a record never
received changes nothing, of a provisional one settles it; an ALARM report is kept; a TABLE frame for an accepted table writes
its entries as the door, one for another table nothing; USER is queued, or counted when 16 wait; FAIL answers the command whose
frame it names PARTNER_GONE, be that frame acknowledged by its first hop or not. For another node with a route it waits for its outgoing port with one hop less, and is dropped when
HOPS would reach 0; a broadcast ALARM is kept though its HOPS end here. The oldest waiting frame of an enabled port leaves with the port's next SEQ.
Where the spec leaves it to a reading, this is the model's own, in log entries 5, 97, 100, 102 and 103. -/
def Obligations.RoutedFramesAct : Prop :=
  ∀ (s : State) (f : SiteHdr), s.dev.clocked = true → f.good = true → f.auth = false → f.ackReq = false →
    s.dev.siteEnabled f.port = true → (s.dev.site f.port).phyUp = true → s.dev.bitAt 0xB0100 3 = false → f.src ≠ s.dev.fab.addr → s.dev.fab.addr ≠ 0xFFFF →
    (f.dst = s.dev.fab.addr → s.dev.inConflict f.dst = true → ∀ b, exec (.user f b) s = .next s ∧ exec (.siteAlarm f b) s = .next s) ∧
    (f.dst = s.dev.fab.addr → s.dev.inConflict f.dst = false →
      (∀ r k, r.length = 32 → k < 4 → hasVerdict (recStatus r) = true →
        (∀ j, j < 4 → s.dev.namesSource f.src j (recSlot r) = decide (j = k)) → s.dev.chk.src.length < 2048 →
        exec (.siteRecord f r) s = .next (s.withDev { s.dev with chk := { s.dev.chk with src := s.dev.chk.src ++
          [{ node := f.src, stackId := k, slot := recSlot r, seq := recSeq r, st := srcOfCheck (recCheck r), at_ := s.dev.now }] } })) ∧
      (∀ r, s.dev.chk.src = [] → exec (.siteResolve f r) s = .next s) ∧
      (∀ r e, r.length = 16 → s.dev.chk.src = [e] → s.dev.chk.pend = [] → e.node = f.src → e.stackId = uAt r 10 1 % 4 →
        e.slot = uAt r 0 1 % 16 → e.seq = uAt r 2 2 → e.st = .provisional → s.dev.now ≠ e.at_ + 1584000 →
        exec (.siteResolve f r) s = .next (s.withDev { s.dev with chk := { s.dev.chk with src := [{ e with
          st := if bitOf (uAt r 1 1) 0 then .retracted else if uAt r 8 2 % 4 = 0 then .confirmedFirm else .confirmedFlagged }] } })) ∧
      (∀ b, exec (.siteAlarm f b) s = .next (s.withDev { s.dev with fab := { s.dev.fab with lastAlarm := some (f.src, b) } })) ∧
      (∀ b e, s.dev.desc (uAt b 0 1) = some e →
        let a := e.base + uAt b 4 4
        let bs := b.drop 8
        (uAt b 0 1 ≤ 31 → s.dev.bitAt 0xB010C (uAt b 0 1) = true → s.dev.isOpen 4 = true →
          uAt b 4 4 + bs.length ≤ e.entries * e.entrySize → s.dev.writeGate 37 a bs.length = none → s.dev.writeHeld a bs.length = false →
          s.dev.sill.flips = [] →
          exec (.table f b) s = .next (s.withDev (s.dev.sillStore a bs))) ∧
        (uAt b 0 1 > 31 ∨ s.dev.bitAt 0xB010C (uAt b 0 1) = false → exec (.table f b) s = .next s)) ∧
      (∀ b, (s.dev.fab.users.length < 16 → exec (.user f b) s = .next (s.withDev { s.dev with fab := { s.dev.fab with
          users := s.dev.fab.users ++ [(f.src, b)] } })) ∧
        (s.dev.fab.users.length ≥ 16 → exec (.user f b) s = .next (s.withDev { s.dev with fab := { s.dev.fab with
          userDropped := satInc 16 s.dev.fab.userDropped } }))) ∧
      (∀ w x ps h, (s.dev.site 0).awaits = [w] → (s.dev.site 1).awaits = [] → s.dev.hl = (Dev.taken x 0x64 ps h).hl →
        x.hl.linkReplies = [] → x.hl.stream = [] → w.cmd = some (hostCmdOf 0x64 h) → s.dev.fab.tableCmds = [] → s.dev.fab.acked = [] →
        ∃ d : Dev, exec (.fail f s.dev.fab.addr w.frame.seq) s = .next (s.withDev (d.answered 0x64 h stPartnerGone []))
          ∧ d = { s.dev with hl := x.hl, fab := { s.dev.fab with ports := d.fab.ports } }
          ∧ (d.site 0).awaits = [{ w with cmd := none }] ∧ (d.site 1).awaits = []) ∧
      (∀ n k x ps h, (s.dev.site 0).awaits = [] → (s.dev.site 1).awaits = [] → s.dev.hl = (Dev.taken x 0x63 ps h).hl →
        x.hl.linkReplies = [] → x.hl.stream = [] → s.dev.fab.tableCmds = [(hostCmdOf 0x63 h, k)] →
        s.dev.fab.acked = [(hostCmdOf 0x63 h, n)] →
        ∃ d : Dev, exec (.fail f s.dev.fab.addr n) s = .next (s.withDev (d.answered 0x63 h stPartnerGone []))
          ∧ d = { s.dev with hl := x.hl, fab := { s.dev.fab with ports := d.fab.ports, tableCmds := [], acked := [] } }
          ∧ ∀ p, d.site p = s.dev.site p)) ∧
    (∀ b p, f.dst ≠ s.dev.fab.addr → f.dst ≠ 0xFFFF → s.dev.siteRoute f.dst = some p → s.dev.inConflict f.dst = false →
      (f.hops > 1 → ∃ g, exec (.user f b) s = .next (s.withDev (s.dev.setSite p { s.dev.site p with
          queue := (s.dev.site p).queue ++ [g] })) ∧ g.typ = 0xA ∧ g.src = f.src ∧ g.dst = f.dst ∧ g.hops = f.hops - 1 ∧ g.inSeq = f.seq ∧ g.payload = b) ∧
      (f.hops ≤ 1 → exec (.user f b) s = .next s)) ∧
    (∀ b, f.dst = 0xFFFF → f.hops ≤ 1 →
      exec (.siteAlarm f b) s = .next (s.withDev { s.dev with fab := { s.dev.fab with lastAlarm := some (f.src, b) } })) ∧
    (∀ p g rest, s.dev.siteEnabled p = true → (s.dev.site p).queue = g :: rest → g.ackReq = false →
      ∃ d, exec (.frameForward p) s = .next (s.withDev d) ∧ d = { s.dev with fab := { s.dev.fab with ports := d.fab.ports } }
        ∧ (let g' := { g with seq := (s.dev.site p).txSeq }
           d.site p = { s.dev.site p with
            queue := rest, txSeq := ((s.dev.site p).txSeq + 1) % 65536, lastTx := some g', wire := s.dev.siteWire p g' })
        ∧ (∀ p', p' ≠ p → d.site p' = s.dev.site p'))

/-- On a device with its clock, for site port `p` of a master with AUTH off and no held sources: a due HELLO of an enabled port that runs it carries this
node's unique ID, address, origin, seal and sequence; a lost neighbour is forgotten, reported and flooded, and a HELLO on the tick
of loss keeps it and is counted; a refresh floods this node's record under a new sequence; an expired record leaves database and
routes. A resend sends the waiting frame again and is counted; giving up ends the wait and answers the command PARTNER_GONE, or
sends FAIL to the source of a transit frame. A re-measurement starts eight new rounds. A PHY comes out of reset on an enabled
port only, its link status being read then, and its interrupt then updates the link status.
Where the spec leaves it to a reading, this is the model's own, in log entries 105 and 107. -/
def Obligations.FabricTimersAct : Prop :=
  ∀ (s : State) (p : Nat), p < 2 → s.dev.clocked = true → s.dev.bitAt 0xB0100 2 = false → s.dev.chk.src = [] → s.dev.stk.role = 0 →
    s.dev.hl.queued < 64 →
    let q := s.dev.site p
    let sends := fun (d : Dev) (p typ dst : Nat) (payload : List Byte) => ∃ g : SiteFrame, (d.site p).lastTx = some g ∧ g.typ = typ
      ∧ g.dst = dst ∧ g.src = d.fab.addr ∧ g.payload = payload
    (s.dev.siteEnabled p = true → q.hello = true → ∃ d, exec (.helloDue p) s = .next (s.withDev d)
      ∧ d = { s.dev with fab := { s.dev.fab with ports := d.fab.ports } }
      ∧ sends d p 1 0xFFFF (leBytes 12 Config.uid.toNat ++ leBytes 2 s.dev.fab.addr ++ leBytes 1 s.dev.fab.origin
        ++ leBytes 1 (b2n s.dev.db.sealed) ++ leBytes 4 s.dev.fab.adjSeq)) ∧
    (q.hello = false → exec (.helloDue p) s = .next s) ∧
    (∀ n, q.nbr = some n →
      exec (.neighbourLost p true) s = .next (s.withDev (s.dev.satFld 0xB0110 16 16)) ∧
      (∃ d, exec (.neighbourLost p false) s = .next (s.withDev d) ∧ (d.site p).nbr = none ∧ (d.site p).off.done = none
        ∧ d.fab.adjSeq = (s.dev.fab.adjSeq + 1) % 2 ^ 32
        ∧ d.hl.notes = s.dev.hl.notes ++ [⟨5 + 32 * s.dev.stackId, s.dev.hl.seq,
            leBytes 1 6 ++ leBytes 1 0 ++ leBytes 2 n.addr ++ leBytes 12 n.uid⟩])) ∧
    (q.nbr = none → exec (.neighbourLost p false) s = .next s) ∧
    (q.hello = true → ∃ d, exec .adjacencyRefresh s = .next (s.withDev d)
      ∧ d = { s.dev with fab := { s.dev.fab with ports := d.fab.ports, adjSeq := (s.dev.fab.adjSeq + 1) % 2 ^ 32 } }
      ∧ (s.dev.siteEnabled p = true → sends d p 2 0xFFFF (adjBytes d.ownAdj))) ∧
    ((s.dev.site 0).hello = false → (s.dev.site 1).hello = false → exec .adjacencyRefresh s = .next s) ∧
    (∀ r, s.dev.fab.routes.find? (fun x => x.addr == r.addr) = some r → s.dev.bitAt 0xB0100 4 = false →
      exec (.adjacencyExpiry r.addr) s = .next (s.withDev { s.dev with fab := { s.dev.fab with
        db := s.dev.fab.db.filter (fun x => x.uid != r.uid), routes := s.dev.fab.routes.filter (fun x => x.uid != r.uid) } })) ∧
    (∀ w, q.awaits = [w] →
      exec (.fabricResend p w.frame.seq) s = .next (s.withDev ((s.dev.setSite p { q with
        lastTx := some w.frame, wire := s.dev.siteWire p w.frame }).incCounter (0x66 + p))) ∧
      (∀ x ps h, s.dev.hl = (Dev.taken x 0x64 ps h).hl → x.hl.linkReplies = [] → x.hl.stream = [] → w.cmd = some (hostCmdOf 0x64 h) →
        s.dev.fab.tableCmds = [] → s.dev.fab.acked = [] →
        ∃ d : Dev, exec (.fabricGiveUp p w.frame.seq) s = .next (s.withDev (d.answered 0x64 h stPartnerGone []))
          ∧ d = { s.dev with hl := x.hl, fab := { s.dev.fab with ports := d.fab.ports } } ∧ (d.site p).awaits = []) ∧
      (w.cmd = none → w.frame.src ≠ s.dev.fab.addr → w.frame.src ≠ 0xFFFF → s.dev.isOpen 5 = true → s.dev.inConflict w.frame.src = false →
        ∀ p', s.dev.siteRoute w.frame.src = some p' → ∃ d, exec (.fabricGiveUp p w.frame.seq) s = .next (s.withDev d)
          ∧ (p' ≠ p → (d.site p).awaits = [])
          ∧ sends d p' 0xB w.frame.src (leBytes 2 w.frame.src ++ leBytes 2 w.frame.inSeq ++ [stPartnerGone]))) ∧
    (q.awaits = [] → ∀ n, exec (.fabricResend p n) s = .next s ∧ exec (.fabricGiveUp p n) s = .next s) ∧
    (s.dev.siteEnabled p = true → q.nbr.isSome = true → ∃ d, exec (.offsetRemeasure p) s = .next (s.withDev d)
      ∧ (d.site p).off = { q.off with best := none, rounds := 0, t1 := s.dev.now }
      ∧ sends d p 4 (s.dev.nbrAddr p) (leBytes 8 s.dev.now)) ∧
    (∀ l, (s.dev.siteEnabled p = true →
        exec (.phyResetRelease ⟨p, l⟩) s = .next (s.withDev (s.dev.setSite p { q with phyUp := true, link := l }))) ∧
      (s.dev.siteEnabled p = false → exec (.phyResetRelease ⟨p, l⟩) s = .next s)) ∧
    (∀ l, (s.dev.siteEnabled p = true → q.phyUp = true →
        exec (.phyInterrupt p l) s = .next (s.withDev (s.dev.setSite p { q with link := l }))) ∧
      (q.phyUp = false → exec (.phyInterrupt p l) s = .next s))

/-- Commands served by the link. FABRIC_JOIN with DOOR open enables the named ports, starts HELLO there and takes FAB_ADDR as the
address when the node has none; FABRIC_LEAVE stops HELLO, forgets the neighbours of the ports and floods this node's record.
With AUTH off and a route: FABRIC_TABLE of at most 1,016 bytes stays in progress while its TABLE frame waits for its ACK,
FABRIC_SEND without ACK sends a USER frame and is answered, with ACK it stays in progress; without a route, and with DOOR
closed, they are PARTNER_GONE, in a conflict ADDRESS_CONFLICT. FETCH answers the oldest received USER frame and what was lost.
TIME_ALIGN answers a stack partner's time less the offset with error 4, a neighbour's with error 1,000, and a farther node's with
error 1,000 for each hop; this device or node is
BAD_PARAM, an unmeasured partner PARTNER_GONE.
Where the spec leaves it to a reading, this is the model's own, in log entries 98, 99, 101, 106 and 174. -/
def Obligations.FabricCommands : Prop :=
  ∀ (s : State) (h : CmdHdr),
    let answers := fun (i : Instr) (op st : Byte) (data : List Byte) => exec i s = .next (s.withDev (s.dev.answered op h st data))
    let frame := fun (d : Dev) (p typ dst : Nat) (ack : Bool) (payload : List Byte) (g : SiteFrame) =>
      (d.site p).lastTx = some g ∧ (d.site p).txSeq = ((s.dev.site p).txSeq + 1) % 65536 ∧ g.seq = (s.dev.site p).txSeq ∧ g.typ = typ
        ∧ g.dst = dst ∧ g.ackReq = ack ∧ g.src = s.dev.fab.addr ∧ g.payload = payload
    (s.dev.serves 0x61 = true → ∀ ports : Byte,
      (ports.toNat > 3 → answers (.fabricJoin h ports) 0x61 stBadParam []) ∧
      (ports.toNat ≤ 3 → s.dev.isOpen 5 = false → answers (.fabricJoin h ports) 0x61 stPartnerGone []) ∧
      (ports.toNat ≤ 3 → s.dev.isOpen 5 = true → ∃ d : Dev, exec (.fabricJoin h ports) s = .next (s.withDev (d.answered 0x61 h stOk []))
        ∧ d = { s.dev with regs := d.regs, fab := d.fab }
        ∧ (∀ p, p < 2 → d.bitAt 0xB0100 p = (s.dev.bitAt 0xB0100 p || bitOf ports.toNat p)
          ∧ d.site p = { s.dev.site p with hello := (s.dev.site p).hello || bitOf ports.toNat p })
        ∧ (s.dev.fab.addr ≠ 0 → d.fab.addr = s.dev.fab.addr)
        ∧ (s.dev.fab.addr = 0 → s.dev.fldAt 0xB0104 0 16 ≠ 0 → d.fab.addr = s.dev.fldAt 0xB0104 0 16 ∧ d.fab.origin = 2)
        ∧ (s.dev.fab.addr = 0 → s.dev.fldAt 0xB0104 0 16 = 0 → d.fab.origin = 1 ∧ d.fab.addr =
            (let a := crc32 (leBytes 12 Config.uid.toNat) % 65536; if a = 0 ∨ a = 0xFFFF then Nat.xor a 0x5A5A else a)))) ∧
    (s.dev.serves 0x62 = true → s.dev.chk.src = [] → ∀ ports : Byte,
      (ports.toNat > 3 → answers (.fabricLeave h ports) 0x62 stBadParam []) ∧
      (ports.toNat ≤ 3 → s.dev.isOpen 5 = true → ∃ d : Dev, exec (.fabricLeave h ports) s = .next (s.withDev (d.answered 0x62 h stOk []))
        ∧ d.fab.adjSeq = (s.dev.fab.adjSeq + 1) % 2 ^ 32 ∧ d.fab.addr = s.dev.fab.addr
        ∧ (∀ p, p < 2 → bitOf ports.toNat p = true → (d.site p).hello = false ∧ (d.site p).nbr = none)
        ∧ (∀ p, p < 2 → bitOf ports.toNat p = false → (d.site p).hello = (s.dev.site p).hello ∧ (d.site p).nbr = (s.dev.site p).nbr))) ∧
    (s.dev.serves 0x63 = true → s.dev.bitAt 0xB0100 2 = false → ∀ (table : Byte) (dest : Half) (offset : Word) (data : List Byte),
      data ≠ [] → table.toNat ≤ 63 → dest ≠ 0xFFFF →
      (data.length > 4088 → answers (.fabricTable h table dest offset data) 0x63 stBadLength []) ∧
      (data.length ≤ 4088 → s.dev.isOpen 5 = false ∨ (s.dev.inConflict dest.toNat = false ∧ s.dev.siteRoute dest.toNat = none) →
        answers (.fabricTable h table dest offset data) 0x63 stPartnerGone []) ∧
      (data.length ≤ 4088 → s.dev.isOpen 5 = true → s.dev.inConflict dest.toNat = true →
        answers (.fabricTable h table dest offset data) 0x63 stAddressConflict []) ∧
      (∀ p, data.length ≤ 1016 → s.dev.isOpen 5 = true → s.dev.inConflict dest.toNat = false → s.dev.siteRoute dest.toNat = some p →
        ∃ d g, exec (.fabricTable h table dest offset data) s = .next (s.withDev d)
          ∧ d = { s.dev.taken 0x63 ([table, 0] ++ leBytes 2 dest.toNat ++ leBytes 4 offset.toNat ++ data) h with
              fab := { s.dev.fab with ports := d.fab.ports, tableCmds := s.dev.fab.tableCmds ++ [(hostCmdOf 0x63 h, 1)] } }
          ∧ (d.site p).awaits = (s.dev.site p).awaits ++ [{ frame := g, cmd := some (hostCmdOf 0x63 h) }]
          ∧ frame d p 9 dest.toNat true (leBytes 1 table.toNat ++ [0, 0, 0] ++ leBytes 4 offset.toNat ++ data) g)) ∧
    (s.dev.serves 0x64 = true → s.dev.bitAt 0xB0100 2 = false → ∀ (dest : Half) (b : List Byte), dest ≠ 0xFFFF →
      b ≠ [] → b.length ≤ 1024 → refsOk b = true →
      (s.dev.isOpen 5 = false → answers (.fabricSend h 0 dest b) 0x64 stPartnerGone []) ∧
      (∀ p, s.dev.isOpen 5 = true → s.dev.inConflict dest.toNat = false → s.dev.siteRoute dest.toNat = some p →
        (∃ d g, exec (.fabricSend h 0 dest b) s = .next (s.withDev (Dev.answered d 0x64 h stOk []))
          ∧ d = { s.dev with fab := { s.dev.fab with ports := d.fab.ports } } ∧ frame d p 0xA dest.toNat false b g
          ∧ (d.site p).awaits = (s.dev.site p).awaits) ∧
        (∃ d g, exec (.fabricSend h 1 dest b) s = .next (s.withDev d)
          ∧ d = { s.dev.taken 0x64 ([0, 1] ++ leBytes 2 dest.toNat ++ b) h with fab := { s.dev.fab with ports := d.fab.ports } }
          ∧ frame d p 0xA dest.toNat true b g
          ∧ (d.site p).awaits = (s.dev.site p).awaits ++ [{ frame := g, cmd := some (hostCmdOf 0x64 h) }]))) ∧
    (s.dev.serves 0x64 = true →
      (s.dev.fab.users = [] → answers (.fabricFetch h) 0x64 stOk []) ∧
      (∀ src b rest, s.dev.fab.users = (src, b) :: rest → b.length ≤ 1024 →
        exec (.fabricFetch h) s = .next (s.withDev (Dev.answered { s.dev with fab := { s.dev.fab with users := rest, userDropped := 0 } }
          0x64 h stOk (leBytes 2 src ++ leBytes 2 b.length ++ leBytes 2 s.dev.fab.userDropped ++ [0, 0] ++ b))))) ∧
    (s.dev.serves 0x65 = true → ∀ (who : Half) (time : DWord),
      (who.toNat > 3 ∨ who.toNat = s.dev.stackId → answers (.timeAlign h 0 who time) 0x65 stBadParam []) ∧
      (who.toNat ≤ 3 → who.toNat ≠ s.dev.stackId → (∀ e ∈ s.dev.stk.offs, e.1 ≠ who.toNat) →
        answers (.timeAlign h 0 who time) 0x65 stPartnerGone []) ∧
      (∀ o, who.toNat ≤ 3 → who.toNat ≠ s.dev.stackId → s.dev.stk.offs = [(who.toNat, o)] → answers (.timeAlign h 0 who time) 0x65 stOk
        (leBytes 8 (tc 64 ((time.toNat : Int) - o)) ++ leBytes 4 4 ++ leBytes 4 0)) ∧
      (who.toNat = s.dev.fab.addr → answers (.timeAlign h 1 who time) 0x65 stBadParam []) ∧
      (∀ p o t, who.toNat ≠ s.dev.fab.addr → s.dev.sitePath who.toNat = some (1, p) → (s.dev.site p).off.done = some (o, t) →
        (s.dev.site p).off.rate = 0 → answers (.timeAlign h 1 who time) 0x65 stOk
          (leBytes 8 (tc 64 ((time.toNat : Int) - o)) ++ leBytes 4 1000 ++ leBytes 4 0)) ∧
      (∀ hops p m, who.toNat ≠ s.dev.fab.addr → s.dev.sitePath who.toNat = some (hops, p) → (s.dev.site p).off.done = some m → 2 ≤ hops →
        ∃ loc rate, exec (.timeAlign h 1 who time) s = .next (s.withDev (Dev.answered { s.dev with free := s.dev.free + 1 } 0x65 h stOk
          (leBytes 8 loc ++ leBytes 4 (1000 * hops) ++ leBytes 4 rate)))))

/-! ### The whole machine -/

/-- For every command and every state, a step with the command at the front of the queue is exec of the command on the state with
the queue's rest. On an empty queue one core tick of 1.25 ns passes, which is the model's choice (log entry 2): with the clocks
running frame time advances by one, outside reset the units that move on every tick do, and the lintel's counter counts; in a
CORERST with the lintel crystal stopped nothing but frame time changes, and with the clocks stopped too nothing at all. -/
def Obligations.StepRunsTheFrontCommand : Prop :=
  (∀ (c : Instr) (s : State) (rest : List Instr),
    step { s with pending := c :: rest } = exec c { s with pending := rest }) ∧
  (∀ s : State, s.pending = [] →
    let next := { s.dev with sys := { s.dev.sys with ft := s.dev.sys.ft + 1 } }
    (s.dev.clocked = true → s.dev.rst.asserted = none → step s = .next (s.withDev (tickRtc next.tickUnits))) ∧
    (s.dev.clocked = true → s.dev.rst.asserted = some .core → s.dev.lin.clkOk = false → step s = .next (s.withDev next)) ∧
    (s.dev.clocked = false → s.dev.lin.clkOk = false → step s = .next s))

/-- Whatever the state, every command of the table answers a next state: the block refuses a command by a reply, never by
stopping. The commands that wait stay in their order. So every step answers a next state. -/
def Obligations.EveryCommandCompletes : Prop :=
  (∀ (c : Instr) (s : State), ∃ t, exec c s = .next t ∧ t.pending = s.pending) ∧ (∀ s : State, SafeStep s)

/-- Whatever a step does (any command, reset, tamper event or tick), a seal bit that is blown stays blown, the bytes of the key
hash that are burned stay as they are, and a sealed device stays sealed; the hash never exceeds its 256 bits. The device is
sealed exactly when at least two of the three bits are blown; option load and the end of SEAL read the fuses into what
DB_STATUS.SEALED reports. -/
def Obligations.FusesAreNeverCleared : Prop :=
  (∀ s t : State, s.fuses.hash.length ≤ 32 → step s = .next t →
    t.fuses.hash.length ≤ 32 ∧ s.fuses.hash <+: t.fuses.hash
      ∧ (s.fuses.seal0 = true → t.fuses.seal0 = true) ∧ (s.fuses.seal1 = true → t.fuses.seal1 = true)
      ∧ (s.fuses.seal2 = true → t.fuses.seal2 = true) ∧ (s.fuses.isSealed = true → t.fuses.isSealed = true)) ∧
  (∀ f : Fuses, f.isSealed = true ↔ (f.seal0 = true ∧ f.seal1 = true) ∨ (f.seal0 = true ∧ f.seal2 = true)
    ∨ (f.seal1 = true ∧ f.seal2 = true)) ∧
  (∀ s a b, s.dev.clocked = true → s.dev.rst.optionLoad = true → ∃ t, exec (.optionLoadComplete a b) s = .next t
    ∧ t.dev.db.sealed = t.fuses.isSealed ∧ t.dev.db.hash = t.fuses.hash) ∧
  (∀ s c h, s.dev.db.burning = some (c, h) → ∃ t, exec .sealBurnComplete s = .next t
    ∧ t.dev.db.sealed = t.fuses.isSealed ∧ t.dev.db.hash = t.fuses.hash) ∧
  (∀ (s : State) (h : CmdHdr), s.dev.serves 0x07 = true → s.dev.regOpen 0xD0000 = true → ∃ w : Word,
    exec (.readReg h 0xD0000 1) s = .next (s.withDev (s.dev.answered 0x07 h stOk (wordBytes w)))
      ∧ w.getLsbD 0 = s.dev.db.sealed)

/-- The state after the first power-up: no command waits; the main state is WAKING with option load in progress and RSTOUT_N low;
the reset count is 1, the history holds one LINTEL_POR entry and RST_CAUSE names it; the host link is not ready and empty; every
other register reads its header's value; TAMPER_POLICY holds its default; no fuse is burned (the model's choice) and every
memory is in its canonical form, so the invariants hold at reset.
Where the spec leaves it to a reading, this is the model's own, in log entries 3, 10, 11 and 177. -/
def Obligations.ResetLeavesTheSpecsValues : Prop :=
  State.reset.pending = [] ∧ State.reset.dev.sys.main = .waking ∧ State.reset.dev.rst.optionLoad = true
    ∧ State.reset.dev.rst.rstoutLow = true ∧ State.reset.dev.rst.asserted = none ∧ State.reset.dev.rst.hingeUp = false
    ∧ State.reset.dev.lin.count = 1 ∧ State.reset.dev.lin.hist.map (· % 64) = [10 + 16 * 3]
    ∧ State.reset.dev.fldAt 0x10100 0 4 = 10 ∧ State.reset.dev.fldAt 0x10100 4 2 = 3
    ∧ State.reset.dev.hl.ready = false ∧ State.reset.dev.hl.slots = [] ∧ State.reset.dev.hl.stream = []
    ∧ (∀ a, a ≠ 0x10100 → State.reset.dev.reg a = (regSpec a).reset)
    ∧ State.reset.dev.lin.policy = 0xA005 ∧ State.reset.dev.db.sealed = State.reset.fuses.isSealed
    ∧ State.reset.fuses.hash = [] ∧ State.reset.fuses.isSealed = false ∧ Memory.wf State.reset = true

/-- The rows of the legality matrix, by opcode, with their entries for WAKING, DOORSTEP, AJAR, OPEN and DOZING (0 N, 1 Y, 2 O). For
the one queued command of a device that takes it, is a master, not BOLTED, not in ALARM and not sealed: at Y the command has its
own effect (which may still be a refusal); at N it is answered STATE_REFUSED with the state word, DEV_REFUSED counts it and names
its opcode, and nothing else changes; at O the device enters AJAR, the start has succeeded, and the command then has its own
effect. -/
def Obligations.LegalityMatrix : Prop :=
  ∀ (s : State) (sl : CmdSlot) (ops entries : List Nat) (k e : Nat) (m : MainState),
    (ops, entries) ∈ [
      ([0x00, 0x01, 0x02, 0x03, 0x07, 0x70, 0x93, 0x94], [1, 1, 1, 1, 1]),
      ([0x04], [1, 0, 0, 0, 0]),
      ([0x05], [0, 1, 0, 0, 0]),
      ([0x06], [1, 0, 1, 1, 1]),
      ([0x08, 0x10, 0x11, 0x13, 0x14, 0x25, 0x35, 0x50, 0x51, 0x52, 0x53, 0x54, 0x55, 0x56, 0x57, 0x58, 0x59,
        0x71, 0x72, 0x73, 0x80, 0x81, 0x82, 0x84, 0x85, 0x92], [2, 0, 1, 1, 1]),
      ([0x12], [2, 0, 1, 0, 0]),
      ([0x20, 0x21, 0x22, 0x23, 0x24, 0x26, 0x30, 0x31, 0x32, 0x33, 0x34, 0x36, 0x40, 0x41, 0x42, 0x43,
        0x60, 0x61, 0x62, 0x63, 0x64, 0x65, 0x83, 0x90, 0x91], [2, 0, 1, 1, 0])] →
    [MainState.waking, .doorstep, .ajar, .opened, .dozing][k]? = some m → entries[k]? = some e →
    sl.op.toNat ∈ ops → s.dev.sys.main = m →
    s.dev.clocked = true → s.dev.hl.slots = [sl] → sl.phase = .queued → s.dev.hl.linkReplies = [] → s.dev.hl.stream = [] → s.dev.takes sl.op = true →
    s.dev.stk.role = 0 → s.dev.stk.former = false → s.dev.stackId = 0 ∨ bitOf s.dev.rst.straps 0 = false →
    s.dev.dbg.bolted = false → s.dev.lin.alarm = false → s.dev.db.sealed = false →
    let x := s.dev.withHl { s.dev.hl with slots := [{ sl with phase := .taken }] }
    (e = 1 → exec (.commandTaken false) s = .next (s.withDev (runOpcode sl.flags sl.params (sl.cmd none) x))) ∧
    (e = 0 → ∃ d, exec (.commandTaken false) s = .next (s.withDev d)
      ∧ d = { s.dev with
          regs := d.regs
          hl := { s.dev.hl with slots := [] }.push
            { bytes := replyPacket sl.op sl.tag stStateRefused (leBytes 4 s.dev.stateWord), flagged := true, verdict := false } }
      ∧ d.fldAt 0x108 0 16 = satInc 16 (s.dev.fldAt 0x108 0 16) ∧ d.fldAt 0x108 16 8 = sl.op.toNat) ∧
    (e = 2 → ∃ y, exec (.commandTaken false) s = .next (s.withDev (runOpcode sl.flags sl.params (sl.cmd none) y))
      ∧ y.sys.main = .ajar ∧ y.rst.starting = false ∧ y.lin.failCount = 0 ∧ y.hl.slots = x.hl.slots)

/-- When the neighbour of a site port would be lost on the tick on which a HELLO arrives, the neighbour stays found with its
offset measurement, nothing is reported or flooded, and LINK_NEARMISS.FABRIC is incremented, up to its top value. -/
def Obligations.HelloWinsTheLossTick : Prop :=
  ∀ (s : State) (p : Nat) (n : Nbr), p < 2 → s.dev.clocked = true → (s.dev.site p).nbr = some n →
    ∃ d, exec (.neighbourLost p true) s = .next (s.withDev d) ∧ d = { s.dev with regs := d.regs } ∧ (d.site p).nbr = some n
      ∧ d.fldAt 0xB0110 16 16 = satInc 16 (s.dev.fldAt 0xB0110 16 16) ∧ d.fldAt 0xB0110 0 16 = s.dev.fldAt 0xB0110 0 16
      ∧ (∀ a, a ≠ 0xB0110 → d.reg a = s.dev.reg a)
end

