-- ==== Sys2Proof/Laws/Tab.lean ====
section
/-! SUPPORT. Sparse tables: what is stored is read back, every other key reads as before, and every operation keeps the
canonical form. -/
namespace Sys2Proof.Machine.Tab
variable {α : Type}

theorem get_del_same (d : Nat → α) (t : Tab α) (k : Nat) : get d (del t k) k = d k := by
  induction t with
  | nil => rfl
  | cons e t ih =>
    by_cases h : e.1 = k
    · simp [del, h, ih]
    · simp [del, h, get, ih]

theorem get_del_other (d : Nat → α) (t : Tab α) {k j : Nat} (h : j ≠ k) : get d (del t k) j = get d t j := by
  induction t with
  | nil => rfl
  | cons e t ih =>
    by_cases he : e.1 = k
    · simp [del, he, get, ih, Ne.symm h]
    · simp [del, he, get, ih]

theorem get_put_same (d : Nat → α) (t : Tab α) (k : Nat) (a : α) : get d (put t k a) k = a := by
  induction t with
  | nil => simp [put, get]
  | cons e t ih =>
    simp only [put]
    split
    · simp [get]
    · split
      · simp [get]
      · have : e.1 ≠ k := fun h => by simp_all
        simp [get, this, ih]

theorem get_put_other (d : Nat → α) (t : Tab α) {k j : Nat} (a : α) (h : j ≠ k) :
    get d (put t k a) j = get d t j := by
  have h' : k ≠ j := Ne.symm h
  induction t with
  | nil => simp [put, get, h']
  | cons e t ih =>
    simp only [put]
    split
    · simp [get, h']
    · split
      · have : e.1 ≠ j := by omega
        simp [get, h', this]
      · simp [get, ih]

/-- What is stored at a key is read there. -/
@[simp] theorem get_set_same [DecidableEq α] (d : Nat → α) (t : Tab α) (k : Nat) (a : α) : get d (set d t k a) k = a := by
  unfold set
  split
  · rename_i h
    rw [get_del_same, h]
  · exact get_put_same d t k a

/-- A store leaves every other key as it was. -/
theorem get_set_other [DecidableEq α] (d : Nat → α) (t : Tab α) {k j : Nat} (a : α) (h : j ≠ k) :
    get d (set d t k a) j = get d t j := by
  unfold set
  split
  · exact get_del_other d t h
  · exact get_put_other d t a h

theorem get_set [DecidableEq α] (d : Nat → α) (t : Tab α) (k j : Nat) (a : α) :
    get d (set d t k a) j = if j = k then a else get d t j := by
  split
  · subst_vars
    exact get_set_same d t _ a
  · exact get_set_other d t a ‹_›

/-- A store of a list leaves every key outside its range as it was. -/
theorem get_setList_other [DecidableEq α] (d : Nat → α) (l : List α) : ∀ (t : Tab α) (k j : Nat), (j < k ∨ k + l.length ≤ j) →
    get d (setList d t k l) j = get d t j := by
  induction l with
  | nil => intro t k j _; rfl
  | cons a l ih =>
    intro t k j h
    rw [List.length_cons] at h
    rw [setList, ih _ _ _ (by omega), get_set_other d t a (by omega)]

/-- A stored list is read at its keys. -/
theorem get_setList [DecidableEq α] (d : Nat → α) (l : List α) : ∀ (t : Tab α) (k i : Nat) (h : i < l.length),
    get d (setList d t k l) (k + i) = l[i] := by
  induction l with
  | nil => intro t k i h; simp at h
  | cons a l ih =>
    intro t k i h
    rw [setList]
    cases i with
    | zero => rw [get_setList_other d l _ _ _ (by omega)]; simp
    | succ i =>
      have := ih (set d t k a) (k + 1) i (by simpa using h)
      simpa [Nat.add_assoc, Nat.add_comm 1 i] using this

/-! ### The canonical form -/

theorem rising_mono (t : Tab α) : ∀ {lo hi : Nat}, lo ≤ hi → rising hi t = true → rising lo t = true := by
  cases t with
  | nil => intros; rfl
  | cons e t => intro lo hi h hr; simp only [rising, Bool.and_eq_true, decide_eq_true_eq] at *; exact ⟨by omega, hr.2⟩

theorem rising_del (t : Tab α) (k : Nat) : ∀ (lo : Nat), rising lo t = true → rising lo (del t k) = true := by
  induction t with
  | nil => intro lo h; exact h
  | cons e t ih =>
    intro lo h
    simp only [rising, Bool.and_eq_true, decide_eq_true_eq] at h
    simp only [del]
    split
    · exact ih lo (rising_mono t (by omega) h.2)
    · simp only [rising, Bool.and_eq_true, decide_eq_true_eq]
      exact ⟨h.1, ih _ h.2⟩

theorem rising_put (t : Tab α) (k : Nat) (a : α) : ∀ (lo : Nat), lo ≤ k → rising lo t = true → rising lo (put t k a) = true := by
  induction t with
  | nil => intro lo hk _; simp [put, rising, hk]
  | cons e t ih =>
    intro lo hk h
    simp only [rising, Bool.and_eq_true, decide_eq_true_eq] at h
    simp only [put]
    split
    · simp only [rising, Bool.and_eq_true, decide_eq_true_eq]
      exact ⟨hk, by omega, h.2⟩
    · split
      · subst_vars
        simp only [rising, Bool.and_eq_true, decide_eq_true_eq]
        exact ⟨hk, h.2⟩
      · simp only [rising, Bool.and_eq_true, decide_eq_true_eq]
        exact ⟨h.1, ih _ (by omega) h.2⟩

theorem mem_del (t : Tab α) (k : Nat) (e : Nat × α) (h : e ∈ del t k) : e ∈ t := by
  induction t with
  | nil => simp [del] at h
  | cons x t ih =>
    simp only [del] at h
    split at h
    · exact List.mem_cons_of_mem _ (ih h)
    · rcases List.mem_cons.1 h with h | h
      · exact h ▸ List.mem_cons_self ..
      · exact List.mem_cons_of_mem _ (ih h)

theorem mem_put (t : Tab α) (k : Nat) (a : α) (e : Nat × α) (h : e ∈ put t k a) : e = (k, a) ∨ e ∈ t := by
  induction t with
  | nil => simpa [put] using h
  | cons x t ih =>
    simp only [put] at h
    split at h
    · simpa using h
    · split at h
      · rcases List.mem_cons.1 h with h | h
        · exact .inl h
        · exact .inr (List.mem_cons_of_mem _ h)
      · rcases List.mem_cons.1 h with h | h
        · exact .inr (h ▸ List.mem_cons_self ..)
        · exact (ih h).imp id (List.mem_cons_of_mem _)

theorem wf_iff [DecidableEq α] (d : Nat → α) (t : Tab α) : wf d t = true ↔ rising 0 t = true ∧ ∀ e ∈ t, e.2 ≠ d e.1 := by
  simp [wf]

theorem wf_nil [DecidableEq α] (d : Nat → α) : wf d ([] : Tab α) = true := rfl

/-- A store keeps the canonical form. -/
theorem wf_set [DecidableEq α] (d : Nat → α) (t : Tab α) (k : Nat) (a : α) (h : wf d t = true) : wf d (set d t k a) = true := by
  rw [wf_iff] at *
  unfold set
  split
  · exact ⟨rising_del t k 0 h.1, fun e he => h.2 e (mem_del t k e he)⟩
  · refine ⟨rising_put t k a 0 (Nat.zero_le _) h.1, fun e he => ?_⟩
    rcases mem_put t k a e he with rfl | he
    · assumption
    · exact h.2 e he

/-- A store of a list keeps the canonical form. -/
theorem wf_setList [DecidableEq α] (d : Nat → α) (l : List α) : ∀ (t : Tab α) (k : Nat), wf d t = true →
    wf d (setList d t k l) = true := by
  induction l with
  | nil => intro t k h; exact h
  | cons a l ih => intro t k h; exact ih _ _ (wf_set d t k a h)

theorem rising_filter (p : Nat × α → Bool) (t : Tab α) : ∀ (lo : Nat), rising lo t = true → rising lo (t.filter p) = true := by
  induction t with
  | nil => intro lo h; exact h
  | cons e t ih =>
    intro lo h
    simp only [rising, Bool.and_eq_true, decide_eq_true_eq] at h
    simp only [List.filter_cons]
    split
    · simp only [rising, Bool.and_eq_true, decide_eq_true_eq]
      exact ⟨h.1, ih _ h.2⟩
    · exact ih lo (rising_mono t (by omega) h.2)

/-- Dropping entries keeps the canonical form. -/
theorem wf_keep [DecidableEq α] (d : Nat → α) (p : Nat → Bool) (t : Tab α) (h : wf d t = true) : wf d (keep p t) = true := by
  rw [wf_iff] at *
  exact ⟨rising_filter _ t 0 h.1, fun e he => h.2 e (List.mem_filter.1 he).1⟩

/-- Dropping a range keeps the canonical form. -/
theorem wf_dropRange [DecidableEq α] (d : Nat → α) (lo n : Nat) (t : Tab α) (h : wf d t = true) :
    wf d (dropRange lo n t) = true := wf_keep d _ t h

end Sys2Proof.Machine.Tab
end

