-- ==== Sys2Proof/Laws/Bits.lean ====
section
/-! SUPPORT. Bit fields of words and of registers: a field that is written reads as written, and every other register reads
as before. -/
namespace Sys2Proof.Machine

theorem wfld_le (w : Word) (lo n : Nat) : wfld w lo n * 2 ^ lo ≤ w.toNat := by
  unfold wfld fld
  calc w.toNat / 2 ^ lo % 2 ^ n * 2 ^ lo ≤ w.toNat / 2 ^ lo * 2 ^ lo := Nat.mul_le_mul_right _ (Nat.mod_le _ _)
    _ ≤ w.toNat := Nat.div_mul_le_self _ _

/-- A word splits into the bits above a field, the field and the bits below. -/
theorem split_field (v lo n : Nat) : v = (v / 2 ^ (lo + n)) * 2 ^ (lo + n) + fld v lo n * 2 ^ lo + v % 2 ^ lo := by
  have h1 := Nat.div_add_mod v (2 ^ lo)
  have h2 := Nat.div_add_mod (v / 2 ^ lo) (2 ^ n)
  have h3 : v / 2 ^ lo / 2 ^ n = v / 2 ^ (lo + n) := by rw [Nat.div_div_eq_div_mul, ← Nat.pow_add]
  rw [h3] at h2
  unfold fld
  calc v = 2 ^ lo * (v / 2 ^ lo) + v % 2 ^ lo := h1.symm
    _ = 2 ^ lo * (2 ^ n * (v / 2 ^ (lo + n)) + v / 2 ^ lo % 2 ^ n) + v % 2 ^ lo := by rw [h2]
    _ = _ := by rw [Nat.mul_add, Nat.pow_add]; ac_rfl

theorem fld_build (a x b lo n : Nat) (hx : x < 2 ^ n) (hb : b < 2 ^ lo) :
    fld (a * 2 ^ (lo + n) + x * 2 ^ lo + b) lo n = x := by
  unfold fld
  have e : a * 2 ^ (lo + n) + x * 2 ^ lo + b = 2 ^ lo * (2 ^ n * a + x) + b := by
    rw [Nat.mul_add, Nat.pow_add]; ac_rfl
  rw [e, Nat.mul_add_div (Nat.two_pow_pos lo), Nat.div_eq_of_lt hb, Nat.add_zero, Nat.mul_add_mod, Nat.mod_eq_of_lt hx]

/-- The field that is written reads as written. -/
theorem wfld_wset (w : Word) (lo n v : Nat) (h : lo + n ≤ 32) : wfld (wset w lo n v) lo n = v % 2 ^ n := by
  have hs := split_field w.toNat lo n
  have hw : w.toNat < 2 ^ 32 := w.isLt
  have hv : v % 2 ^ n < 2 ^ n := Nat.mod_lt _ (Nat.two_pow_pos n)
  have hb : w.toNat % 2 ^ lo < 2 ^ lo := Nat.mod_lt _ (Nat.two_pow_pos lo)
  have e : w.toNat - wfld w lo n * 2 ^ lo + v % 2 ^ n * 2 ^ lo
      = w.toNat / 2 ^ (lo + n) * 2 ^ (lo + n) + v % 2 ^ n * 2 ^ lo + w.toNat % 2 ^ lo := by
    unfold wfld; omega
  have hlt : w.toNat / 2 ^ (lo + n) * 2 ^ (lo + n) + v % 2 ^ n * 2 ^ lo + w.toNat % 2 ^ lo < 2 ^ 32 := by
    have h1 : w.toNat / 2 ^ (lo + n) < 2 ^ (32 - (lo + n)) := by
      rw [Nat.div_lt_iff_lt_mul (Nat.two_pow_pos _), ← Nat.pow_add]
      simpa [Nat.sub_add_cancel h] using hw
    have h2 : v % 2 ^ n * 2 ^ lo + w.toNat % 2 ^ lo < 2 ^ (lo + n) := by
      rw [Nat.pow_add, Nat.mul_comm (2 ^ lo)]
      have := Nat.mul_le_mul_right (2 ^ lo) (Nat.succ_le_of_lt hv)
      rw [Nat.succ_mul] at this
      omega
    have h3 := Nat.mul_le_mul_right (2 ^ (lo + n)) (Nat.succ_le_of_lt h1)
    rw [Nat.succ_mul, ← Nat.pow_add, Nat.sub_add_cancel h] at h3
    omega
  unfold wset
  simp only [wfld, BitVec.toNat_ofNat] at *
  rw [e, Nat.mod_eq_of_lt hlt, fld_build _ _ _ _ _ hv hb]

@[simp] theorem reg_setReg_same (d : Dev) (a : Nat) (w : Word) : (d.setReg a w).reg a = w := by
  simp [Dev.reg, Dev.setReg]

theorem reg_setReg_other (d : Dev) {a b : Nat} (w : Word) (h : b ≠ a) : (d.setReg a w).reg b = d.reg b := by
  simp [Dev.reg, Dev.setReg, Tab.get_set_other _ _ _ h]

/-- A register's field that is written reads as written. -/
theorem fldAt_setFld (d : Dev) (a lo n v : Nat) (h : lo + n ≤ 32) : (d.setFld a lo n v).fldAt a lo n = v % 2 ^ n := by
  simp [Dev.fldAt, Dev.setFld, wfld_wset _ _ _ _ h]

/-- Writing a register's field leaves every other register as it was. -/
theorem reg_setFld_other (d : Dev) {a b : Nat} (lo n v : Nat) (h : b ≠ a) : (d.setFld a lo n v).reg b = d.reg b :=
  reg_setReg_other d _ h

/-- A register write changes the register file only. -/
theorem setReg_regs_only (d : Dev) (a : Nat) (w : Word) : d.setReg a w = { d with regs := (d.setReg a w).regs } := rfl

end Sys2Proof.Machine
end

