-- ==== Sys2Proof/Laws/Exec.lean ====
section
/-! SUPPORT. What any command can do at the level of State: it answers a next state, leaves the queue alone, and leaves the
fuses alone but for the two commands that burn or read them. -/
namespace Sys2Proof.Machine

/-- Every command but the two that touch the fuses changes the device and nothing else. -/
theorem exec_dev (i : Instr) (s : State) (h1 : i ≠ .sealBurnComplete) (h2 : ∀ a b, i ≠ .optionLoadComplete a b) :
    ∃ d, exec i s = .next { s with dev := d } := by
  cases i
  case sealBurnComplete => exact absurd rfl h1
  case optionLoadComplete a b => exact absurd rfl (h2 a b)
  all_goals first
    | exact ⟨_, rfl⟩
    | (simp only [exec, execData, execReqUser, execRsp, execRegRd, execRegWr,
        execCredit, execControl, onNet]
       split <;> exact ⟨_, rfl⟩)

end Sys2Proof.Machine
end

