-- ==== Sys2Proof/Laws/HostCmd.lean ====
section
/-! SUPPORT. What the host link does with a command: it is taken at once when the link serves it, and its reply enters the
stream and frees its slot. -/
namespace Sys2Proof.Machine

/-- Logic on a divided clock does what it does while the clocks run, and nothing while they stand (R333, R338). -/
theorem onDev_clocked (s : State) (f : Dev → Dev) (h : s.dev.clocked = true) : onDev s f = .next (s.withDev (f s.dev)) := by
  simp [onDev, onAny, Dev.onClock, h, State.withDev]

theorem onDev_still (s : State) (f : Dev → Dev) (h : s.dev.clocked = false) : onDev s f = .next s := by
  simp [onDev, onAny, Dev.onClock, h]

/-- The same for a unit that BOLTED freezes (R490). -/
theorem onRun_clocked (s : State) (f : Dev → Dev) (h : s.dev.clocked = true) (hb : s.dev.dbg.bolted = false) :
    onRun s f = .next (s.withDev (f s.dev)) := by
  rw [onRun, onDev_clocked s _ h]; simp [Dev.running, hb]

/-- A link that serves a command has its clocks. -/
theorem serves_clocked (d : Dev) (op : Byte) (hs : d.serves op = true) : d.clocked = true := by
  simp only [Dev.serves, Bool.and_eq_true] at hs; exact hs.1.1.1.1.1.1.1.1.1.1

/-- A command that the link serves is executed by its own effect, with its slot taken (R388, R523, R524). -/
theorem hostCmd_serves (d : Dev) (op : Byte) (params : List Byte) (h : CmdHdr) (f : Cmd → Dev → Dev) (hs : d.serves op = true) :
    Dev.hostCmd op params h f d = f (hostCmdOf op h) (d.taken op params h) := by
  simp only [Dev.serves, Bool.and_eq_true, List.isEmpty_iff, beq_iff_eq, Bool.or_eq_true, Bool.not_eq_true',
    Option.isNone_iff_eq_none] at hs
  obtain ⟨⟨⟨⟨⟨⟨⟨⟨⟨⟨_, hr⟩, hsl⟩, hlr⟩, hst⟩, ht⟩, ha⟩, hsp⟩, hl⟩, hb⟩, hdb⟩ := hs
  have hn : ¬ (d.dbg.bolted && !boltedAllows op.toNat) = true := by cases hb <;> simp [*]
  have hsp' : spiServes (d.taken op params h) op.toNat = true := hsp
  have hdb' : deadboltDenies (d.taken op params h) op.toNat = none := hdb
  have hn' : ¬ ((d.taken op params h).dbg.bolted && !boltedAllows op.toNat) = true := hn
  have hl' : legal op.toNat (d.taken op params h).sys.main = .y := hl
  have e : Dev.hostCmd op params h f d = (d.taken op params h).judge (hostCmdOf op h) f := by
    simp [Dev.hostCmd, hr, hsl, ht, Dev.taken, hostCmdOf]
  rw [e]
  simp only [Dev.judge, hostCmdOf, ha, hsp', hl']
  simp [hn']
  rw [hdb']

theorem leBytes_length (n v : Nat) : (leBytes n v).length = n := by
  induction n generalizing v with
  | zero => rfl
  | succ n ih => simp [leBytes, ih]

theorem replyPacket_length (op tag st : Byte) (data : List Byte) : (replyPacket op tag st data).length = 8 + data.length := by
  simp [replyPacket, withCrc, leBytes_length]; omega

/-- A reply to the one command that holds a slot enters the empty stream and frees the slot (R519, R526, R528). -/
theorem reply_taken (d : Dev) (op : Byte) (h : CmdHdr) (st : Byte) (data : List Byte) (sl : CmdSlot)
    (hs : d.hl.slots = [sl]) (htag : sl.tag = h.tag) (hph : sl.phase = .taken) (hl : d.hl.linkReplies = []) (hst : d.hl.stream = [])
    (hd : data.length ≤ 16376) : d.reply (hostCmdOf op h) st data = d.answered op h st data := by
  have ht : takenSlot h.tag sl = true := by simp [takenSlot, htag, hph]
  have hr : d.hl.repliesWaiting = false := by simp [HostLink.repliesWaiting, hs, hph]
  have hroom : d.hl.room (replyPacket op h.tag st data) = true := by
    simp [HostLink.room, streamBytes, hst, replyPacket_length]; omega
  simp [Dev.reply, hostCmdOf, Dev.answered, hs, ht, hr, hl, hroom]

/-- The reply of a host command that the link served, whatever the command did to the rest of the device (R519, R526, R528). -/
theorem reply_of_taken (x : Dev) (op : Byte) (ps : List Byte) (h : CmdHdr) (st : Byte) (data : List Byte)
    (hl : x.hl.linkReplies = []) (hst : x.hl.stream = []) (hd : data.length ≤ 16376) :
    (x.taken op ps h).reply (hostCmdOf op h) st data = x.answered op h st data :=
  reply_taken (x.taken op ps h) op h st data _ rfl rfl rfl hl hst hd

/-- The same for a reply without DATA. -/
theorem refuse_of_taken (x : Dev) (op : Byte) (ps : List Byte) (h : CmdHdr) (st : Byte) (hl : x.hl.linkReplies = [])
    (hst : x.hl.stream = []) : (x.taken op ps h).refuse (hostCmdOf op h) st = x.answered op h st [] :=
  reply_of_taken x op ps h st [] hl hst (by simp)

/-- OK without DATA. -/
theorem ok_of_taken (x : Dev) (op : Byte) (ps : List Byte) (h : CmdHdr) (hl : x.hl.linkReplies = []) (hst : x.hl.stream = []) :
    (x.taken op ps h).ok (hostCmdOf op h) = x.answered op h stOk [] :=
  reply_of_taken x op ps h stOk [] hl hst (by simp)

/-- What a link that serves a command has free. -/
theorem serves_free (d : Dev) (op : Byte) (hs : d.serves op = true) : d.hl.linkReplies = [] ∧ d.hl.stream = [] := by
  simp only [Dev.serves, Bool.and_eq_true, List.isEmpty_iff] at hs
  exact ⟨hs.1.1.1.1.1.1.1.2, hs.1.1.1.1.1.1.2⟩

end Sys2Proof.Machine
end

