-- ==== Sys2Proof/Laws/Memory.lean ====
section
/-! SUPPORT. Every operation on a byte-addressed memory (sill, jamb, key store, casement SRAM) keeps its canonical form, reads
back what it stored, and leaves every other byte alone. -/
namespace Sys2Proof.Machine

/-- A store to sill keeps the canonical form of sill and touches no other memory (R183, R192). -/
theorem sillStore_wf (d : Dev) (a : Nat) (bs : List Byte) (h : Tab.wf (fun _ => (0 : Byte)) d.sill.mem = true) :
    Tab.wf (fun _ => (0 : Byte)) (d.sillStore a bs).sill.mem = true := Tab.wf_setList _ bs _ a h

/-- A stored byte reads back (R192). -/
theorem sillStore_get (d : Dev) (a i : Nat) (bs : List Byte) (h : i < bs.length) :
    Tab.get (fun _ => (0 : Byte)) (d.sillStore a bs).sill.mem (a + i) = bs[i] := Tab.get_setList _ bs _ a i h

/-- A store to sill leaves every byte outside its range alone (R192). -/
theorem sillStore_other (d : Dev) (a x : Nat) (bs : List Byte) (h : x < a ∨ a + bs.length ≤ x) :
    Tab.get (fun _ => (0 : Byte)) (d.sillStore a bs).sill.mem x = Tab.get (fun _ => 0) d.sill.mem x :=
  Tab.get_setList_other _ bs _ a x h

/-- Zeroing a range of sill keeps the canonical form (R194). -/
theorem sillZero_wf (d : Dev) (a n : Nat) (h : Tab.wf (fun _ => (0 : Byte)) d.sill.mem = true) :
    Tab.wf (fun _ => (0 : Byte)) (d.sillZero a n).sill.mem = true := Tab.wf_dropRange _ a n _ h

/-- A loss of sill's power keeps the canonical form of what is left (R198, R330). -/
theorem sillLost_wf (d : Dev) (retain : Bool) (h : Tab.wf (fun _ => (0 : Byte)) d.sill.mem = true) :
    Tab.wf (fun _ => (0 : Byte)) (d.sillLost retain).sill.mem = true := by
  cases retain
  · exact Tab.wf_keep _ (fun a => !onChip a) _ h
  · exact h

/-- A jamb page that is stored keeps the canonical form (R432, R435). -/
theorem setPage_wf (j : JambState) (p : Nat) (bs : List Byte) (h : Tab.wf jambDefault j.mem = true) :
    Tab.wf jambDefault (j.setPage p bs).mem = true := Tab.wf_setList _ bs _ _ h

/-- A write into the key store keeps the canonical form and changes no other key byte (R458, R459). -/
theorem writeKeys_wf (d : Dev) (off : Nat) (bs : List Byte) (h : Tab.wf (fun _ => (0 : Byte)) d.lin.keys = true) :
    Tab.wf (fun _ => (0 : Byte)) (d.writeKeys off bs).lin.keys = true := Tab.wf_setList _ bs _ off h

theorem writeKeys_other (d : Dev) (off x : Nat) (bs : List Byte) (h : x < off ∨ off + bs.length ≤ x) :
    Tab.get (fun _ => (0 : Byte)) (d.writeKeys off bs).lin.keys x = Tab.get (fun _ => 0) d.lin.keys x :=
  Tab.get_setList_other _ bs _ off x h

/-- Erasure leaves an empty key store, which is canonical (R470). -/
theorem eraseKeys_wf (d : Dev) : Tab.wf (fun _ => (0 : Byte)) d.eraseKeys.lin.keys = true := rfl

/-- A store to a casement's SRAM keeps its canonical form (R123, R126). -/
theorem sramSetList_wf (m : Tab Byte) (o : Nat) (bs : List Byte) (h : Tab.wf (fun _ => (0 : Byte)) m = true) :
    Tab.wf (fun _ => (0 : Byte)) (Tab.setList (fun _ => 0) m o bs) = true := Tab.wf_setList _ bs _ o h

/-- Zeroing a range of a casement's SRAM keeps its canonical form (R146, R160). -/
theorem sramDrop_wf (m : Tab Byte) (o n : Nat) (h : Tab.wf (fun _ => (0 : Byte)) m = true) :
    Tab.wf (fun _ => (0 : Byte)) (Tab.dropRange o n m) = true := Tab.wf_dropRange _ o n _ h

/-- The memories are canonical at reset. -/
theorem reset_wf : Memory.wf State.reset = true := rfl

end Sys2Proof.Machine
end

