-- ==== Sys2Proof/Laws/Packets.lean ====
section
/-! SUPPORT. Bytes and packets: little-endian numbers, the CRC's range, and a command packet that is read back. -/
namespace Sys2Proof.Machine

/-- Little-endian bytes spell the number they were made from (R8). -/
theorem leNat_leBytes (n v : Nat) : leNat (leBytes n v) = v % 256 ^ n := by
  induction n generalizing v with
  | zero => simp [leBytes, leNat, Nat.mod_one]
  | succ n ih =>
    simp only [leBytes, leNat, ih, BitVec.toNat_ofNat]
    have e : (256 : Nat) ^ (n + 1) = 256 * 256 ^ n := by rw [Nat.pow_succ, Nat.mul_comm]
    rw [e, Nat.mod_mul]

theorem commandPacket_length (op tag : Byte) (params : List Byte) : (commandPacket op tag params).length = 8 + params.length := by
  simp [commandPacket, withCrc, leBytes_length]; omega

theorem commandPacket_shape (op tag : Byte) (params : List Byte) : ∃ a b c e, commandPacket op tag params =
   0xA5#8 :: op :: tag :: 0#8 :: a :: b :: (params ++ [c, e]) ∧ leBytes 2 params.length = [a,b] ∧
   leBytes 2 (crc16 (0xA5#8 :: op :: tag :: 0#8 :: a :: b :: params)) = [c,e] := by
  refine ⟨_, _, _, _, ?_, rfl, rfl⟩
  simp [commandPacket, withCrc, leBytes]

/-- A CRC-16 has 16 bits (R521). -/
theorem crc16_lt (b : List Byte) : crc16 b < 65536 := by
  unfold crc16 crc16From
  have : ∀ (k r : Nat), r < 65536 → crcShift 16 0x1021 k r < 65536 := by
    intro k; induction k with
    | zero => intro r h; exact h
    | succ k ih =>
      intro r h; simp only [crcShift]; apply ih; split
      · exact Nat.xor_lt_two_pow (n := 16) (Nat.mod_lt _ (by decide)) (by decide)
      · exact Nat.mod_lt _ (by decide)
  have h2 : ∀ (l : List Byte) (r : Nat), r < 65536 → (l.foldl (fun r b => crcShift 16 0x1021 8 (Nat.xor r (b.toNat * 256))) r) < 65536 := by
    intro l; induction l with
    | nil => intro r h; exact h
    | cons x l ih => intro r h; exact ih _ (this _ _ (Nat.xor_lt_two_pow (n := 16) h (by have := x.isLt; omega)))
  exact h2 b _ (by decide)

/-- A packet that is built whole is read back as it was built (R518, R521). -/
theorem parseCommand_commandPacket (op tag : Byte) (params : List Byte) (h : params.length ≤ 4096) :
    parseCommand (commandPacket op tag params) = some { op := op, tag := tag, flags := 0, deadline := none, params := params, phase := .queued } := by
  obtain ⟨a, b, c, e, hc, hab, hce⟩ := commandPacket_shape op tag params
  have hlen : leNat [a,b] = params.length := by rw [← hab, leNat_leBytes]; omega
  have hcrc := crc16_lt (0xA5#8 :: op :: tag :: 0#8 :: a :: b :: params)
  have hcrc : leNat [c,e] = crc16 (0xA5#8 :: op :: tag :: 0#8 :: a :: b :: params) := by rw [← hce, leNat_leBytes]; omega
  rw [hc]
  have h3 : ((0xA5#8 :: op :: tag :: 0#8 :: a :: b :: (params ++ [c, e])).drop (6 + params.length)).take 2 = [c,e] := by
    have : (0xA5#8 :: op :: tag :: 0#8 :: a :: b :: (params ++ [c, e])) = (0xA5#8 :: op :: tag :: 0#8 :: a :: b :: params) ++ [c,e] := by simp
    rw [this, List.drop_left' (by simp; omega)]; rfl
  have h4 : ((0xA5#8 :: op :: tag :: 0#8 :: a :: b :: (params ++ [c, e])).take (6 + params.length)) = 0xA5#8 :: op :: tag :: 0#8 :: a :: b :: params := by
    have : (0xA5#8 :: op :: tag :: 0#8 :: a :: b :: (params ++ [c, e])) = (0xA5#8 :: op :: tag :: 0#8 :: a :: b :: params) ++ [c,e] := by simp
    rw [this, List.take_left' (by simp; omega)]
  simp only [parseCommand, nthD, uAt, bytesAt]
  simp [bitOf, hlen, h3, h4, hcrc, h]
  omega


end Sys2Proof.Machine
end

