-- ==== Sys2Proof/Laws/State.lean ====
section
/-! SUPPORT. What the named updates of the device leave alone: one lemma for each field and each update. -/
namespace Sys2Proof.Machine

theorem State.withDev_dev_eq (s : State) (d : Dev) : s.withDev d = { s with dev := d } := rfl
@[simp] theorem State.withDev_dev (s : State) (d : Dev) : (s.withDev d).dev = d := rfl
@[simp] theorem State.withDev_pending (s : State) (d : Dev) : (s.withDev d).pending = s.pending := rfl
@[simp] theorem State.withDev_fuses (s : State) (d : Dev) : (s.withDev d).fuses = s.fuses := rfl

@[simp] theorem Dev.setReg_hl (d : Dev) (a : Nat) (w : Word) : (d.setReg a w).hl = d.hl := rfl
@[simp] theorem Dev.setReg_sys (d : Dev) (a : Nat) (w : Word) : (d.setReg a w).sys = d.sys := rfl
@[simp] theorem Dev.setReg_rst (d : Dev) (a : Nat) (w : Word) : (d.setReg a w).rst = d.rst := rfl
@[simp] theorem Dev.setReg_pwr (d : Dev) (a : Nat) (w : Word) : (d.setReg a w).pwr = d.pwr := rfl
@[simp] theorem Dev.setReg_lin (d : Dev) (a : Nat) (w : Word) : (d.setReg a w).lin = d.lin := rfl
@[simp] theorem Dev.setReg_jamb (d : Dev) (a : Nat) (w : Word) : (d.setReg a w).jamb = d.jamb := rfl
@[simp] theorem Dev.setReg_db (d : Dev) (a : Nat) (w : Word) : (d.setReg a w).db = d.db := rfl
@[simp] theorem Dev.setReg_panes (d : Dev) (a : Nat) (w : Word) : (d.setReg a w).panes = d.panes := rfl
@[simp] theorem Dev.setReg_pctl (d : Dev) (a : Nat) (w : Word) : (d.setReg a w).pctl = d.pctl := rfl
@[simp] theorem Dev.setReg_csm (d : Dev) (a : Nat) (w : Word) : (d.setReg a w).csm = d.csm := rfl
@[simp] theorem Dev.setReg_mul (d : Dev) (a : Nat) (w : Word) : (d.setReg a w).mul = d.mul := rfl
@[simp] theorem Dev.setReg_mdl (d : Dev) (a : Nat) (w : Word) : (d.setReg a w).mdl = d.mdl := rfl
@[simp] theorem Dev.setReg_sill (d : Dev) (a : Nat) (w : Word) : (d.setReg a w).sill = d.sill := rfl
@[simp] theorem Dev.setReg_storm (d : Dev) (a : Nat) (w : Word) : (d.setReg a w).storm = d.storm := rfl
@[simp] theorem Dev.setReg_chk (d : Dev) (a : Nat) (w : Word) : (d.setReg a w).chk = d.chk := rfl
@[simp] theorem Dev.setReg_front (d : Dev) (a : Nat) (w : Word) : (d.setReg a w).front = d.front := rfl
@[simp] theorem Dev.setReg_svy (d : Dev) (a : Nat) (w : Word) : (d.setReg a w).svy = d.svy := rfl
@[simp] theorem Dev.setReg_dbg (d : Dev) (a : Nat) (w : Word) : (d.setReg a w).dbg = d.dbg := rfl
@[simp] theorem Dev.setReg_stk (d : Dev) (a : Nat) (w : Word) : (d.setReg a w).stk = d.stk := rfl
@[simp] theorem Dev.setReg_fab (d : Dev) (a : Nat) (w : Word) : (d.setReg a w).fab = d.fab := rfl
@[simp] theorem Dev.setReg_free (d : Dev) (a : Nat) (w : Word) : (d.setReg a w).free = d.free := rfl

@[simp] theorem Dev.setFld_hl (d : Dev) (a lo n v : Nat) : (d.setFld a lo n v).hl = d.hl := rfl
@[simp] theorem Dev.setFld_sys (d : Dev) (a lo n v : Nat) : (d.setFld a lo n v).sys = d.sys := rfl
@[simp] theorem Dev.setFld_rst (d : Dev) (a lo n v : Nat) : (d.setFld a lo n v).rst = d.rst := rfl
@[simp] theorem Dev.setFld_pwr (d : Dev) (a lo n v : Nat) : (d.setFld a lo n v).pwr = d.pwr := rfl
@[simp] theorem Dev.setFld_lin (d : Dev) (a lo n v : Nat) : (d.setFld a lo n v).lin = d.lin := rfl
@[simp] theorem Dev.setFld_jamb (d : Dev) (a lo n v : Nat) : (d.setFld a lo n v).jamb = d.jamb := rfl
@[simp] theorem Dev.setFld_db (d : Dev) (a lo n v : Nat) : (d.setFld a lo n v).db = d.db := rfl
@[simp] theorem Dev.setFld_panes (d : Dev) (a lo n v : Nat) : (d.setFld a lo n v).panes = d.panes := rfl
@[simp] theorem Dev.setFld_pctl (d : Dev) (a lo n v : Nat) : (d.setFld a lo n v).pctl = d.pctl := rfl
@[simp] theorem Dev.setFld_csm (d : Dev) (a lo n v : Nat) : (d.setFld a lo n v).csm = d.csm := rfl
@[simp] theorem Dev.setFld_mul (d : Dev) (a lo n v : Nat) : (d.setFld a lo n v).mul = d.mul := rfl
@[simp] theorem Dev.setFld_mdl (d : Dev) (a lo n v : Nat) : (d.setFld a lo n v).mdl = d.mdl := rfl
@[simp] theorem Dev.setFld_sill (d : Dev) (a lo n v : Nat) : (d.setFld a lo n v).sill = d.sill := rfl
@[simp] theorem Dev.setFld_storm (d : Dev) (a lo n v : Nat) : (d.setFld a lo n v).storm = d.storm := rfl
@[simp] theorem Dev.setFld_chk (d : Dev) (a lo n v : Nat) : (d.setFld a lo n v).chk = d.chk := rfl
@[simp] theorem Dev.setFld_front (d : Dev) (a lo n v : Nat) : (d.setFld a lo n v).front = d.front := rfl
@[simp] theorem Dev.setFld_svy (d : Dev) (a lo n v : Nat) : (d.setFld a lo n v).svy = d.svy := rfl
@[simp] theorem Dev.setFld_dbg (d : Dev) (a lo n v : Nat) : (d.setFld a lo n v).dbg = d.dbg := rfl
@[simp] theorem Dev.setFld_stk (d : Dev) (a lo n v : Nat) : (d.setFld a lo n v).stk = d.stk := rfl
@[simp] theorem Dev.setFld_fab (d : Dev) (a lo n v : Nat) : (d.setFld a lo n v).fab = d.fab := rfl
@[simp] theorem Dev.setFld_free (d : Dev) (a lo n v : Nat) : (d.setFld a lo n v).free = d.free := rfl

@[simp] theorem Dev.satFld_hl (d : Dev) (a lo n : Nat) : (d.satFld a lo n).hl = d.hl := rfl
@[simp] theorem Dev.satFld_sys (d : Dev) (a lo n : Nat) : (d.satFld a lo n).sys = d.sys := rfl
@[simp] theorem Dev.satFld_rst (d : Dev) (a lo n : Nat) : (d.satFld a lo n).rst = d.rst := rfl
@[simp] theorem Dev.satFld_pwr (d : Dev) (a lo n : Nat) : (d.satFld a lo n).pwr = d.pwr := rfl
@[simp] theorem Dev.satFld_lin (d : Dev) (a lo n : Nat) : (d.satFld a lo n).lin = d.lin := rfl
@[simp] theorem Dev.satFld_jamb (d : Dev) (a lo n : Nat) : (d.satFld a lo n).jamb = d.jamb := rfl
@[simp] theorem Dev.satFld_db (d : Dev) (a lo n : Nat) : (d.satFld a lo n).db = d.db := rfl
@[simp] theorem Dev.satFld_panes (d : Dev) (a lo n : Nat) : (d.satFld a lo n).panes = d.panes := rfl
@[simp] theorem Dev.satFld_pctl (d : Dev) (a lo n : Nat) : (d.satFld a lo n).pctl = d.pctl := rfl
@[simp] theorem Dev.satFld_csm (d : Dev) (a lo n : Nat) : (d.satFld a lo n).csm = d.csm := rfl
@[simp] theorem Dev.satFld_mul (d : Dev) (a lo n : Nat) : (d.satFld a lo n).mul = d.mul := rfl
@[simp] theorem Dev.satFld_mdl (d : Dev) (a lo n : Nat) : (d.satFld a lo n).mdl = d.mdl := rfl
@[simp] theorem Dev.satFld_sill (d : Dev) (a lo n : Nat) : (d.satFld a lo n).sill = d.sill := rfl
@[simp] theorem Dev.satFld_storm (d : Dev) (a lo n : Nat) : (d.satFld a lo n).storm = d.storm := rfl
@[simp] theorem Dev.satFld_chk (d : Dev) (a lo n : Nat) : (d.satFld a lo n).chk = d.chk := rfl
@[simp] theorem Dev.satFld_front (d : Dev) (a lo n : Nat) : (d.satFld a lo n).front = d.front := rfl
@[simp] theorem Dev.satFld_svy (d : Dev) (a lo n : Nat) : (d.satFld a lo n).svy = d.svy := rfl
@[simp] theorem Dev.satFld_dbg (d : Dev) (a lo n : Nat) : (d.satFld a lo n).dbg = d.dbg := rfl
@[simp] theorem Dev.satFld_stk (d : Dev) (a lo n : Nat) : (d.satFld a lo n).stk = d.stk := rfl
@[simp] theorem Dev.satFld_fab (d : Dev) (a lo n : Nat) : (d.satFld a lo n).fab = d.fab := rfl
@[simp] theorem Dev.satFld_free (d : Dev) (a lo n : Nat) : (d.satFld a lo n).free = d.free := rfl

@[simp] theorem Dev.addFld_hl (d : Dev) (a lo n k : Nat) : (d.addFld a lo n k).hl = d.hl := rfl
@[simp] theorem Dev.addFld_sys (d : Dev) (a lo n k : Nat) : (d.addFld a lo n k).sys = d.sys := rfl
@[simp] theorem Dev.addFld_rst (d : Dev) (a lo n k : Nat) : (d.addFld a lo n k).rst = d.rst := rfl
@[simp] theorem Dev.addFld_pwr (d : Dev) (a lo n k : Nat) : (d.addFld a lo n k).pwr = d.pwr := rfl
@[simp] theorem Dev.addFld_lin (d : Dev) (a lo n k : Nat) : (d.addFld a lo n k).lin = d.lin := rfl
@[simp] theorem Dev.addFld_jamb (d : Dev) (a lo n k : Nat) : (d.addFld a lo n k).jamb = d.jamb := rfl
@[simp] theorem Dev.addFld_db (d : Dev) (a lo n k : Nat) : (d.addFld a lo n k).db = d.db := rfl
@[simp] theorem Dev.addFld_panes (d : Dev) (a lo n k : Nat) : (d.addFld a lo n k).panes = d.panes := rfl
@[simp] theorem Dev.addFld_pctl (d : Dev) (a lo n k : Nat) : (d.addFld a lo n k).pctl = d.pctl := rfl
@[simp] theorem Dev.addFld_csm (d : Dev) (a lo n k : Nat) : (d.addFld a lo n k).csm = d.csm := rfl
@[simp] theorem Dev.addFld_mul (d : Dev) (a lo n k : Nat) : (d.addFld a lo n k).mul = d.mul := rfl
@[simp] theorem Dev.addFld_mdl (d : Dev) (a lo n k : Nat) : (d.addFld a lo n k).mdl = d.mdl := rfl
@[simp] theorem Dev.addFld_sill (d : Dev) (a lo n k : Nat) : (d.addFld a lo n k).sill = d.sill := rfl
@[simp] theorem Dev.addFld_storm (d : Dev) (a lo n k : Nat) : (d.addFld a lo n k).storm = d.storm := rfl
@[simp] theorem Dev.addFld_chk (d : Dev) (a lo n k : Nat) : (d.addFld a lo n k).chk = d.chk := rfl
@[simp] theorem Dev.addFld_front (d : Dev) (a lo n k : Nat) : (d.addFld a lo n k).front = d.front := rfl
@[simp] theorem Dev.addFld_svy (d : Dev) (a lo n k : Nat) : (d.addFld a lo n k).svy = d.svy := rfl
@[simp] theorem Dev.addFld_dbg (d : Dev) (a lo n k : Nat) : (d.addFld a lo n k).dbg = d.dbg := rfl
@[simp] theorem Dev.addFld_stk (d : Dev) (a lo n k : Nat) : (d.addFld a lo n k).stk = d.stk := rfl
@[simp] theorem Dev.addFld_fab (d : Dev) (a lo n k : Nat) : (d.addFld a lo n k).fab = d.fab := rfl
@[simp] theorem Dev.addFld_free (d : Dev) (a lo n k : Nat) : (d.addFld a lo n k).free = d.free := rfl

@[simp] theorem Dev.clearRegs_hl (d : Dev) (lo n : Nat) : (d.clearRegs lo n).hl = d.hl := rfl
@[simp] theorem Dev.clearRegs_sys (d : Dev) (lo n : Nat) : (d.clearRegs lo n).sys = d.sys := rfl
@[simp] theorem Dev.clearRegs_rst (d : Dev) (lo n : Nat) : (d.clearRegs lo n).rst = d.rst := rfl
@[simp] theorem Dev.clearRegs_pwr (d : Dev) (lo n : Nat) : (d.clearRegs lo n).pwr = d.pwr := rfl
@[simp] theorem Dev.clearRegs_lin (d : Dev) (lo n : Nat) : (d.clearRegs lo n).lin = d.lin := rfl
@[simp] theorem Dev.clearRegs_jamb (d : Dev) (lo n : Nat) : (d.clearRegs lo n).jamb = d.jamb := rfl
@[simp] theorem Dev.clearRegs_db (d : Dev) (lo n : Nat) : (d.clearRegs lo n).db = d.db := rfl
@[simp] theorem Dev.clearRegs_panes (d : Dev) (lo n : Nat) : (d.clearRegs lo n).panes = d.panes := rfl
@[simp] theorem Dev.clearRegs_pctl (d : Dev) (lo n : Nat) : (d.clearRegs lo n).pctl = d.pctl := rfl
@[simp] theorem Dev.clearRegs_csm (d : Dev) (lo n : Nat) : (d.clearRegs lo n).csm = d.csm := rfl
@[simp] theorem Dev.clearRegs_mul (d : Dev) (lo n : Nat) : (d.clearRegs lo n).mul = d.mul := rfl
@[simp] theorem Dev.clearRegs_mdl (d : Dev) (lo n : Nat) : (d.clearRegs lo n).mdl = d.mdl := rfl
@[simp] theorem Dev.clearRegs_sill (d : Dev) (lo n : Nat) : (d.clearRegs lo n).sill = d.sill := rfl
@[simp] theorem Dev.clearRegs_storm (d : Dev) (lo n : Nat) : (d.clearRegs lo n).storm = d.storm := rfl
@[simp] theorem Dev.clearRegs_chk (d : Dev) (lo n : Nat) : (d.clearRegs lo n).chk = d.chk := rfl
@[simp] theorem Dev.clearRegs_front (d : Dev) (lo n : Nat) : (d.clearRegs lo n).front = d.front := rfl
@[simp] theorem Dev.clearRegs_svy (d : Dev) (lo n : Nat) : (d.clearRegs lo n).svy = d.svy := rfl
@[simp] theorem Dev.clearRegs_dbg (d : Dev) (lo n : Nat) : (d.clearRegs lo n).dbg = d.dbg := rfl
@[simp] theorem Dev.clearRegs_stk (d : Dev) (lo n : Nat) : (d.clearRegs lo n).stk = d.stk := rfl
@[simp] theorem Dev.clearRegs_fab (d : Dev) (lo n : Nat) : (d.clearRegs lo n).fab = d.fab := rfl
@[simp] theorem Dev.clearRegs_free (d : Dev) (lo n : Nat) : (d.clearRegs lo n).free = d.free := rfl

@[simp] theorem Dev.regWritePlain_hl (d : Dev) (a : Nat) (v : Word) : (d.regWritePlain a v).hl = d.hl := rfl
@[simp] theorem Dev.regWritePlain_sys (d : Dev) (a : Nat) (v : Word) : (d.regWritePlain a v).sys = d.sys := rfl
@[simp] theorem Dev.regWritePlain_rst (d : Dev) (a : Nat) (v : Word) : (d.regWritePlain a v).rst = d.rst := rfl
@[simp] theorem Dev.regWritePlain_pwr (d : Dev) (a : Nat) (v : Word) : (d.regWritePlain a v).pwr = d.pwr := rfl
@[simp] theorem Dev.regWritePlain_lin (d : Dev) (a : Nat) (v : Word) : (d.regWritePlain a v).lin = d.lin := rfl
@[simp] theorem Dev.regWritePlain_jamb (d : Dev) (a : Nat) (v : Word) : (d.regWritePlain a v).jamb = d.jamb := rfl
@[simp] theorem Dev.regWritePlain_db (d : Dev) (a : Nat) (v : Word) : (d.regWritePlain a v).db = d.db := rfl
@[simp] theorem Dev.regWritePlain_panes (d : Dev) (a : Nat) (v : Word) : (d.regWritePlain a v).panes = d.panes := rfl
@[simp] theorem Dev.regWritePlain_pctl (d : Dev) (a : Nat) (v : Word) : (d.regWritePlain a v).pctl = d.pctl := rfl
@[simp] theorem Dev.regWritePlain_csm (d : Dev) (a : Nat) (v : Word) : (d.regWritePlain a v).csm = d.csm := rfl
@[simp] theorem Dev.regWritePlain_mul (d : Dev) (a : Nat) (v : Word) : (d.regWritePlain a v).mul = d.mul := rfl
@[simp] theorem Dev.regWritePlain_mdl (d : Dev) (a : Nat) (v : Word) : (d.regWritePlain a v).mdl = d.mdl := rfl
@[simp] theorem Dev.regWritePlain_sill (d : Dev) (a : Nat) (v : Word) : (d.regWritePlain a v).sill = d.sill := rfl
@[simp] theorem Dev.regWritePlain_storm (d : Dev) (a : Nat) (v : Word) : (d.regWritePlain a v).storm = d.storm := rfl
@[simp] theorem Dev.regWritePlain_chk (d : Dev) (a : Nat) (v : Word) : (d.regWritePlain a v).chk = d.chk := rfl
@[simp] theorem Dev.regWritePlain_front (d : Dev) (a : Nat) (v : Word) : (d.regWritePlain a v).front = d.front := rfl
@[simp] theorem Dev.regWritePlain_svy (d : Dev) (a : Nat) (v : Word) : (d.regWritePlain a v).svy = d.svy := rfl
@[simp] theorem Dev.regWritePlain_dbg (d : Dev) (a : Nat) (v : Word) : (d.regWritePlain a v).dbg = d.dbg := rfl
@[simp] theorem Dev.regWritePlain_stk (d : Dev) (a : Nat) (v : Word) : (d.regWritePlain a v).stk = d.stk := rfl
@[simp] theorem Dev.regWritePlain_fab (d : Dev) (a : Nat) (v : Word) : (d.regWritePlain a v).fab = d.fab := rfl
@[simp] theorem Dev.regWritePlain_free (d : Dev) (a : Nat) (v : Word) : (d.regWritePlain a v).free = d.free := rfl

@[simp] theorem Dev.setPane_regs (d : Dev) (p : Nat) (v : Pane) : (d.setPane p v).regs = d.regs := rfl
@[simp] theorem Dev.setPane_hl (d : Dev) (p : Nat) (v : Pane) : (d.setPane p v).hl = d.hl := rfl
@[simp] theorem Dev.setPane_sys (d : Dev) (p : Nat) (v : Pane) : (d.setPane p v).sys = d.sys := rfl
@[simp] theorem Dev.setPane_rst (d : Dev) (p : Nat) (v : Pane) : (d.setPane p v).rst = d.rst := rfl
@[simp] theorem Dev.setPane_pwr (d : Dev) (p : Nat) (v : Pane) : (d.setPane p v).pwr = d.pwr := rfl
@[simp] theorem Dev.setPane_lin (d : Dev) (p : Nat) (v : Pane) : (d.setPane p v).lin = d.lin := rfl
@[simp] theorem Dev.setPane_jamb (d : Dev) (p : Nat) (v : Pane) : (d.setPane p v).jamb = d.jamb := rfl
@[simp] theorem Dev.setPane_db (d : Dev) (p : Nat) (v : Pane) : (d.setPane p v).db = d.db := rfl
@[simp] theorem Dev.setPane_pctl (d : Dev) (p : Nat) (v : Pane) : (d.setPane p v).pctl = d.pctl := rfl
@[simp] theorem Dev.setPane_csm (d : Dev) (p : Nat) (v : Pane) : (d.setPane p v).csm = d.csm := rfl
@[simp] theorem Dev.setPane_mul (d : Dev) (p : Nat) (v : Pane) : (d.setPane p v).mul = d.mul := rfl
@[simp] theorem Dev.setPane_mdl (d : Dev) (p : Nat) (v : Pane) : (d.setPane p v).mdl = d.mdl := rfl
@[simp] theorem Dev.setPane_sill (d : Dev) (p : Nat) (v : Pane) : (d.setPane p v).sill = d.sill := rfl
@[simp] theorem Dev.setPane_storm (d : Dev) (p : Nat) (v : Pane) : (d.setPane p v).storm = d.storm := rfl
@[simp] theorem Dev.setPane_chk (d : Dev) (p : Nat) (v : Pane) : (d.setPane p v).chk = d.chk := rfl
@[simp] theorem Dev.setPane_front (d : Dev) (p : Nat) (v : Pane) : (d.setPane p v).front = d.front := rfl
@[simp] theorem Dev.setPane_svy (d : Dev) (p : Nat) (v : Pane) : (d.setPane p v).svy = d.svy := rfl
@[simp] theorem Dev.setPane_dbg (d : Dev) (p : Nat) (v : Pane) : (d.setPane p v).dbg = d.dbg := rfl
@[simp] theorem Dev.setPane_stk (d : Dev) (p : Nat) (v : Pane) : (d.setPane p v).stk = d.stk := rfl
@[simp] theorem Dev.setPane_fab (d : Dev) (p : Nat) (v : Pane) : (d.setPane p v).fab = d.fab := rfl
@[simp] theorem Dev.setPane_free (d : Dev) (p : Nat) (v : Pane) : (d.setPane p v).free = d.free := rfl

@[simp] theorem Dev.setCas_regs (d : Dev) (c : Nat) (v : Casement) : (d.setCas c v).regs = d.regs := rfl
@[simp] theorem Dev.setCas_hl (d : Dev) (c : Nat) (v : Casement) : (d.setCas c v).hl = d.hl := rfl
@[simp] theorem Dev.setCas_sys (d : Dev) (c : Nat) (v : Casement) : (d.setCas c v).sys = d.sys := rfl
@[simp] theorem Dev.setCas_rst (d : Dev) (c : Nat) (v : Casement) : (d.setCas c v).rst = d.rst := rfl
@[simp] theorem Dev.setCas_pwr (d : Dev) (c : Nat) (v : Casement) : (d.setCas c v).pwr = d.pwr := rfl
@[simp] theorem Dev.setCas_lin (d : Dev) (c : Nat) (v : Casement) : (d.setCas c v).lin = d.lin := rfl
@[simp] theorem Dev.setCas_jamb (d : Dev) (c : Nat) (v : Casement) : (d.setCas c v).jamb = d.jamb := rfl
@[simp] theorem Dev.setCas_db (d : Dev) (c : Nat) (v : Casement) : (d.setCas c v).db = d.db := rfl
@[simp] theorem Dev.setCas_panes (d : Dev) (c : Nat) (v : Casement) : (d.setCas c v).panes = d.panes := rfl
@[simp] theorem Dev.setCas_pctl (d : Dev) (c : Nat) (v : Casement) : (d.setCas c v).pctl = d.pctl := rfl
@[simp] theorem Dev.setCas_mul (d : Dev) (c : Nat) (v : Casement) : (d.setCas c v).mul = d.mul := rfl
@[simp] theorem Dev.setCas_mdl (d : Dev) (c : Nat) (v : Casement) : (d.setCas c v).mdl = d.mdl := rfl
@[simp] theorem Dev.setCas_sill (d : Dev) (c : Nat) (v : Casement) : (d.setCas c v).sill = d.sill := rfl
@[simp] theorem Dev.setCas_storm (d : Dev) (c : Nat) (v : Casement) : (d.setCas c v).storm = d.storm := rfl
@[simp] theorem Dev.setCas_chk (d : Dev) (c : Nat) (v : Casement) : (d.setCas c v).chk = d.chk := rfl
@[simp] theorem Dev.setCas_front (d : Dev) (c : Nat) (v : Casement) : (d.setCas c v).front = d.front := rfl
@[simp] theorem Dev.setCas_svy (d : Dev) (c : Nat) (v : Casement) : (d.setCas c v).svy = d.svy := rfl
@[simp] theorem Dev.setCas_dbg (d : Dev) (c : Nat) (v : Casement) : (d.setCas c v).dbg = d.dbg := rfl
@[simp] theorem Dev.setCas_stk (d : Dev) (c : Nat) (v : Casement) : (d.setCas c v).stk = d.stk := rfl
@[simp] theorem Dev.setCas_fab (d : Dev) (c : Nat) (v : Casement) : (d.setCas c v).fab = d.fab := rfl
@[simp] theorem Dev.setCas_free (d : Dev) (c : Nat) (v : Casement) : (d.setCas c v).free = d.free := rfl

@[simp] theorem Dev.setSlot_regs (d : Dev) (i : Nat) (v : Slot) : (d.setSlot i v).regs = d.regs := rfl
@[simp] theorem Dev.setSlot_hl (d : Dev) (i : Nat) (v : Slot) : (d.setSlot i v).hl = d.hl := rfl
@[simp] theorem Dev.setSlot_sys (d : Dev) (i : Nat) (v : Slot) : (d.setSlot i v).sys = d.sys := rfl
@[simp] theorem Dev.setSlot_rst (d : Dev) (i : Nat) (v : Slot) : (d.setSlot i v).rst = d.rst := rfl
@[simp] theorem Dev.setSlot_pwr (d : Dev) (i : Nat) (v : Slot) : (d.setSlot i v).pwr = d.pwr := rfl
@[simp] theorem Dev.setSlot_lin (d : Dev) (i : Nat) (v : Slot) : (d.setSlot i v).lin = d.lin := rfl
@[simp] theorem Dev.setSlot_jamb (d : Dev) (i : Nat) (v : Slot) : (d.setSlot i v).jamb = d.jamb := rfl
@[simp] theorem Dev.setSlot_db (d : Dev) (i : Nat) (v : Slot) : (d.setSlot i v).db = d.db := rfl
@[simp] theorem Dev.setSlot_panes (d : Dev) (i : Nat) (v : Slot) : (d.setSlot i v).panes = d.panes := rfl
@[simp] theorem Dev.setSlot_pctl (d : Dev) (i : Nat) (v : Slot) : (d.setSlot i v).pctl = d.pctl := rfl
@[simp] theorem Dev.setSlot_csm (d : Dev) (i : Nat) (v : Slot) : (d.setSlot i v).csm = d.csm := rfl
@[simp] theorem Dev.setSlot_mul (d : Dev) (i : Nat) (v : Slot) : (d.setSlot i v).mul = d.mul := rfl
@[simp] theorem Dev.setSlot_sill (d : Dev) (i : Nat) (v : Slot) : (d.setSlot i v).sill = d.sill := rfl
@[simp] theorem Dev.setSlot_storm (d : Dev) (i : Nat) (v : Slot) : (d.setSlot i v).storm = d.storm := rfl
@[simp] theorem Dev.setSlot_chk (d : Dev) (i : Nat) (v : Slot) : (d.setSlot i v).chk = d.chk := rfl
@[simp] theorem Dev.setSlot_front (d : Dev) (i : Nat) (v : Slot) : (d.setSlot i v).front = d.front := rfl
@[simp] theorem Dev.setSlot_svy (d : Dev) (i : Nat) (v : Slot) : (d.setSlot i v).svy = d.svy := rfl
@[simp] theorem Dev.setSlot_dbg (d : Dev) (i : Nat) (v : Slot) : (d.setSlot i v).dbg = d.dbg := rfl
@[simp] theorem Dev.setSlot_stk (d : Dev) (i : Nat) (v : Slot) : (d.setSlot i v).stk = d.stk := rfl
@[simp] theorem Dev.setSlot_fab (d : Dev) (i : Nat) (v : Slot) : (d.setSlot i v).fab = d.fab := rfl
@[simp] theorem Dev.setSlot_free (d : Dev) (i : Nat) (v : Slot) : (d.setSlot i v).free = d.free := rfl

@[simp] theorem Dev.setTicket_regs (d : Dev) (i : Nat) (v : Ticket) : (d.setTicket i v).regs = d.regs := rfl
@[simp] theorem Dev.setTicket_hl (d : Dev) (i : Nat) (v : Ticket) : (d.setTicket i v).hl = d.hl := rfl
@[simp] theorem Dev.setTicket_sys (d : Dev) (i : Nat) (v : Ticket) : (d.setTicket i v).sys = d.sys := rfl
@[simp] theorem Dev.setTicket_rst (d : Dev) (i : Nat) (v : Ticket) : (d.setTicket i v).rst = d.rst := rfl
@[simp] theorem Dev.setTicket_pwr (d : Dev) (i : Nat) (v : Ticket) : (d.setTicket i v).pwr = d.pwr := rfl
@[simp] theorem Dev.setTicket_lin (d : Dev) (i : Nat) (v : Ticket) : (d.setTicket i v).lin = d.lin := rfl
@[simp] theorem Dev.setTicket_jamb (d : Dev) (i : Nat) (v : Ticket) : (d.setTicket i v).jamb = d.jamb := rfl
@[simp] theorem Dev.setTicket_db (d : Dev) (i : Nat) (v : Ticket) : (d.setTicket i v).db = d.db := rfl
@[simp] theorem Dev.setTicket_panes (d : Dev) (i : Nat) (v : Ticket) : (d.setTicket i v).panes = d.panes := rfl
@[simp] theorem Dev.setTicket_pctl (d : Dev) (i : Nat) (v : Ticket) : (d.setTicket i v).pctl = d.pctl := rfl
@[simp] theorem Dev.setTicket_csm (d : Dev) (i : Nat) (v : Ticket) : (d.setTicket i v).csm = d.csm := rfl
@[simp] theorem Dev.setTicket_mul (d : Dev) (i : Nat) (v : Ticket) : (d.setTicket i v).mul = d.mul := rfl
@[simp] theorem Dev.setTicket_sill (d : Dev) (i : Nat) (v : Ticket) : (d.setTicket i v).sill = d.sill := rfl
@[simp] theorem Dev.setTicket_storm (d : Dev) (i : Nat) (v : Ticket) : (d.setTicket i v).storm = d.storm := rfl
@[simp] theorem Dev.setTicket_chk (d : Dev) (i : Nat) (v : Ticket) : (d.setTicket i v).chk = d.chk := rfl
@[simp] theorem Dev.setTicket_front (d : Dev) (i : Nat) (v : Ticket) : (d.setTicket i v).front = d.front := rfl
@[simp] theorem Dev.setTicket_svy (d : Dev) (i : Nat) (v : Ticket) : (d.setTicket i v).svy = d.svy := rfl
@[simp] theorem Dev.setTicket_dbg (d : Dev) (i : Nat) (v : Ticket) : (d.setTicket i v).dbg = d.dbg := rfl
@[simp] theorem Dev.setTicket_stk (d : Dev) (i : Nat) (v : Ticket) : (d.setTicket i v).stk = d.stk := rfl
@[simp] theorem Dev.setTicket_fab (d : Dev) (i : Nat) (v : Ticket) : (d.setTicket i v).fab = d.fab := rfl
@[simp] theorem Dev.setTicket_free (d : Dev) (i : Nat) (v : Ticket) : (d.setTicket i v).free = d.free := rfl

@[simp] theorem Dev.setChan_regs (d : Dev) (i : Nat) (v : Chan) : (d.setChan i v).regs = d.regs := rfl
@[simp] theorem Dev.setChan_hl (d : Dev) (i : Nat) (v : Chan) : (d.setChan i v).hl = d.hl := rfl
@[simp] theorem Dev.setChan_sys (d : Dev) (i : Nat) (v : Chan) : (d.setChan i v).sys = d.sys := rfl
@[simp] theorem Dev.setChan_rst (d : Dev) (i : Nat) (v : Chan) : (d.setChan i v).rst = d.rst := rfl
@[simp] theorem Dev.setChan_pwr (d : Dev) (i : Nat) (v : Chan) : (d.setChan i v).pwr = d.pwr := rfl
@[simp] theorem Dev.setChan_lin (d : Dev) (i : Nat) (v : Chan) : (d.setChan i v).lin = d.lin := rfl
@[simp] theorem Dev.setChan_jamb (d : Dev) (i : Nat) (v : Chan) : (d.setChan i v).jamb = d.jamb := rfl
@[simp] theorem Dev.setChan_db (d : Dev) (i : Nat) (v : Chan) : (d.setChan i v).db = d.db := rfl
@[simp] theorem Dev.setChan_panes (d : Dev) (i : Nat) (v : Chan) : (d.setChan i v).panes = d.panes := rfl
@[simp] theorem Dev.setChan_pctl (d : Dev) (i : Nat) (v : Chan) : (d.setChan i v).pctl = d.pctl := rfl
@[simp] theorem Dev.setChan_csm (d : Dev) (i : Nat) (v : Chan) : (d.setChan i v).csm = d.csm := rfl
@[simp] theorem Dev.setChan_mul (d : Dev) (i : Nat) (v : Chan) : (d.setChan i v).mul = d.mul := rfl
@[simp] theorem Dev.setChan_mdl (d : Dev) (i : Nat) (v : Chan) : (d.setChan i v).mdl = d.mdl := rfl
@[simp] theorem Dev.setChan_sill (d : Dev) (i : Nat) (v : Chan) : (d.setChan i v).sill = d.sill := rfl
@[simp] theorem Dev.setChan_storm (d : Dev) (i : Nat) (v : Chan) : (d.setChan i v).storm = d.storm := rfl
@[simp] theorem Dev.setChan_chk (d : Dev) (i : Nat) (v : Chan) : (d.setChan i v).chk = d.chk := rfl
@[simp] theorem Dev.setChan_svy (d : Dev) (i : Nat) (v : Chan) : (d.setChan i v).svy = d.svy := rfl
@[simp] theorem Dev.setChan_dbg (d : Dev) (i : Nat) (v : Chan) : (d.setChan i v).dbg = d.dbg := rfl
@[simp] theorem Dev.setChan_stk (d : Dev) (i : Nat) (v : Chan) : (d.setChan i v).stk = d.stk := rfl
@[simp] theorem Dev.setChan_fab (d : Dev) (i : Nat) (v : Chan) : (d.setChan i v).fab = d.fab := rfl
@[simp] theorem Dev.setChan_free (d : Dev) (i : Nat) (v : Chan) : (d.setChan i v).free = d.free := rfl

@[simp] theorem Dev.setPort_regs (d : Dev) (i : Nat) (v : StkPort) : (d.setPort i v).regs = d.regs := rfl
@[simp] theorem Dev.setPort_hl (d : Dev) (i : Nat) (v : StkPort) : (d.setPort i v).hl = d.hl := rfl
@[simp] theorem Dev.setPort_sys (d : Dev) (i : Nat) (v : StkPort) : (d.setPort i v).sys = d.sys := rfl
@[simp] theorem Dev.setPort_rst (d : Dev) (i : Nat) (v : StkPort) : (d.setPort i v).rst = d.rst := rfl
@[simp] theorem Dev.setPort_pwr (d : Dev) (i : Nat) (v : StkPort) : (d.setPort i v).pwr = d.pwr := rfl
@[simp] theorem Dev.setPort_lin (d : Dev) (i : Nat) (v : StkPort) : (d.setPort i v).lin = d.lin := rfl
@[simp] theorem Dev.setPort_jamb (d : Dev) (i : Nat) (v : StkPort) : (d.setPort i v).jamb = d.jamb := rfl
@[simp] theorem Dev.setPort_db (d : Dev) (i : Nat) (v : StkPort) : (d.setPort i v).db = d.db := rfl
@[simp] theorem Dev.setPort_panes (d : Dev) (i : Nat) (v : StkPort) : (d.setPort i v).panes = d.panes := rfl
@[simp] theorem Dev.setPort_pctl (d : Dev) (i : Nat) (v : StkPort) : (d.setPort i v).pctl = d.pctl := rfl
@[simp] theorem Dev.setPort_csm (d : Dev) (i : Nat) (v : StkPort) : (d.setPort i v).csm = d.csm := rfl
@[simp] theorem Dev.setPort_mul (d : Dev) (i : Nat) (v : StkPort) : (d.setPort i v).mul = d.mul := rfl
@[simp] theorem Dev.setPort_mdl (d : Dev) (i : Nat) (v : StkPort) : (d.setPort i v).mdl = d.mdl := rfl
@[simp] theorem Dev.setPort_sill (d : Dev) (i : Nat) (v : StkPort) : (d.setPort i v).sill = d.sill := rfl
@[simp] theorem Dev.setPort_storm (d : Dev) (i : Nat) (v : StkPort) : (d.setPort i v).storm = d.storm := rfl
@[simp] theorem Dev.setPort_chk (d : Dev) (i : Nat) (v : StkPort) : (d.setPort i v).chk = d.chk := rfl
@[simp] theorem Dev.setPort_front (d : Dev) (i : Nat) (v : StkPort) : (d.setPort i v).front = d.front := rfl
@[simp] theorem Dev.setPort_svy (d : Dev) (i : Nat) (v : StkPort) : (d.setPort i v).svy = d.svy := rfl
@[simp] theorem Dev.setPort_dbg (d : Dev) (i : Nat) (v : StkPort) : (d.setPort i v).dbg = d.dbg := rfl
@[simp] theorem Dev.setPort_fab (d : Dev) (i : Nat) (v : StkPort) : (d.setPort i v).fab = d.fab := rfl
@[simp] theorem Dev.setPort_free (d : Dev) (i : Nat) (v : StkPort) : (d.setPort i v).free = d.free := rfl

@[simp] theorem Dev.setSite_regs (d : Dev) (i : Nat) (v : SitePort) : (d.setSite i v).regs = d.regs := rfl
@[simp] theorem Dev.setSite_hl (d : Dev) (i : Nat) (v : SitePort) : (d.setSite i v).hl = d.hl := rfl
@[simp] theorem Dev.setSite_sys (d : Dev) (i : Nat) (v : SitePort) : (d.setSite i v).sys = d.sys := rfl
@[simp] theorem Dev.setSite_rst (d : Dev) (i : Nat) (v : SitePort) : (d.setSite i v).rst = d.rst := rfl
@[simp] theorem Dev.setSite_pwr (d : Dev) (i : Nat) (v : SitePort) : (d.setSite i v).pwr = d.pwr := rfl
@[simp] theorem Dev.setSite_lin (d : Dev) (i : Nat) (v : SitePort) : (d.setSite i v).lin = d.lin := rfl
@[simp] theorem Dev.setSite_jamb (d : Dev) (i : Nat) (v : SitePort) : (d.setSite i v).jamb = d.jamb := rfl
@[simp] theorem Dev.setSite_db (d : Dev) (i : Nat) (v : SitePort) : (d.setSite i v).db = d.db := rfl
@[simp] theorem Dev.setSite_panes (d : Dev) (i : Nat) (v : SitePort) : (d.setSite i v).panes = d.panes := rfl
@[simp] theorem Dev.setSite_pctl (d : Dev) (i : Nat) (v : SitePort) : (d.setSite i v).pctl = d.pctl := rfl
@[simp] theorem Dev.setSite_csm (d : Dev) (i : Nat) (v : SitePort) : (d.setSite i v).csm = d.csm := rfl
@[simp] theorem Dev.setSite_mul (d : Dev) (i : Nat) (v : SitePort) : (d.setSite i v).mul = d.mul := rfl
@[simp] theorem Dev.setSite_mdl (d : Dev) (i : Nat) (v : SitePort) : (d.setSite i v).mdl = d.mdl := rfl
@[simp] theorem Dev.setSite_sill (d : Dev) (i : Nat) (v : SitePort) : (d.setSite i v).sill = d.sill := rfl
@[simp] theorem Dev.setSite_storm (d : Dev) (i : Nat) (v : SitePort) : (d.setSite i v).storm = d.storm := rfl
@[simp] theorem Dev.setSite_chk (d : Dev) (i : Nat) (v : SitePort) : (d.setSite i v).chk = d.chk := rfl
@[simp] theorem Dev.setSite_front (d : Dev) (i : Nat) (v : SitePort) : (d.setSite i v).front = d.front := rfl
@[simp] theorem Dev.setSite_svy (d : Dev) (i : Nat) (v : SitePort) : (d.setSite i v).svy = d.svy := rfl
@[simp] theorem Dev.setSite_dbg (d : Dev) (i : Nat) (v : SitePort) : (d.setSite i v).dbg = d.dbg := rfl
@[simp] theorem Dev.setSite_stk (d : Dev) (i : Nat) (v : SitePort) : (d.setSite i v).stk = d.stk := rfl
@[simp] theorem Dev.setSite_free (d : Dev) (i : Nat) (v : SitePort) : (d.setSite i v).free = d.free := rfl

@[simp] theorem Dev.setDom_regs (d : Dev) (n : Nat) (v : DomPhase) : (d.setDom n v).regs = d.regs := rfl
@[simp] theorem Dev.setDom_hl (d : Dev) (n : Nat) (v : DomPhase) : (d.setDom n v).hl = d.hl := rfl
@[simp] theorem Dev.setDom_sys (d : Dev) (n : Nat) (v : DomPhase) : (d.setDom n v).sys = d.sys := rfl
@[simp] theorem Dev.setDom_rst (d : Dev) (n : Nat) (v : DomPhase) : (d.setDom n v).rst = d.rst := rfl
@[simp] theorem Dev.setDom_lin (d : Dev) (n : Nat) (v : DomPhase) : (d.setDom n v).lin = d.lin := rfl
@[simp] theorem Dev.setDom_jamb (d : Dev) (n : Nat) (v : DomPhase) : (d.setDom n v).jamb = d.jamb := rfl
@[simp] theorem Dev.setDom_db (d : Dev) (n : Nat) (v : DomPhase) : (d.setDom n v).db = d.db := rfl
@[simp] theorem Dev.setDom_panes (d : Dev) (n : Nat) (v : DomPhase) : (d.setDom n v).panes = d.panes := rfl
@[simp] theorem Dev.setDom_pctl (d : Dev) (n : Nat) (v : DomPhase) : (d.setDom n v).pctl = d.pctl := rfl
@[simp] theorem Dev.setDom_csm (d : Dev) (n : Nat) (v : DomPhase) : (d.setDom n v).csm = d.csm := rfl
@[simp] theorem Dev.setDom_mul (d : Dev) (n : Nat) (v : DomPhase) : (d.setDom n v).mul = d.mul := rfl
@[simp] theorem Dev.setDom_mdl (d : Dev) (n : Nat) (v : DomPhase) : (d.setDom n v).mdl = d.mdl := rfl
@[simp] theorem Dev.setDom_sill (d : Dev) (n : Nat) (v : DomPhase) : (d.setDom n v).sill = d.sill := rfl
@[simp] theorem Dev.setDom_storm (d : Dev) (n : Nat) (v : DomPhase) : (d.setDom n v).storm = d.storm := rfl
@[simp] theorem Dev.setDom_chk (d : Dev) (n : Nat) (v : DomPhase) : (d.setDom n v).chk = d.chk := rfl
@[simp] theorem Dev.setDom_front (d : Dev) (n : Nat) (v : DomPhase) : (d.setDom n v).front = d.front := rfl
@[simp] theorem Dev.setDom_svy (d : Dev) (n : Nat) (v : DomPhase) : (d.setDom n v).svy = d.svy := rfl
@[simp] theorem Dev.setDom_dbg (d : Dev) (n : Nat) (v : DomPhase) : (d.setDom n v).dbg = d.dbg := rfl
@[simp] theorem Dev.setDom_stk (d : Dev) (n : Nat) (v : DomPhase) : (d.setDom n v).stk = d.stk := rfl
@[simp] theorem Dev.setDom_fab (d : Dev) (n : Nat) (v : DomPhase) : (d.setDom n v).fab = d.fab := rfl
@[simp] theorem Dev.setDom_free (d : Dev) (n : Nat) (v : DomPhase) : (d.setDom n v).free = d.free := rfl

@[simp] theorem Dev.setCounter_regs (d : Dev) (id word v : Nat) : (d.setCounter id word v).regs = d.regs := rfl
@[simp] theorem Dev.setCounter_hl (d : Dev) (id word v : Nat) : (d.setCounter id word v).hl = d.hl := rfl
@[simp] theorem Dev.setCounter_sys (d : Dev) (id word v : Nat) : (d.setCounter id word v).sys = d.sys := rfl
@[simp] theorem Dev.setCounter_rst (d : Dev) (id word v : Nat) : (d.setCounter id word v).rst = d.rst := rfl
@[simp] theorem Dev.setCounter_pwr (d : Dev) (id word v : Nat) : (d.setCounter id word v).pwr = d.pwr := rfl
@[simp] theorem Dev.setCounter_lin (d : Dev) (id word v : Nat) : (d.setCounter id word v).lin = d.lin := rfl
@[simp] theorem Dev.setCounter_jamb (d : Dev) (id word v : Nat) : (d.setCounter id word v).jamb = d.jamb := rfl
@[simp] theorem Dev.setCounter_db (d : Dev) (id word v : Nat) : (d.setCounter id word v).db = d.db := rfl
@[simp] theorem Dev.setCounter_panes (d : Dev) (id word v : Nat) : (d.setCounter id word v).panes = d.panes := rfl
@[simp] theorem Dev.setCounter_pctl (d : Dev) (id word v : Nat) : (d.setCounter id word v).pctl = d.pctl := rfl
@[simp] theorem Dev.setCounter_csm (d : Dev) (id word v : Nat) : (d.setCounter id word v).csm = d.csm := rfl
@[simp] theorem Dev.setCounter_mul (d : Dev) (id word v : Nat) : (d.setCounter id word v).mul = d.mul := rfl
@[simp] theorem Dev.setCounter_mdl (d : Dev) (id word v : Nat) : (d.setCounter id word v).mdl = d.mdl := rfl
@[simp] theorem Dev.setCounter_sill (d : Dev) (id word v : Nat) : (d.setCounter id word v).sill = d.sill := rfl
@[simp] theorem Dev.setCounter_storm (d : Dev) (id word v : Nat) : (d.setCounter id word v).storm = d.storm := rfl
@[simp] theorem Dev.setCounter_chk (d : Dev) (id word v : Nat) : (d.setCounter id word v).chk = d.chk := rfl
@[simp] theorem Dev.setCounter_front (d : Dev) (id word v : Nat) : (d.setCounter id word v).front = d.front := rfl
@[simp] theorem Dev.setCounter_svy (d : Dev) (id word v : Nat) : (d.setCounter id word v).svy = d.svy := rfl
@[simp] theorem Dev.setCounter_stk (d : Dev) (id word v : Nat) : (d.setCounter id word v).stk = d.stk := rfl
@[simp] theorem Dev.setCounter_fab (d : Dev) (id word v : Nat) : (d.setCounter id word v).fab = d.fab := rfl
@[simp] theorem Dev.setCounter_free (d : Dev) (id word v : Nat) : (d.setCounter id word v).free = d.free := rfl

@[simp] theorem Dev.withHl_regs (d : Dev) (h : HostLink) : (d.withHl h).regs = d.regs := rfl
@[simp] theorem Dev.withHl_sys (d : Dev) (h : HostLink) : (d.withHl h).sys = d.sys := rfl
@[simp] theorem Dev.withHl_rst (d : Dev) (h : HostLink) : (d.withHl h).rst = d.rst := rfl
@[simp] theorem Dev.withHl_pwr (d : Dev) (h : HostLink) : (d.withHl h).pwr = d.pwr := rfl
@[simp] theorem Dev.withHl_lin (d : Dev) (h : HostLink) : (d.withHl h).lin = d.lin := rfl
@[simp] theorem Dev.withHl_jamb (d : Dev) (h : HostLink) : (d.withHl h).jamb = d.jamb := rfl
@[simp] theorem Dev.withHl_db (d : Dev) (h : HostLink) : (d.withHl h).db = d.db := rfl
@[simp] theorem Dev.withHl_panes (d : Dev) (h : HostLink) : (d.withHl h).panes = d.panes := rfl
@[simp] theorem Dev.withHl_pctl (d : Dev) (h : HostLink) : (d.withHl h).pctl = d.pctl := rfl
@[simp] theorem Dev.withHl_csm (d : Dev) (h : HostLink) : (d.withHl h).csm = d.csm := rfl
@[simp] theorem Dev.withHl_mul (d : Dev) (h : HostLink) : (d.withHl h).mul = d.mul := rfl
@[simp] theorem Dev.withHl_mdl (d : Dev) (h : HostLink) : (d.withHl h).mdl = d.mdl := rfl
@[simp] theorem Dev.withHl_sill (d : Dev) (h : HostLink) : (d.withHl h).sill = d.sill := rfl
@[simp] theorem Dev.withHl_storm (d : Dev) (h : HostLink) : (d.withHl h).storm = d.storm := rfl
@[simp] theorem Dev.withHl_chk (d : Dev) (h : HostLink) : (d.withHl h).chk = d.chk := rfl
@[simp] theorem Dev.withHl_front (d : Dev) (h : HostLink) : (d.withHl h).front = d.front := rfl
@[simp] theorem Dev.withHl_svy (d : Dev) (h : HostLink) : (d.withHl h).svy = d.svy := rfl
@[simp] theorem Dev.withHl_dbg (d : Dev) (h : HostLink) : (d.withHl h).dbg = d.dbg := rfl
@[simp] theorem Dev.withHl_stk (d : Dev) (h : HostLink) : (d.withHl h).stk = d.stk := rfl
@[simp] theorem Dev.withHl_fab (d : Dev) (h : HostLink) : (d.withHl h).fab = d.fab := rfl
@[simp] theorem Dev.withHl_free (d : Dev) (h : HostLink) : (d.withHl h).free = d.free := rfl

@[simp] theorem Dev.taken_regs (d : Dev) (op : Byte) (ps : List Byte) (h : CmdHdr) : (d.taken op ps h).regs = d.regs := rfl
@[simp] theorem Dev.taken_sys (d : Dev) (op : Byte) (ps : List Byte) (h : CmdHdr) : (d.taken op ps h).sys = d.sys := rfl
@[simp] theorem Dev.taken_rst (d : Dev) (op : Byte) (ps : List Byte) (h : CmdHdr) : (d.taken op ps h).rst = d.rst := rfl
@[simp] theorem Dev.taken_pwr (d : Dev) (op : Byte) (ps : List Byte) (h : CmdHdr) : (d.taken op ps h).pwr = d.pwr := rfl
@[simp] theorem Dev.taken_lin (d : Dev) (op : Byte) (ps : List Byte) (h : CmdHdr) : (d.taken op ps h).lin = d.lin := rfl
@[simp] theorem Dev.taken_jamb (d : Dev) (op : Byte) (ps : List Byte) (h : CmdHdr) : (d.taken op ps h).jamb = d.jamb := rfl
@[simp] theorem Dev.taken_db (d : Dev) (op : Byte) (ps : List Byte) (h : CmdHdr) : (d.taken op ps h).db = d.db := rfl
@[simp] theorem Dev.taken_panes (d : Dev) (op : Byte) (ps : List Byte) (h : CmdHdr) : (d.taken op ps h).panes = d.panes := rfl
@[simp] theorem Dev.taken_pctl (d : Dev) (op : Byte) (ps : List Byte) (h : CmdHdr) : (d.taken op ps h).pctl = d.pctl := rfl
@[simp] theorem Dev.taken_csm (d : Dev) (op : Byte) (ps : List Byte) (h : CmdHdr) : (d.taken op ps h).csm = d.csm := rfl
@[simp] theorem Dev.taken_mul (d : Dev) (op : Byte) (ps : List Byte) (h : CmdHdr) : (d.taken op ps h).mul = d.mul := rfl
@[simp] theorem Dev.taken_mdl (d : Dev) (op : Byte) (ps : List Byte) (h : CmdHdr) : (d.taken op ps h).mdl = d.mdl := rfl
@[simp] theorem Dev.taken_sill (d : Dev) (op : Byte) (ps : List Byte) (h : CmdHdr) : (d.taken op ps h).sill = d.sill := rfl
@[simp] theorem Dev.taken_storm (d : Dev) (op : Byte) (ps : List Byte) (h : CmdHdr) : (d.taken op ps h).storm = d.storm := rfl
@[simp] theorem Dev.taken_chk (d : Dev) (op : Byte) (ps : List Byte) (h : CmdHdr) : (d.taken op ps h).chk = d.chk := rfl
@[simp] theorem Dev.taken_front (d : Dev) (op : Byte) (ps : List Byte) (h : CmdHdr) : (d.taken op ps h).front = d.front := rfl
@[simp] theorem Dev.taken_svy (d : Dev) (op : Byte) (ps : List Byte) (h : CmdHdr) : (d.taken op ps h).svy = d.svy := rfl
@[simp] theorem Dev.taken_dbg (d : Dev) (op : Byte) (ps : List Byte) (h : CmdHdr) : (d.taken op ps h).dbg = d.dbg := rfl
@[simp] theorem Dev.taken_stk (d : Dev) (op : Byte) (ps : List Byte) (h : CmdHdr) : (d.taken op ps h).stk = d.stk := rfl
@[simp] theorem Dev.taken_fab (d : Dev) (op : Byte) (ps : List Byte) (h : CmdHdr) : (d.taken op ps h).fab = d.fab := rfl
@[simp] theorem Dev.taken_free (d : Dev) (op : Byte) (ps : List Byte) (h : CmdHdr) : (d.taken op ps h).free = d.free := rfl

@[simp] theorem Dev.answered_regs (d : Dev) (op : Byte) (h : CmdHdr) (st : Byte) (data : List Byte) : (d.answered op h st data).regs = d.regs := rfl
@[simp] theorem Dev.answered_sys (d : Dev) (op : Byte) (h : CmdHdr) (st : Byte) (data : List Byte) : (d.answered op h st data).sys = d.sys := rfl
@[simp] theorem Dev.answered_rst (d : Dev) (op : Byte) (h : CmdHdr) (st : Byte) (data : List Byte) : (d.answered op h st data).rst = d.rst := rfl
@[simp] theorem Dev.answered_pwr (d : Dev) (op : Byte) (h : CmdHdr) (st : Byte) (data : List Byte) : (d.answered op h st data).pwr = d.pwr := rfl
@[simp] theorem Dev.answered_lin (d : Dev) (op : Byte) (h : CmdHdr) (st : Byte) (data : List Byte) : (d.answered op h st data).lin = d.lin := rfl
@[simp] theorem Dev.answered_jamb (d : Dev) (op : Byte) (h : CmdHdr) (st : Byte) (data : List Byte) : (d.answered op h st data).jamb = d.jamb := rfl
@[simp] theorem Dev.answered_db (d : Dev) (op : Byte) (h : CmdHdr) (st : Byte) (data : List Byte) : (d.answered op h st data).db = d.db := rfl
@[simp] theorem Dev.answered_panes (d : Dev) (op : Byte) (h : CmdHdr) (st : Byte) (data : List Byte) : (d.answered op h st data).panes = d.panes := rfl
@[simp] theorem Dev.answered_pctl (d : Dev) (op : Byte) (h : CmdHdr) (st : Byte) (data : List Byte) : (d.answered op h st data).pctl = d.pctl := rfl
@[simp] theorem Dev.answered_csm (d : Dev) (op : Byte) (h : CmdHdr) (st : Byte) (data : List Byte) : (d.answered op h st data).csm = d.csm := rfl
@[simp] theorem Dev.answered_mul (d : Dev) (op : Byte) (h : CmdHdr) (st : Byte) (data : List Byte) : (d.answered op h st data).mul = d.mul := rfl
@[simp] theorem Dev.answered_mdl (d : Dev) (op : Byte) (h : CmdHdr) (st : Byte) (data : List Byte) : (d.answered op h st data).mdl = d.mdl := rfl
@[simp] theorem Dev.answered_sill (d : Dev) (op : Byte) (h : CmdHdr) (st : Byte) (data : List Byte) : (d.answered op h st data).sill = d.sill := rfl
@[simp] theorem Dev.answered_storm (d : Dev) (op : Byte) (h : CmdHdr) (st : Byte) (data : List Byte) : (d.answered op h st data).storm = d.storm := rfl
@[simp] theorem Dev.answered_chk (d : Dev) (op : Byte) (h : CmdHdr) (st : Byte) (data : List Byte) : (d.answered op h st data).chk = d.chk := rfl
@[simp] theorem Dev.answered_front (d : Dev) (op : Byte) (h : CmdHdr) (st : Byte) (data : List Byte) : (d.answered op h st data).front = d.front := rfl
@[simp] theorem Dev.answered_svy (d : Dev) (op : Byte) (h : CmdHdr) (st : Byte) (data : List Byte) : (d.answered op h st data).svy = d.svy := rfl
@[simp] theorem Dev.answered_dbg (d : Dev) (op : Byte) (h : CmdHdr) (st : Byte) (data : List Byte) : (d.answered op h st data).dbg = d.dbg := rfl
@[simp] theorem Dev.answered_stk (d : Dev) (op : Byte) (h : CmdHdr) (st : Byte) (data : List Byte) : (d.answered op h st data).stk = d.stk := rfl
@[simp] theorem Dev.answered_fab (d : Dev) (op : Byte) (h : CmdHdr) (st : Byte) (data : List Byte) : (d.answered op h st data).fab = d.fab := rfl
@[simp] theorem Dev.answered_free (d : Dev) (op : Byte) (h : CmdHdr) (st : Byte) (data : List Byte) : (d.answered op h st data).free = d.free := rfl

/-! What the updates of one numbered unit give that unit and leave the others. -/

theorem Dev.withHl_hl (d : Dev) (h : HostLink) : (d.withHl h).hl = h := rfl
theorem Dev.reg_withHl (d : Dev) (h : HostLink) (a : Nat) : (d.withHl h).reg a = d.reg a := rfl
theorem Dev.reg_taken (d : Dev) (op : Byte) (ps : List Byte) (h : CmdHdr) (a : Nat) : (d.taken op ps h).reg a = d.reg a := rfl
theorem Dev.pane_taken (d : Dev) (op : Byte) (ps : List Byte) (h : CmdHdr) (p : Nat) : (d.taken op ps h).pane p = d.pane p := rfl
theorem Dev.slot_taken (d : Dev) (op : Byte) (ps : List Byte) (h : CmdHdr) (i : Nat) : (d.taken op ps h).slot i = d.slot i := rfl
theorem Dev.chan_taken (d : Dev) (op : Byte) (ps : List Byte) (h : CmdHdr) (i : Nat) : (d.taken op ps h).chan i = d.chan i := rfl
theorem Dev.dom_taken (d : Dev) (op : Byte) (ps : List Byte) (h : CmdHdr) (n : Nat) : (d.taken op ps h).dom n = d.dom n := rfl

end Sys2Proof.Machine
end

