-- ==== Sys2Proof/Laws/Units.lean ====
section
/-! SUPPORT. A numbered unit that is written holds what was written, every other unit of its kind what it held, and registers do not
move. -/
namespace Sys2Proof.Machine

theorem Dev.pane_setPane (d : Dev) (i j : Nat) (v : Pane) : (d.setPane i v).pane j = if j = i then v else d.pane j := by
  simp [Dev.pane, Dev.setPane, Tab.get_set]
@[simp] theorem Dev.pane_setPane_same (d : Dev) (i : Nat) (v : Pane) : (d.setPane i v).pane i = v := by simp [Dev.pane_setPane]
theorem Dev.pane_setPane_other (d : Dev) {i j : Nat} (v : Pane) (h : j ≠ i) : (d.setPane i v).pane j = d.pane j := by simp [Dev.pane_setPane, h]
@[simp] theorem Dev.reg_setPane (d : Dev) (i a : Nat) (v : Pane) : (d.setPane i v).reg a = d.reg a := rfl
@[simp] theorem Dev.pane_setReg (d : Dev) (i a : Nat) (w : Word) : (d.setReg a w).pane i = d.pane i := rfl
@[simp] theorem Dev.pane_setFld (d : Dev) (i a lo n x : Nat) : (d.setFld a lo n x).pane i = d.pane i := rfl

theorem Dev.cas_setCas (d : Dev) (i j : Nat) (v : Casement) : (d.setCas i v).cas j = if j = i then v else d.cas j := by
  simp [Dev.cas, Dev.setCas, Tab.get_set]
@[simp] theorem Dev.cas_setCas_same (d : Dev) (i : Nat) (v : Casement) : (d.setCas i v).cas i = v := by simp [Dev.cas_setCas]
theorem Dev.cas_setCas_other (d : Dev) {i j : Nat} (v : Casement) (h : j ≠ i) : (d.setCas i v).cas j = d.cas j := by simp [Dev.cas_setCas, h]
@[simp] theorem Dev.reg_setCas (d : Dev) (i a : Nat) (v : Casement) : (d.setCas i v).reg a = d.reg a := rfl
@[simp] theorem Dev.cas_setReg (d : Dev) (i a : Nat) (w : Word) : (d.setReg a w).cas i = d.cas i := rfl
@[simp] theorem Dev.cas_setFld (d : Dev) (i a lo n x : Nat) : (d.setFld a lo n x).cas i = d.cas i := rfl

theorem Dev.slot_setSlot (d : Dev) (i j : Nat) (v : Slot) : (d.setSlot i v).slot j = if j = i then v else d.slot j := by
  simp [Dev.slot, Dev.setSlot, Tab.get_set]
@[simp] theorem Dev.slot_setSlot_same (d : Dev) (i : Nat) (v : Slot) : (d.setSlot i v).slot i = v := by simp [Dev.slot_setSlot]
theorem Dev.slot_setSlot_other (d : Dev) {i j : Nat} (v : Slot) (h : j ≠ i) : (d.setSlot i v).slot j = d.slot j := by simp [Dev.slot_setSlot, h]
@[simp] theorem Dev.reg_setSlot (d : Dev) (i a : Nat) (v : Slot) : (d.setSlot i v).reg a = d.reg a := rfl
@[simp] theorem Dev.slot_setReg (d : Dev) (i a : Nat) (w : Word) : (d.setReg a w).slot i = d.slot i := rfl
@[simp] theorem Dev.slot_setFld (d : Dev) (i a lo n x : Nat) : (d.setFld a lo n x).slot i = d.slot i := rfl

theorem Dev.ticket_setTicket (d : Dev) (i j : Nat) (v : Ticket) : (d.setTicket i v).ticket j = if j = i then v else d.ticket j := by
  simp [Dev.ticket, Dev.setTicket, Tab.get_set]
@[simp] theorem Dev.ticket_setTicket_same (d : Dev) (i : Nat) (v : Ticket) : (d.setTicket i v).ticket i = v := by simp [Dev.ticket_setTicket]
theorem Dev.ticket_setTicket_other (d : Dev) {i j : Nat} (v : Ticket) (h : j ≠ i) : (d.setTicket i v).ticket j = d.ticket j := by simp [Dev.ticket_setTicket, h]
@[simp] theorem Dev.reg_setTicket (d : Dev) (i a : Nat) (v : Ticket) : (d.setTicket i v).reg a = d.reg a := rfl
@[simp] theorem Dev.ticket_setReg (d : Dev) (i a : Nat) (w : Word) : (d.setReg a w).ticket i = d.ticket i := rfl
@[simp] theorem Dev.ticket_setFld (d : Dev) (i a lo n x : Nat) : (d.setFld a lo n x).ticket i = d.ticket i := rfl

theorem Dev.chan_setChan (d : Dev) (i j : Nat) (v : Chan) : (d.setChan i v).chan j = if j = i then v else d.chan j := by
  simp [Dev.chan, Dev.setChan, Tab.get_set]
@[simp] theorem Dev.chan_setChan_same (d : Dev) (i : Nat) (v : Chan) : (d.setChan i v).chan i = v := by simp [Dev.chan_setChan]
theorem Dev.chan_setChan_other (d : Dev) {i j : Nat} (v : Chan) (h : j ≠ i) : (d.setChan i v).chan j = d.chan j := by simp [Dev.chan_setChan, h]
@[simp] theorem Dev.reg_setChan (d : Dev) (i a : Nat) (v : Chan) : (d.setChan i v).reg a = d.reg a := rfl
@[simp] theorem Dev.chan_setReg (d : Dev) (i a : Nat) (w : Word) : (d.setReg a w).chan i = d.chan i := rfl
@[simp] theorem Dev.chan_setFld (d : Dev) (i a lo n x : Nat) : (d.setFld a lo n x).chan i = d.chan i := rfl

theorem Dev.port_setPort (d : Dev) (i j : Nat) (v : StkPort) : (d.setPort i v).port j = if j = i then v else d.port j := by
  simp [Dev.port, Dev.setPort, Tab.get_set]
@[simp] theorem Dev.port_setPort_same (d : Dev) (i : Nat) (v : StkPort) : (d.setPort i v).port i = v := by simp [Dev.port_setPort]
theorem Dev.port_setPort_other (d : Dev) {i j : Nat} (v : StkPort) (h : j ≠ i) : (d.setPort i v).port j = d.port j := by simp [Dev.port_setPort, h]
@[simp] theorem Dev.reg_setPort (d : Dev) (i a : Nat) (v : StkPort) : (d.setPort i v).reg a = d.reg a := rfl
@[simp] theorem Dev.port_setReg (d : Dev) (i a : Nat) (w : Word) : (d.setReg a w).port i = d.port i := rfl
@[simp] theorem Dev.port_setFld (d : Dev) (i a lo n x : Nat) : (d.setFld a lo n x).port i = d.port i := rfl

theorem Dev.site_setSite (d : Dev) (i j : Nat) (v : SitePort) : (d.setSite i v).site j = if j = i then v else d.site j := by
  simp [Dev.site, Dev.setSite, Tab.get_set]
@[simp] theorem Dev.site_setSite_same (d : Dev) (i : Nat) (v : SitePort) : (d.setSite i v).site i = v := by simp [Dev.site_setSite]
theorem Dev.site_setSite_other (d : Dev) {i j : Nat} (v : SitePort) (h : j ≠ i) : (d.setSite i v).site j = d.site j := by simp [Dev.site_setSite, h]
@[simp] theorem Dev.reg_setSite (d : Dev) (i a : Nat) (v : SitePort) : (d.setSite i v).reg a = d.reg a := rfl
@[simp] theorem Dev.site_setReg (d : Dev) (i a : Nat) (w : Word) : (d.setReg a w).site i = d.site i := rfl
@[simp] theorem Dev.site_setFld (d : Dev) (i a lo n x : Nat) : (d.setFld a lo n x).site i = d.site i := rfl

theorem Dev.dom_setDom (d : Dev) (i j : Nat) (v : DomPhase) : (d.setDom i v).dom j = if j = i then v else d.dom j := by
  simp [Dev.dom, Dev.setDom, Tab.get_set]
@[simp] theorem Dev.dom_setDom_same (d : Dev) (i : Nat) (v : DomPhase) : (d.setDom i v).dom i = v := by simp [Dev.dom_setDom]
theorem Dev.dom_setDom_other (d : Dev) {i j : Nat} (v : DomPhase) (h : j ≠ i) : (d.setDom i v).dom j = d.dom j := by simp [Dev.dom_setDom, h]
@[simp] theorem Dev.reg_setDom (d : Dev) (i a : Nat) (v : DomPhase) : (d.setDom i v).reg a = d.reg a := rfl
@[simp] theorem Dev.dom_setReg (d : Dev) (i a : Nat) (w : Word) : (d.setReg a w).dom i = d.dom i := rfl
@[simp] theorem Dev.dom_setFld (d : Dev) (i a lo n x : Nat) : (d.setFld a lo n x).dom i = d.dom i := rfl

end Sys2Proof.Machine
end

