-- ==== Sys2Proof/WellFormed.lean ====
section
/-! DEFINITION. Well-formed commands: every number names a unit that the block has, or fits the field that carries it, and
every list of bytes fits the packet, frame or message that carries it. A byte that a packet may hold is well formed whatever
it is: the device itself refuses it. -/
namespace Sys2Proof

/-- A casement (R6). -/
def casementOk (c : Nat) : Bool := c < 32
/-- A pane (R6). -/
def paneOk (p : Nat) : Bool := p < 128
/-- A router of the mullion: the casements' 0 to 31 and the eight edges (R128, R136). -/
def routerOk (r : Nat) : Bool := r < 40
/-- A front channel (R6). -/
def channelOk (ch : Nat) : Bool := ch < 16
/-- A model slot (R6). -/
def slotOk (n : Nat) : Bool := n < 16
/-- A ticket (R6). -/
def ticketOk (t : Nat) : Bool := t < 128
/-- A quadrant (R6). -/
def quadrantOk (q : Nat) : Bool := 6 ≤ q && q ≤ 9
/-- A power domain (R322). -/
def domainOk (n : Nat) : Bool := n < 10
/-- A sill table (R185). -/
def tableOk (t : Nat) : Bool := t < 64
/-- A hart: casement cores and the hinge's (R488). -/
def hartOk (n : Nat) : Bool := n ≤ 32
/-- A stack port (R398). -/
def stackPortOk (p : Nat) : Bool := p < 3
/-- A site port (R415). -/
def sitePortOk (p : Nat) : Bool := p < 2
/-- A STACK_ID (R405). -/
def stackIdOk (n : Nat) : Bool := n < 4
/-- A trigger pin (TRIG0 or TRIG1). -/
def pinOk (n : Nat) : Bool := n < 2
/-- A field of `w` bits. -/
def fits (w n : Nat) : Bool := n < 2 ^ w
/-- At most `n` elements. -/
def atMost {α : Type} (n : Nat) (l : List α) : Bool := l.length ≤ n

/-- A received stack frame's header (R400). -/
def StkHdr.ok (f : StkHdr) : Bool :=
  stackPortOk f.port && stackIdOk f.src && stackIdOk f.dst && fits 16 f.seq && fits 16 f.ack && fits 64 f.counter

/-- A received site frame's header (R416). -/
def SiteHdr.ok (f : SiteHdr) : Bool :=
  sitePortOk f.port && fits 16 f.dst && fits 16 f.src && fits 16 f.hops && fits 16 f.seq && fits 64 f.counter

/-- What casement code hands over for a record (R164, R171). -/
def VerdictIn.ok (v : VerdictIn) : Bool := fits 8 v.hyp && fits 16 v.class1 && fits 16 v.class2

/-- A command whose operands are all in range. -/
def wellFormed (i : Instr) : Bool :=
  match i with
  | .commandPacket _ => true
  | .truncatedPacket _ => true
  | .unknownInstruction _ => true
  | .readTransaction _ => true
  | .statusTransaction _ => true
  | .commandTaken _ => true
  | .deadlineExpiry _ => true
  | .replyEntersStream => true
  | .notificationEntersStream => true
  | .resolutionEntersStream => true
  | .linkUp => true
  | .nop _ => true
  | .identify _ => true
  | .getState _ => true
  | .reset _ _ => true
  | .startAbort _ => true
  | .doorstepRelease _ => true
  | .patchLoad _ _ data => atMost 4092 data
  | .readReg _ _ _ => true
  | .writeReg _ w => atMost 512 w.pairs && atMost 512 w.setNow
  | .shutterOpen _ _ => true
  | .shutterClose _ _ => true
  | .shutterCloseForce _ _ => true
  | .doze _ => true
  | .wake _ => true
  | .clockConfig _ _ => true
  | .paneProgram _ _ _ _ => true
  | .paneAudit _ records => atMost 4096 records
  | .paneAuditRetained _ panes => atMost 4096 panes
  | .paneSelftest _ _ => true
  | .paneRetire _ _ => true
  | .paneGraft _ _ _ => true
  | .paneStatus _ _ _ => true
  | .ledgerRead _ _ _ _ => true
  | .modelLoad _ _ offset data => fits 24 offset && atMost 4092 data
  | .modelStart _ _ _ _ _ _ => true
  | .modelStop _ _ => true
  | .modelUnload _ _ => true
  | .runWindow _ _ _ _ _ _ => true
  | .resultRead _ _ => true
  | .checkConfig _ _ sect => atMost 4092 sect
  | .sillWrite _ _ data => atMost 4092 data
  | .sillRead _ _ _ => true
  | .sillTableDefine _ desc => atMost 4096 desc
  | .sillZero _ _ _ => true
  | .probeConfig _ _ _ _ _ => true
  | .excSet _ _ codes => atMost 2047 codes
  | .tedsRead _ _ => true
  | .tedsWrite _ _ _ _ data => atMost 4092 data
  | .probeLifeGet _ _ => true
  | .probeLifeSet _ _ _ _ _ _ => true
  | .probeLifeWrite _ _ => true
  | .surveySeq _ _ _ _ entries => atMost 255 entries
  | .surveyUrgent _ _ => true
  | .surveyCal _ => true
  | .acqCal _ _ => true
  | .acqConfig _ _ _ _ _ => true
  | .stackConfigForm _ => true
  | .stackConfigForward _ _ packet => atMost 4094 packet
  | .stackConfigReset _ _ _ => true
  | .stackConfigPorts _ _ => true
  | .stackConfigStatus _ => true
  | .fabricJoin _ _ => true
  | .fabricLeave _ _ => true
  | .fabricTable _ _ _ _ data => atMost 4088 data
  | .fabricSend _ _ _ payload => atMost 4092 payload
  | .fabricFetch _ => true
  | .timeAlign _ _ _ _ => true
  | .jambRead _ _ _ _ => true
  | .jambWrite _ _ _ data => atMost 4094 data
  | .jambCommit _ _ => true
  | .jambCommitDiscard _ _ => true
  | .jambLock _ _ => true
  | .bolt _ => true
  | .unbolt _ => true
  | .latchSet _ _ _ _ _ _ _ _ _ => true
  | .dumpTensorArm _ _ _ _ => true
  | .dumpTensorCancel _ _ _ _ => true
  | .countersRead _ _ ids => atMost 255 ids
  | .traceConfig _ _ _ => true
  | .keyProvisionGenerate _ _ => true
  | .keyProvisionWriteImage _ _ key => atMost 4092 key
  | .keyProvisionWriteFabric _ _ key => atMost 4092 key
  | .keyProvisionWriteStack _ _ key => atMost 4092 key
  | .keyProvisionReadPublic _ _ => true
  | .keyProvisionClear _ _ => true
  | .seal _ hash => atMost 4096 hash
  | .tamperPolicy _ _ => true
  | .alarmClear _ answer => atMost 4096 answer
  | .authChallengeRequest _ _ => true
  | .authChallengeAttest _ nonce => atMost 4094 nonce
  | .authChallengeAnswer _ sig => atMost 4095 sig
  | .registerWrite _ _ => true
  | .paneClrCounts pane => paneOk pane
  | .csmCtrlHalt c _ => casementOk c
  | .csmCtrlRestart c => casementOk c
  | .csmWdtKick c _ => casementOk c
  | .hostFence c => casementOk c
  | .hwdtKick _ => true
  | .resqClrHigh => true
  | .excCodeWrite ch _ => channelOk ch
  | .acqGainWrite ch _ => channelOk ch
  | .singleGo => true
  | .svyModeWrite mode => fits 2 mode
  | .svyMainsWrite mains => fits 2 mains
  | .svyLowpwrWrite _ => true
  | .svyCalrefWrite _ => true
  | .svyResultRead last k => decide (k < (if last then 48 else 32))
  | .ftLoRead => true
  | .frameTimeCsrRead c _ => casementOk c
  | .rtcLoRead => true
  | .stkOffLoRead id => stackIdOk id
  | .dbgBoltFtLoRead => true
  | .alarmHiWrite _ => true
  | .wakeAlarmClear => true
  | .wakeDisarm => true
  | .dbCtrlDrop => true
  | .traceMark _ => true
  | .linSet ticket pos ref => ticketOk ticket && fits 2 pos && fits 14 ref
  | .coreInstruction c => casementOk c
  | .machineExternalInterrupt c => casementOk c
  | .pnFire c _ _ _ => casementOk c
  | .pnCollect c _ _ _ => casementOk c
  | .auCopy c _ _ _ => casementOk c
  | .auAbs c _ _ _ => casementOk c
  | .auRelu c _ _ _ => casementOk c
  | .auMag2 c _ _ _ => casementOk c
  | .auScale c _ _ _ => casementOk c
  | .auAdd c _ _ _ => casementOk c
  | .auPoolsum c _ _ _ => casementOk c
  | .auPoolmax c _ _ _ => casementOk c
  | .mqSend c _ _ _ => casementOk c
  | .mqRecv c _ _ => casementOk c
  | .mqWait c _ _ => casementOk c
  | .mqReply c _ _ _ => casementOk c
  | .mqFree c _ _ => casementOk c
  | .slLookup c _ _ _ => casementOk c
  | .slLease c _ table => casementOk c && tableOk table
  | .slLeaseRelease c _ table => casementOk c && tableOk table
  | .data src dst => routerOk src && routerOk dst
  | .reqUser src dst => routerOk src && routerOk dst
  | .rsp src dst _ => routerOk src && routerOk dst
  | .regRd src dst => routerOk src && routerOk dst
  | .regWr src dst => routerOk src && routerOk dst
  | .sillRd src dst => routerOk src && routerOk dst
  | .sillWr src dst => routerOk src && routerOk dst
  | .sillLookup src dst => routerOk src && routerOk dst
  | .sillLease src dst x => routerOk src && routerOk dst && x.rival.all (fun r => routerOk r && r != src)
  | .paneFwd src dst => routerOk src && routerOk dst
  | .credit src dst => routerOk src && routerOk dst
  | .control src dst => routerOk src && routerOk dst
  | .requestTimeout c slot => casementOk c && slotOk slot
  | .casementWatchdogExpiry c => casementOk c
  | .casementFault c cause => casementOk c && (1 ≤ cause && cause ≤ 4)
  | .fenceDrainEnd c => casementOk c
  | .casementRestart c => casementOk c.casement
  | .productStart pane => paneOk pane
  | .productComplete pane => paneOk pane
  | .calibrationPair pane => paneOk pane
  | .calPeriodExpiry pane => paneOk pane
  | .calInsert pane => paneOk pane
  | .arrayUpdate pane _ => paneOk pane
  | .ledgerEntryStale pane col => paneOk pane && decide (col < 520)
  | .programStart pane => paneOk pane
  | .vddPgmGood quadrant => quadrantOk quadrant
  | .vddPgmLost quadrant => quadrantOk quadrant
  | .programSupplyTimeout pane => paneOk pane
  | .programIteration pane => paneOk pane
  | .programEnd pane => paneOk pane
  | .auditStart c => casementOk c
  | .auditComplete c => casementOk c
  | .selftestSubstep pane => paneOk pane
  | .graftRelease pane => paneOk pane
  | .windowComplete ch => channelOk ch
  | .ticketDone ticket v _ => ticketOk ticket && v.ok
  | .recordEmit slot => slotOk slot
  | .ticketLimitExpiry ticket => ticketOk ticket
  | .lookupReply edge => decide (edge < 2)
  | .leaseExpiry table => tableOk table
  | .sillClearComplete => true
  | .zeroFrontAdvance die => decide (die < 2)
  | .scrubRead _ => true
  | .streamedRunStart => true
  | .stormOperationComplete => true
  | .shadowPassStart slot _ => slotOk slot
  | .stormPassEnd _ => true
  | .sampleAbandon slot step _ _ => slotOk slot && fits 32 step
  | .stormFault => true
  | .stormRestart => true
  | .sourceLoss node stackId slot seq => fits 16 node && stackIdOk stackId && slotOk slot && fits 16 seq
  | .sourceHoldExpiry node stackId slot seq => fits 16 node && stackIdOk stackId && slotOk slot && fits 16 seq
  | .biasDeparture ch _ => channelOk ch
  | .biasReturn ch => channelOk ch
  | .debounceComplete ch => channelOk ch
  | .tedsAccessStart => true
  | .tedsAccessComplete _ ident memory => atMost 8 ident && atMost 128 memory
  | .tedsStuck => true
  | .settleComplete ch => channelOk ch
  | .lifeSecond ch => channelOk ch
  | .shockBlock ch => channelOk ch
  | .lifeAutoWrite ch => channelOk ch
  | .acqSample ch _ _ => channelOk ch
  | .acqCalPhaseEnd ch phase => channelOk ch && 1 ≤ phase && phase ≤ 3
  | .surveyConversionEnd _ _ => true
  | .surveyPredelayEnd => true
  | .shutterCommandStart => true
  | .casementPairStart d => domainOk d
  | .domainOpenComplete d => domainOk d
  | .railWaitTimeout => true
  | .railFail d => domainOk d
  | .drainEnd d us _ nearMiss => domainOk d && fits 32 us && fits 16 nearMiss
  | .powerCut d => domainOk d
  | .mainSupplyLoss => true
  | .brownOut => true
  | .monitorRelease => true
  | .pllLock => true
  | .pllLockLoss => true
  | .rstNLow => true
  | .rstNHigh => true
  | .resetStretchEnd => true
  | .optionLoadComplete straps _ => fits 8 straps
  | .hwdtExpiry => true
  | .ajarTimeout _ => true
  | .lintelPor _ => true
  | .lintelSupplySwitch _ => true
  | .externalWake => true
  | .wakeAlarm => true
  | .tamperEvent _ => true
  | .challengeExpiry => true
  | .deviceCommitStart => true
  | .jambCommitComplete _ => true
  | .boltIoLow => true
  | .trigBolt pin => pinOk pin
  | .trigMark pin value => pinOk pin && fits 16 value
  | .boltQuiet => true
  | .boltRelease => true
  | .histogramSample => true
  | .traceRecordWrite => true
  | .tapReset => true
  | .extest _ _ => true
  | .idcode => true
  | .samplePreload _ _ => true
  | .dtmcs _ => true
  | .dmi _ _ _ => true
  | .dmHaltRequest hart => hartOk hart
  | .dmResume hart => hartOk hart
  | .accessRegister hart regno _ _ => hartOk hart && fits 16 regno
  | .accessMemory hart _ size _ _ => hartOk hart && fits 3 size
  | .scanState => true
  | .boltReq => true
  | .boltReqUnbolt => true
  | .sysResetCorerst => true
  | .sysResetSysrst => true
  | .bypass _ => true
  | .heartbeat f steps => f.ok && atMost 16 steps
  | .stackCredit f req rsp ctl => f.ok && fits 8 req && fits 8 rsp && fits 8 ctl
  | .stackData f ticket _ payload => f.ok && ticketOk ticket && atMost 520 payload
  | .cmd f packet => f.ok && atMost 520 packet
  | .reply f packet => f.ok && atMost 520 packet
  | .note f packet => f.ok && atMost 520 packet
  | .stackRecord f x => f.ok && atMost 520 x.records
  | .stackResolve f records => f.ok && atMost 520 records
  | .epoch f data => f.ok && atMost 520 data
  | .commit f _ _ _ => f.ok
  | .sync f _ _ _ _ => f.frame.ok
  | .stackReset f _ => f.ok
  | .takeover f _ _ => f.ok
  | .train f id generation uid => f.ok && stackIdOk id && fits 16 generation && fits 96 uid
  | .portUp port => stackPortOk port
  | .noTrain port => stackPortOk port
  | .stackResend port => stackPortOk port
  | .stackGiveUp port => stackPortOk port
  | .portDown port => stackPortOk port
  | .heartbeatDue port => stackPortOk port
  | .epochClose => true
  | .stkAliveToggle => true
  | .standbyTakeover _ _ => true
  | .hello f uid addr origin _ adjSeq => f.ok && fits 96 uid && fits 16 addr && fits 16 origin && fits 32 adjSeq
  | .adj f uid addr nbrA nbrB seq flags => f.ok && fits 96 uid && fits 16 addr && fits 16 nbrA && fits 16 nbrB && fits 32 seq && fits 8 flags
  | .ack f seq _ => f.ok && fits 16 seq
  | .offsetReq f _ => f.ok
  | .offsetRsp f _ _ _ => f.ok
  | .siteRecord f records => f.ok && atMost 1024 records
  | .siteResolve f records => f.ok && atMost 1024 records
  | .siteAlarm f payload => f.ok && atMost 1024 payload
  | .table f payload => f.ok && atMost 1024 payload
  | .user f payload => f.ok && atMost 1024 payload
  | .fail f src seq => f.ok && fits 16 src && fits 16 seq
  | .frameForward port => sitePortOk port
  | .helloDue port => sitePortOk port
  | .neighbourLost port _ => sitePortOk port
  | .adjacencyRefresh => true
  | .adjacencyExpiry addr => fits 16 addr
  | .fabricResend port seq => sitePortOk port && fits 16 seq
  | .fabricGiveUp port seq => sitePortOk port && fits 16 seq
  | .offsetRemeasure port => sitePortOk port
  | .phyInterrupt port _ => sitePortOk port
  | .phyResetRelease x => sitePortOk x.port
  | .hostReset => true
  | .verificationComplete => true
  | .sealBurnComplete => true
  | .railGood _ _ => true
  | .quadrantStart => true
  | .hirqNHoldoffEnd => true
  | .pnCollectTimeout c _ _ _ => casementOk c
  | .mqSendTimeout c _ _ _ => casementOk c
  | .lintelCrystalStart => true

end Sys2Proof
end

