-- ==== Sys2Proof/Tests/Slice0.lean ====
section
/-! SUPPORT. The model's own tests: ill-formed commands that the well-formedness check refuses, the manual's worked examples
and figures, single commands on small states, and for every obligation a witness theorem that applies each of its clauses to
a concrete state and operands that meet all its hypotheses. -/
namespace Sys2Proof.Tests
open Sys2Proof.Machine
-- One theorem at a time: elaborated beside each other, so many kernel evaluations wait on one another's threads.
set_option Elab.async false

/-! ### Small states -/

/-- A statement whose next two hypotheses the kernel decides holds under the rest. -/
theorem met2 {a b q : Prop} (f : a → b → q) (ha : a := by decide +kernel) (hb : b := by decide +kernel) : q := f ha hb
/-- As `met2`, for three hypotheses. -/
theorem met3 {a b c q : Prop} (f : a → b → c → q) (ha : a := by decide +kernel) (hb : b := by decide +kernel)
    (hc : c := by decide +kernel) : q := f ha hb hc
/-- As `met2`, for four hypotheses. -/
theorem met4 {a b c d q : Prop} (f : a → b → c → d → q) (ha : a := by decide +kernel) (hb : b := by decide +kernel)
    (hc : c := by decide +kernel) (hd : d := by decide +kernel) : q := f ha hb hc hd
/-- As `met2`, for five hypotheses. -/
theorem met5 {a b c d e q : Prop} (f : a → b → c → d → e → q) (ha : a := by decide +kernel) (hb : b := by decide +kernel)
    (hc : c := by decide +kernel) (hd : d := by decide +kernel) (he : e := by decide +kernel) : q := f ha hb hc hd he

/-- The device an outcome leaves; the reset device where it does not run on. -/
def getDev (o : Host.Outcome State Fault Refusal) : Dev := match o with | .next t => t.dev | _ => Dev.reset
/-- The state an outcome leaves; the reset state where it does not run on. -/
def getState (o : Host.Outcome State Fault Refusal) : State := match o with | .next t => t | _ => State.reset
/-- A state with a device of the test's choice. -/
def W (d : Dev) : State := { State.reset with dev := d }
/-- A device that runs: in AJAR, every optional domain open, the host link ready. -/
def wd : Dev := { Dev.reset with
  hl := { HostLink.reset with ready := true }
  sys := { SysState.reset with main := .ajar, ft := 1000 }
  rst := { ResetState.reset with starting := false, optionLoad := false, hingeUp := true, rstoutLow := false, causes := [] }
  pwr := { PowerState.reset with dom := [(2, .opened), (3, .opened), (4, .opened), (5, .opened), (6, .opened), (7, .opened), (8, .opened), (9, .opened)] } }
/-- The running state. -/
def w0 : State := W wd
/-- A correct header of a command: tag 7. -/
def hdr7 : CmdHdr := ⟨7, false⟩

/-! ### Well-formedness: each check refuses a term beyond its bound, and takes one at it -/

theorem test_wf_casement : wellFormed (.csmCtrlHalt 32 true) = false ∧ wellFormed (.csmCtrlHalt 31 true) = true := by decide
theorem test_wf_pane : wellFormed (.productStart 128) = false ∧ wellFormed (.productStart 127) = true := by decide
theorem test_wf_router : wellFormed (.data 0 40) = false ∧ wellFormed (.data 39 0) = true := by decide
theorem test_wf_channel : wellFormed (.biasReturn 16) = false ∧ wellFormed (.biasReturn 15) = true := by decide
theorem test_wf_slot : wellFormed (.recordEmit 16) = false ∧ wellFormed (.recordEmit 15) = true := by decide
theorem test_wf_ticket : wellFormed (.ticketLimitExpiry 128) = false ∧ wellFormed (.ticketLimitExpiry 127) = true := by decide
theorem test_wf_quadrant : wellFormed (.vddPgmGood 5) = false ∧ wellFormed (.vddPgmGood 10) = false ∧ wellFormed (.vddPgmGood 6) = true ∧ wellFormed (.vddPgmGood 9) = true := by decide
theorem test_wf_domain : wellFormed (.powerCut 10) = false ∧ wellFormed (.powerCut 9) = true := by decide
theorem test_wf_table : wellFormed (.leaseExpiry 64) = false ∧ wellFormed (.leaseExpiry 63) = true := by decide
theorem test_wf_hart : wellFormed (.dmResume 33) = false ∧ wellFormed (.dmResume 32) = true := by decide
theorem test_wf_stack_port : wellFormed (.portUp 3) = false ∧ wellFormed (.portUp 2) = true := by decide
theorem test_wf_site_port : wellFormed (.helloDue 2) = false ∧ wellFormed (.helloDue 1) = true := by decide
theorem test_wf_stack_id : wellFormed (.stkOffLoRead 4) = false ∧ wellFormed (.stkOffLoRead 3) = true := by decide
theorem test_wf_pin : wellFormed (.trigBolt 2) = false ∧ wellFormed (.trigBolt 1) = true := by decide
theorem test_wf_field : wellFormed (.svyModeWrite 4) = false ∧ wellFormed (.svyModeWrite 3) = true
    ∧ wellFormed (.linSet 0 0 16384) = false ∧ wellFormed (.linSet 0 3 16383) = true := by decide
theorem test_wf_length : wellFormed (.seal hdr7 (List.replicate 4097 0)) = false
    ∧ wellFormed (.seal hdr7 (List.replicate 32 0)) = true := by decide +kernel
theorem test_wf_cause : wellFormed (.casementFault 0 0) = false ∧ wellFormed (.casementFault 0 5) = false
    ∧ wellFormed (.casementFault 0 4) = true := by decide
theorem test_wf_ledger_column : wellFormed (.ledgerEntryStale 0 520) = false ∧ wellFormed (.ledgerEntryStale 0 519) = true := by decide
theorem test_wf_sill_edge : wellFormed (.lookupReply 2) = false ∧ wellFormed (.lookupReply 1) = true := by decide
theorem test_wf_die : wellFormed (.zeroFrontAdvance 2) = false ∧ wellFormed (.zeroFrontAdvance 1) = true := by decide
theorem test_wf_survey_result : wellFormed (.svyResultRead true 48) = false ∧ wellFormed (.svyResultRead false 32) = false
    ∧ wellFormed (.svyResultRead true 47) = true := by decide
theorem test_wf_stack_header : wellFormed (.stackReset ⟨3, 0, 0, false, true, 0, 0, 0, false⟩ 0) = false
    ∧ wellFormed (.stackReset ⟨0, 0, 0, false, true, 65536, 0, 0, false⟩ 0) = false
    ∧ wellFormed (.stackReset ⟨2, 3, 3, false, true, 65535, 0, 0, false⟩ 0) = true := by decide
theorem test_wf_site_header : wellFormed (.user ⟨2, false, true, false, false, 0, 0, 0, 0, 0⟩ []) = false
    ∧ wellFormed (.user ⟨0, false, true, false, false, 0x10000, 0, 0, 0, 0⟩ []) = false
    ∧ wellFormed (.user ⟨1, false, true, false, false, 0xFFFF, 0, 0, 0, 0⟩ []) = true := by decide
theorem test_wf_verdict : wellFormed (.ticketDone 0 ⟨0, 256, true, 0, 0, 0, 0, 0⟩ false) = false
    ∧ wellFormed (.ticketDone 0 ⟨0, 255, true, 65535, 65535, 0, 0, 0⟩ false) = true := by decide

/-! ### The manual's worked examples and figures -/

/-- R521: the CRC of the nine ASCII bytes "123456789" is 0x29B1. -/
theorem test_crc16 : crc16 [0x31, 0x32, 0x33, 0x34, 0x35, 0x36, 0x37, 0x38, 0x39] = 0x29B1 := by decide +kernel
/-- The worked example of 00_scope.md: pane 77 is slot 1 of casement 19, in quadrant QSW (domain 8), whose casements are 16 to
19 and 24 to 27, and the casement's registers start at 0x0011_3000. -/
theorem test_pane_77 : quadOfPane 77 = 8 ∧ quadOf 19 = 8 ∧ casOfQuad 8 = [16, 17, 18, 19, 24, 25, 26, 27]
    ∧ aCsm 19 0 = 0x113000 := by decide +kernel
/-- The worked example of 02_panes.md: residuals 20 and 359 locate column 17 (R37). -/
theorem test_located : located 20 359 = some 17 := by decide +kernel
/-- The worked example of 04_drift_ledger.md: OFFSET 24 and GINV 17,504 correct code 230 to 976 quarter-LSB (R103). -/
theorem test_correct : correct false (some (17504, 24)) 230 = 976 ∧ roundAway (16384 / (936 / 1000)) = 17504 := by decide +kernel
/-- The worked example of 06_models_tickets_verdicts.md: the 32 bytes of a record (R171). -/
theorem test_record_bytes :
    patch (recordBytes 2 5 (some 37) ⟨0, 41, true, 3, 0, 21000, 3500, 812⟩ 1000 1 0x123456789A []) 8 [0x23, 0x01] =
      [0x52, 0x25, 0x00, 0x69, 0xE8, 0x03, 0x00, 0x00, 0x23, 0x01, 0x03, 0x00, 0x08, 0x52, 0xAC, 0x0D, 0x2C, 0x03, 0x01, 0x00,
       0x9A, 0x78, 0x56, 0x34, 0x12, 0xFF, 0xFF, 0xFF, 0xFF, 0xFF, 0xFF, 0xFF] := by decide +kernel
/-- The worked example of 07_sill.md: the index of asset 517, speed 41, load 2, temperature 5 is 2,120,277 (R187). -/
theorem test_table_index : Desc.index ⟨5, 0, 64, 4194304, 0x60000000, 10, 6, 3, 3⟩ 517 41 2 5 = some 2120277
    ∧ 0x60000000 + 2120277 * 64 = 0x68169540 := by decide
/-- The worked example of 09_silent_errors.md: the tolerance is 226 with compensation and 353 without (R232). -/
theorem test_tau : tauValue (0x000F0010 ||| 15) 6 50 ⟨0, 1, 0xFF, 0, 4, true, 0⟩ = 226
    ∧ tauValue (0x000F0010 ||| 15) 6 50 ⟨0, 1, 0xFF, 0, 4, false, 0⟩ = 353 := by decide +kernel
/-- The worked example of 08_storm.md: 264 items and 16 channels walk with Q = 2 and W = 31; at Q = 1, W would be 15 (R219). -/
theorem test_walk : dwellOf 264 1 = 15 ∧ walkOf 264 16 = some (2, 31) := by decide
/-- SHA-256 is that of FIPS 180-4: its test vector "abc". -/
theorem test_sha256 : sha256 [0x61, 0x62, 0x63] =
    [0xba, 0x78, 0x16, 0xbf, 0x8f, 0x01, 0xcf, 0xea, 0x41, 0x41, 0x40, 0xde, 0x5d, 0xae, 0x22, 0x23,
     0xb0, 0x03, 0x61, 0xa3, 0x96, 0x17, 0x7a, 0x9c, 0xb4, 0x10, 0xff, 0x61, 0xf2, 0x00, 0x15, 0xad] := by decide +kernel

/-! ### Single commands -/

/-- R519: the reply to NOP with tag 7 is SYNC 0x5A, OPCODE 0x00, TAG 7, STATUS OK, LENGTH 0 and a CRC of two bytes. -/
theorem test_nop_reply : (streamOf (getDev (exec (.nop hdr7) w0)).hl.stream).take 6 = [0x5A, 0x00, 0x07, 0x00, 0x00, 0x00]
    ∧ (streamOf (getDev (exec (.nop hdr7) w0)).hl.stream).length = 8 := by decide +kernel
/-- R516: the link status word of an idle link is 0x5010_0000: marker 5 and 16 free command slots. -/
theorem test_status_word : (getDev (exec (.statusTransaction 4) w0)).hl.driven = [0x00, 0x00, 0x10, 0x50] := by decide +kernel
/-- The worked example of 21_signals_and_board.md: EXC_SET writes code 3,277, which EXC_CODEn holds in bits 11 to 0. -/
theorem test_exc_code : (getDev (exec (.excCodeWrite 3 3277) w0)).fldAt (aExc 3) 0 12 = 3277 := by decide +kernel
/-- A step on an empty queue is one core tick (log entry 2). -/
theorem test_tick : (getDev (step w0)).sys.ft = 1001 := by decide +kernel
/-- The step takes the front command and keeps the rest. -/
theorem test_step_order : (getState (step { w0 with pending := [.svyModeWrite 1, .bolt hdr7] })).pending = [.bolt hdr7]
    ∧ (getDev (step { w0 with pending := [.svyModeWrite 1, .bolt hdr7] })).dbg.bolted = false := by decide +kernel
/-- BOLT bolts the device with cause 1 (R493). -/
theorem test_bolt : (getDev (exec (.bolt hdr7) w0)).dbg.bolted = true ∧ (getDev (exec (.bolt hdr7) w0)).dbg.cause = 1 := by decide +kernel
/-- The opcode table gives no bits, so no word spells a command. -/
theorem test_no_words : decodeTableWord 0 0 = none ∧ decodeTableWord 32 0xFFFFFFFF = none := by decide

/-! ### HostLinkW -/

namespace HostLinkW
def wHl (h : HostLink) : State := W { wd with hl := h }
def hl0 : HostLink := wd.hl
def slA : CmdSlot := ⟨0x33, 4, 0, none, [0], .queued⟩
def outP : OutPkt := ⟨[1,2,3], true, false⟩
def slots16 : List CmdSlot := (List.range 16).map (fun k => { slA with tag := BitVec.ofNat 8 (100 + k) })
def note1 : Note := ⟨8, 3, [1,2]⟩
def res1 : Resol := ⟨true, [5]⟩

/-- Each clause of CommandPacketsAreAcceptedOrTurnedAway has a state and operands that meet its hypotheses together. -/
theorem witness_CommandPacketsAreAcceptedOrTurnedAway (H : Obligations.CommandPacketsAreAcceptedOrTurnedAway) : True := by
  have := met5 (H.1 w0 4 4 [])
  have := (met3 (H.2 (wHl { hl0 with slots := [slA] }) 4 4 [])).1 (by decide +kernel)
  have := (met3 ((met3 (H.2 (wHl { hl0 with slots := slots16 }) 4 4 [])).2)) rfl
  exact True.intro

/-- Each clause of TransactionsAndErrors has a state and operands that meet its hypotheses together. -/
theorem witness_TransactionsAndErrors (H : Obligations.TransactionsAndErrors) : True := by
  have ⟨truncated, unknown⟩ := met2 (H.1 w0)
  have := truncated []
  have := unknown 0 (by decide +kernel)
  have := met2 (H.2.1 w0 0)
  have ⟨_, _, _, _, _, host⟩ := H.2.2 (wHl { hl0 with ready := false }) (by decide +kernel)
  have := host (.nop hdr7) (by decide)
  exact True.intro

/-- Each clause of ReadTakesTheOldestBytes has a state and operands that meet its hypotheses together. -/
theorem witness_ReadTakesTheOldestBytes (H : Obligations.ReadTakesTheOldestBytes) : True := by
  have := met2 (H (wHl { hl0 with stream := [outP], hirqLow := true }) 3)
  exact True.intro

/-- Each clause of PacketsEnterTheStream has a state and operands that meet its hypotheses together. -/
theorem witness_PacketsEnterTheStream (H : Obligations.PacketsEnterTheStream) : True := by
  have := (H.1 (wHl { hl0 with linkReplies := [outP] }) (by decide +kernel)).1 _ _ rfl (by decide +kernel)
  have := (H.1 (wHl { hl0 with slots := [{ slA with phase := .waiting outP }] }) (by decide +kernel)).2.1 _ _ _ (by decide +kernel) rfl rfl (by decide +kernel)
  have := (met2 ((H.1 (wHl { hl0 with notes := [note1] }) (by decide +kernel)).2.2.1 _ _)) rfl (by decide +kernel)
  have := (met3 ((H.1 (wHl { hl0 with resols := [res1] }) (by decide +kernel)).2.2.2.1 _)) rfl (by decide +kernel)
  have := (H.1 (wHl { hl0 with linkReplies := [outP] }) (by decide +kernel)).2.2.2.2
  have := met2 (met5 (H.2 (W { wd with hl := { hl0 with ready := false } })))
  exact True.intro

/-- Each clause of CommandTakenOrTimedOut has a state and operands that meet its hypotheses together. -/
theorem witness_CommandTakenOrTimedOut (H : Obligations.CommandTakenOrTimedOut) : True := by
  have := (H (wHl { hl0 with slots := [slA] }) _ (by decide +kernel) rfl (by decide +kernel)).1 (by decide +kernel)
  have := (H (W { wd with hl := { hl0 with slots := [slA] }, sys := { wd.sys with patch := { wd.sys.patch with verifying := some (hostCmdOf 0x06 hdr7) } } }) _ (by decide +kernel) rfl (by decide +kernel)).2.1 (by decide +kernel)
  have := met4 ((H (wHl { hl0 with slots := [{ slA with deadline := some 5 }] }) _ (by decide +kernel) rfl (by decide +kernel)).2.2.1)
  have := (H (W { wd with hl := { hl0 with slots := [slA] }, rst := { wd.rst with hostPending := some .core } }) _ (by decide +kernel) rfl (by decide +kernel)).2.2.2 (by decide +kernel)
  exact True.intro

end HostLinkW

/-! ### PowerResetW -/

namespace PowerResetW
def hh : CmdHdr := ⟨7, false⟩
def wWake : State := W { wd with sys := { wd.sys with main := .waking }, rst := { wd.rst with starting := true } }
def wDoor : State := W { wd with sys := { wd.sys with main := .doorstep } }
def vPatch : Verify := ⟨⟨none, 6, 7, false⟩, .patch, [], []⟩
def wPwr (p : PowerState) : State := W { wd with pwr := p }
def op1 : ShtOp := { cmd := hostCmdOf 0x10 hh, kind := .openMask, todo := [3] }
def op2 (n : Nat) : ShtOp := { cmd := hostCmdOf 0x11 hh, kind := .closeMask, todo := [n] }
def pw (l : List (Nat × DomPhase)) : PowerState := { PowerState.reset with dom := l }
def xOpen : Dev := { wd with pwr := { pw [(3, .opening 0)] with cur := some op1 } }
def xRail : Dev := { wd with pwr := { pw [(2, .waitRail)] with cur := some { op1 with todo := [2] } } }
def xCut : Dev := { wd with pwr := { pw [(2, .cutting false false)] with cur := some (op2 2) } }
def opDoze : ShtOp := { cmd := hostCmdOf 0x12 hh, kind := .doze, todo := [3, 4] }
def slotStarted : Slot := { slotDefault 0 with st := .started }
def rsta (l : RstLevel) (c : Nat) : ResetState := { ResetState.reset with asserted := some l, causes := [(c, l)], optionLoad := false, starting := false }

/-- Each clause of HostResetCommands has a state and operands that meet its hypotheses together. -/
theorem witness_HostResetCommands (H : Obligations.HostResetCommands) : True := by
  have := met2 ((H w0 hh 0).1)
  have := met2 ((H w0 hh 0x10).2.1)
  have := met3 ((H wWake hh 0).2.2.1)
  have := (H wDoor hh 0).2.2.2 (by decide +kernel)
  exact True.intro

/-- Each clause of PatchLoadStagesAndVerifies has a state and operands that meet its hypotheses together. -/
theorem witness_PatchLoadStagesAndVerifies (H : Obligations.PatchLoadStagesAndVerifies) : True := by
  have := (met3 ((H w0 hh 0 [1]).1)).1 rfl (by decide +kernel)
  have := met3 ((met3 ((H (W { wd with sys := { wd.sys with patch := { wd.sys.patch with staged := [1, 2] } } }) hh 2 [1]).1)).2.1)
  have := met2 ((met3 ((H w0 hh 2 [1]).1)).2.2)
  have := met2 ((H (W { wd with db := { wd.db with verifs := [vPatch] } }) hh 2 []).2 _ _ _ (by decide +kernel) rfl (by decide +kernel) rfl)
  exact True.intro

/-- Each clause of RegisterWriteFollowsAccessCodes has a state and operands that meet its hypotheses together. -/
theorem witness_RegisterWriteFollowsAccessCodes (H : Obligations.RegisterWriteFollowsAccessCodes) : True := by
  have ⟨_, write, _, _, closed⟩ := met4 (H w0 hh 0x10014 0x10014 1)
  have := write (by decide +kernel)
  have := closed 5 0 (by decide +kernel)
  exact True.intro

/-- Each clause of RegisterReadsLatchAndRefusals has a state and operands that meet its hypotheses together. -/
theorem witness_RegisterReadsLatchAndRefusals (H : Obligations.RegisterReadsLatchAndRefusals) : True := by
  have := (H.1 w0 hh 0x40000 0 0 []).1 (by decide +kernel) (.inl rfl)
  have := met3 ((H.1 (W { wd with pwr := .reset }) hh 0x40000 0 1 []).2.1)
  have := met2 ((H.1 w0 hh 5 0 1 []).2.2.1)
  have := met4 ((H.1 (W { wd with pwr := .reset }) hh 0x40000 0 1 []).2.2.2.1)
  have := (H.1 w0 hh 5 0 1 []).2.2.2.2 (.inl (by decide +kernel))
  have ⟨_, low, high, _, offset, _, result⟩ := H.2 w0 hh (by decide +kernel)
  have := low (by decide +kernel) (by decide +kernel)
  have := high (by decide +kernel) (by decide +kernel)
  have := offset 0 (by decide +kernel) (by decide +kernel)
  have := result false 0 (by decide +kernel) (by decide +kernel)
  exact True.intro

/-- Each clause of ShutterCommandsBegin has a state and operands that meet its hypotheses together. -/
theorem witness_ShutterCommandsBegin (H : Obligations.ShutterCommandsBegin) : True := by
  have := met3 (met5 (((met2 (H (wPwr .reset) (⟨ 7, false ⟩ : CmdHdr) 4 2)).1 (by decide +kernel)).1))
  have := met4 (((met2 (H (wPwr { PowerState.reset with cur := some op1 }) (⟨ 7, false ⟩ : CmdHdr) 8 0)).1 (by decide +kernel)).2.1)
  have := ((met2 (H (wPwr .reset) (⟨ 7, false ⟩ : CmdHdr) 0x1 0)).1 (by decide +kernel)).2.2.1 (.inl (by decide +kernel))
  have := ((met2 (H (wPwr .reset) (⟨ 7, false ⟩ : CmdHdr) _ 0)).1 (by decide +kernel)).2.2.2 rfl
  have := met4 ((met3 ((met2 (H w0 (⟨ 7, false ⟩ : CmdHdr) 8 3)).2)).1)
  have := met3 (met5 ((met3 ((met2 (H w0 (⟨ 7, false ⟩ : CmdHdr) 4 0)).2)).2))
  exact True.intro

/-- Each clause of ShutterOpeningProceeds has a state and operands that meet its hypotheses together. -/
theorem witness_ShutterOpeningProceeds (H : Obligations.ShutterOpeningProceeds) : True := by
  have := met2 ((met2 ((met3 (H.1 (W (xOpen.taken 0x10 [] hh)))).1 _ _ _ _ rfl)) rfl)
  have := met4 ((met3 (H.1 (wPwr { pw [(3, .opened)] with queue := [op2 3] }))).2.1 _ _ _ (by decide +kernel) rfl (by decide +kernel) rfl)
  have := (met3 ((met3 (H.1 (wPwr (pw [(6, .waitSpacing)])))).2.2.1 6)) (by intro m h1 h2; omega)
  have := (met3 (H.1 (wPwr (pw [(2, .waitRail)])))).2.2.2.1 (by decide +kernel)
  have := (met3 ((met3 (H.1 (W (xRail.taken 0x10 [] hh)))).2.2.2.2 _ _ _ _ rfl)) rfl
  have := met5 (H.2 (wPwr (pw [(6, .opening 3)])) 6 3)
  exact True.intro

/-- Each clause of DrainsAndPowerCuts has a state and operands that meet its hypotheses together. -/
theorem witness_DrainsAndPowerCuts (H : Obligations.DrainsAndPowerCuts) : True := by
  have := (met2 (H (wPwr (pw [(2, .draining false false)])))).1 _ _ 0 false 0 rfl
  have := met2 (met5 ((met2 (H w0)).2.1))
  have := met2 ((met2 ((met2 (H (W (xCut.taken 0x11 [] hh)))).2.2.1 _ _ _ _ rfl)) rfl)
  have := (met4 ((met2 (H (wPwr { pw [(4, .cutting true false), (3, .draining false false)] with cur := some opDoze }))).2.2.2 _ 3 _ _ _ _ (by decide +kernel) rfl)) rfl rfl
  exact True.intro

/-- Each clause of DozeAndWake has a state and operands that meet its hypotheses together. -/
theorem witness_DozeAndWake (H : Obligations.DozeAndWake) : True := by
  have := met2 ((H (W { wd with mdl := { wd.mdl with slots := [(0, slotStarted)] } }) hh).1)
  have := met5 ((H w0 hh).2.1)
  have := met4 (met5 ((H (W { wd with sys := { wd.sys with main := .dozing }, pwr := { PowerState.reset with dozed := [3, 6] } }) hh).2.2 3 [6]))
  exact True.intro

/-- Each clause of ResetSourcesAssertTheirLevel has a state and operands that meet its hypotheses together. -/
theorem witness_ResetSourcesAssertTheirLevel (H : Obligations.ResetSourcesAssertTheirLevel) : True := by
  have ⟨_, pin, _, watchdog, core, sys, _⟩ := met3 (H.1 w0)
  have := pin (by decide +kernel)
  have := watchdog (by decide +kernel) (by decide +kernel)
  have := core (by decide +kernel)
  have := sys (by decide +kernel)
  have := (met3 (H.1 (W { wd with rst := { wd.rst with hostPending := some .sys } }))).2.2.1 _ rfl (by decide +kernel)
  have ⟨pin, host⟩ := met3 (H.2 (W { wd with db := { wd.db with sealed := true }, rst := { wd.rst with hostPending := some .core } }))
  have := pin (by decide +kernel)
  have := host _ rfl (by decide +kernel)
  exact True.intro

/-- Each clause of ResetReleaseAndOptionLoad has a state and operands that meet its hypotheses together. -/
theorem witness_ResetReleaseAndOptionLoad (H : Obligations.ResetReleaseAndOptionLoad) : True := by
  have := met2 (met5 ((H (W { wd with rst := rsta .sys 3 })).1 _ _ rfl rfl))
  have := (H w0).2.1 (by decide +kernel)
  have := met5 ((H State.reset).2.2 15 15)
  exact True.intro

/-- Each clause of FailedStartsAreCounted has a state and operands that meet its hypotheses together. -/
theorem witness_FailedStartsAreCounted (H : Obligations.FailedStartsAreCounted) : True := by
  have ⟨deadline, watchdog, _⟩ := met4 (H wWake)
  have := deadline (by decide +kernel)
  have := watchdog (by decide +kernel) (by decide +kernel)
  have ⟨_, _, _, idle, kick, _⟩ := met4 (H w0)
  have := idle (by decide +kernel)
  have := kick (by decide +kernel) (by decide +kernel)
  exact True.intro

/-- Each clause of ClocksSuppliesAndTheWakeAlarm has a state and operands that meet its hypotheses together. -/
theorem witness_ClocksSuppliesAndTheWakeAlarm (H : Obligations.ClocksSuppliesAndTheWakeAlarm) : True := by
  have := (H.1 w0 hh 0 (by decide +kernel)).1 (by decide +kernel)
  have := (H.1 w0 hh 0x10 (by decide +kernel)).2 (by decide +kernel)
  have := (H.2.1 (W { wd with rst := { wd.rst with pllLock := false } }) false false).1 (by decide +kernel)
  have ⟨_, _, _, _, release, _, _⟩ := H.2.1 w0 false true
  have := (release (by decide +kernel)).1 (by decide +kernel)
  have ⟨_, _, _, _, release, _, _⟩ := H.2.1 (W { wd with rst := { rsta .lintelPor 10 with supplyLow := true } }) false true
  have := (release (by decide +kernel)).2.1 (by decide +kernel)
  have ⟨_, _, _, _, release, _, _⟩ := H.2.1 (W { wd with rst := { rsta .por 1 with supplyLow := true } }) false true
  have := met3 ((release (by decide +kernel)).2.2)
  have ⟨write, _, wait, _, clear⟩ := H.2.2 w0 0
  have := write (by decide +kernel)
  have := wait (by decide +kernel)
  have := clear (by decide +kernel)
  have := met2 ((H.2.2 (W { wd with lin := { wd.lin with armed := true } }) 0).2.1)
  exact True.intro

/-- Each clause of LintelPorStartsEverythingAnew has a state and operands that meet its hypotheses together. -/
theorem witness_LintelPorStartsEverythingAnew (H : Obligations.LintelPorStartsEverythingAnew) : True := by
  have := H w0 false
  exact True.intro

/-- Each clause of TamperActsByPolicy has a state and operands that meet its hypotheses together. -/
theorem witness_TamperActsByPolicy (H : Obligations.TamperActsByPolicy) : True := by
  have := (met5 (H w0 1 0 _)) rfl
  exact True.intro

end PowerResetW

/-! ### CoreW -/

namespace CoreW
def wCas (k : Casement) : State := W { wd with csm := [(0, k)] }
def run0 : Casement := { csmDefault 0 with core := .running, pc := 0x80001000 }
def b5 (n : Nat) : BitVec 5 := BitVec.ofNat 5 n
def sr0 : List (Nat × Byte) := [(0, 5), (2, 0xFD), (3, 0xFF), (5, 0x80), (6, 0x30), (7, 0x75), (0x40, 9), (0x44, 1)]
def auK (cfg : Word) : Casement := { run0 with x := [(6, 0x80000000), (7, 0x80000100)], csr := [(0x7C0, cfg), (0x7C1, 0x80000040), (0x7C5, 3)], sram := sr0 }
def fr (r : Option ProdResult) : Fire := ⟨3, 1, 0, false, 0, 1, r⟩
def resu : ProdResult := refusedResult stPaneSuspect
def fK (x6 : Word) (fs : List Fire) : Casement := { run0 with x := [(6, x6), (7, 1)], fires := fs, sram := sr0 }
def reqM : InMsg := ⟨3, 2, 0, tyReqUser, 17, 4⟩
def mK (x6 x7 : Word) : Casement := { run0 with x := [(6, x6), (7, x7)], sram := sr0 }
def cred (l : List (Nat × Nat)) (k : Casement) : State := W { wd with csm := [(0, k)], mul := { wd.mul with credits := l } }
def dsc : Desc := { table := 1, flags := 0, entrySize := 32, entries := 4, base := 0x1000, assetBits := 0, speedBits := 0, loadBits := 0, tempBits := 0 }
def busy16 : List (Nat × RspSlot) := (List.range 16).map (fun i => (i, { gen := 0, busy := true, reply := none }))
def tS (k : Casement) (l : List (Nat × Desc)) : State := W { wd with csm := [(0, k)], sill := { wd.sill with descs := l } }
def iK (w : Nat) : Casement := { run0 with pc := 0x80000000, x := [(6, 9), (7, 9)], sram := Tab.setList (fun _ => 0) [] 0 (leBytes 4 w) }

/-- ADDI x6, x6, -1 (0xFFF30313) takes 9 to 8 and steps the pc by four. -/
theorem test_addi : ((getDev (exec (.coreInstruction 0) (wCas (iK 0xFFF30313)))).cas 0).pc = 0x80000004
    ∧ ((getDev (exec (.coreInstruction 0) (wCas (iK 0xFFF30313)))).cas 0).x.find? (fun e => e.1 == 6) = some (6, 8) := by decide +kernel
/-- The core takes a machine external interrupt only where enabled: with mstatus.MIE 0 it stays where it is. -/
theorem test_no_interrupt : ((getDev (exec (.machineExternalInterrupt 0) (wCas (iK 0)))).cas 0).pc = 0x80000000 := by decide +kernel

/-- Each clause of InstructionEnds has a state and operands that meet its hypotheses together. -/
theorem witness_InstructionEnds (H : Obligations.InstructionEnds) : True := by
  have := (H run0 0 0 0 0 (by decide +kernel)).1
  have := (H run0 0 0 0 0 (by decide +kernel)).2.1
  have := (H run0 0 0 0 0 (by decide +kernel)).2.2.1
  have := met2 ((H run0 0 0 0 0 (by decide +kernel)).2.2.2.1 0)
  have := (H run0 0 0 0 0 (by decide +kernel)).2.2.2.2.1
  have := (H run0 0 0 0 0 (by decide +kernel)).2.2.2.2.2.1
  have := (H run0 0 0 0 0 (by decide +kernel)).2.2.2.2.2.2.1
  have := (H run0 0 0 0 0 (by decide +kernel)).2.2.2.2.2.2.2.1
  have := (H run0 0 0 0 0 (by decide +kernel)).2.2.2.2.2.2.2.2.1
  have := (H run0 0 0 0 0 (by decide +kernel)).2.2.2.2.2.2.2.2.2.1
  have := (H run0 0 0 0 0 (by decide +kernel)).2.2.2.2.2.2.2.2.2.2
  exact True.intro

/-- Each clause of ActivationUnitComputes has a state and operands that meet its hypotheses together. -/
theorem witness_ActivationUnitComputes (H : Obligations.ActivationUnitComputes) : True := by
  have := ((met3 ((H (wCas (auK 4)) 0 (b5 5) (b5 6) (b5 6) (by decide +kernel)).1)).1 (by decide +kernel)).1
  have := ((met3 ((H (wCas (auK 4)) 0 (b5 5) (b5 6) (b5 6) (by decide +kernel)).1)).1 (by decide +kernel)).2.1
  have := ((met3 ((H (wCas (auK 4)) 0 (b5 5) (b5 6) (b5 6) (by decide +kernel)).1)).1 (by decide +kernel)).2.2.1
  have := ((met3 ((H (wCas (auK 4)) 0 (b5 5) (b5 6) (b5 6) (by decide +kernel)).1)).1 (by decide +kernel)).2.2.2.1
  have := ((met3 ((H (wCas (auK 4)) 0 (b5 5) (b5 6) (b5 6) (by decide +kernel)).1)).1 (by decide +kernel)).2.2.2.2 (by decide +kernel)
  have := met2 ((met3 ((H (wCas (auK 4)) 0 (b5 5) (b5 6) (b5 6) (by decide +kernel)).1)).2.1)
  have := (met2 ((met3 ((H (wCas (auK 4)) 0 (b5 5) (b5 6) (b5 6) (by decide +kernel)).1)).2.2)).1
  have := (met2 ((met3 ((H (wCas (auK 4)) 0 (b5 5) (b5 6) (b5 6) (by decide +kernel)).1)).2.2)).2
  have := ((H (wCas (auK 0)) 0 (b5 5) (b5 5) (b5 5) (by decide +kernel)).2 (by decide +kernel)).1
  have := ((H (wCas (auK 0)) 0 (b5 5) (b5 5) (b5 5) (by decide +kernel)).2 (by decide +kernel)).2.1
  have := ((H (wCas (auK 0)) 0 (b5 5) (b5 5) (b5 5) (by decide +kernel)).2 (by decide +kernel)).2.2
  exact True.intro

/-- Each clause of FireAndCollect has a state and operands that meet its hypotheses together. -/
theorem witness_FireAndCollect (H : Obligations.FireAndCollect) : True := by
  have := met3 ((met3 (H (wCas (fK 0x80000000 [])) 0 (b5 5) (b5 6) (b5 5))).1)
  have := (met3 (H (wCas (fK 0x80000000 [])) 0 (b5 5) (b5 5) (b5 5))).2.1 (by decide +kernel)
  have := met2 ((met3 (H (wCas (fK 0x80000000 [fr none, fr none])) 0 (b5 5) (b5 6) (b5 7))).2.2.1)
  have := (met3 (H (wCas (fK 0x80000000 [fr (some resu)])) 0 (b5 5) (b5 6) (b5 7))).2.2.2.1 _ _ (by decide +kernel) rfl rfl (by decide +kernel)
  have := (met3 (H (wCas (fK 0x80000000 [])) 0 (b5 5) (b5 6) (b5 5))).2.2.2.2.1 (by decide +kernel) rfl
  have := met2 ((met3 (H (wCas (fK 0x80000000 [fr none, fr none])) 0 (b5 5) (b5 5) (b5 7))).2.2.2.2.2 _ rfl)
  exact True.intro

/-- Each clause of MessageInstructions has a state and operands that meet its hypotheses together. -/
theorem witness_MessageInstructions (H : Obligations.MessageInstructions) : True := by
  have := met4 ((met3 (H (cred [(1, 2)] (mK 0x80000000 1)) 0 (b5 5) (b5 6) (b5 7))).1)
  have := (met4 ((met3 (H (cred [(1, 2)] (mK 0x80000000 1)) 0 (b5 5) (b5 6) (b5 5))).2.1)).1
  have := (met4 ((met3 (H (cred [(1, 2)] (mK 0x80000000 1)) 0 (b5 5) (b5 6) (b5 5))).2.1)).2
  have := (met3 (H (wCas { mK 0 0 with req := [reqM] }) 0 (b5 5) (b5 5) (b5 5))).2.2.1 _ _ (by decide +kernel) rfl
  have := met2 ((met3 (H (cred [(1, 2)] (mK 0x80000000 1)) 0 (b5 5) (b5 5) (b5 5))).2.2.2.1)
  have := (met2 ((met3 (H (wCas { mK 0x12 3 with rsp := [(2, { gen := 1, busy := true, reply := some (0, 2) })] }) 0 (b5 5) (b5 6) (b5 5))).2.2.2.2.1 _ _)) rfl
  have := (met3 (H (wCas (mK 0x32 3)) 0 (b5 5) (b5 6) (b5 5))).2.2.2.2.2.1 (by decide +kernel)
  have := met2 ((met3 (H (wCas { mK 0 3 with req := [reqM] }) 0 (b5 5) (b5 5) (b5 7))).2.2.2.2.2.2.1 _ rfl)
  have := met2 ((met3 (H (wCas (mK 0x80038F00 3)) 0 (b5 5) (b5 6) (b5 5))).2.2.2.2.2.2.2 0)
  exact True.intro

/-- Each clause of TableInstructions has a state and operands that meet its hypotheses together. -/
theorem witness_TableInstructions (H : Obligations.TableInstructions) : True := by
  have := met3 ((met3 ((met2 (H (tS { mK 0x80000000 1 with sram := [(0, 2)] } [(1, dsc)]) 0 0 (b5 5) (b5 6) (b5 7))).1 _ rfl)).1 0)
  have := (met3 ((met2 (H (tS { mK 0x80000000 1 with sram := [(0, 2)], rsp := busy16 } [(1, dsc)]) 0 0 (b5 5) (b5 6) (b5 7))).1 _ rfl)).2 (by decide +kernel)
  have := met3 (((met2 (H (tS { mK 0x80000000 1 with sram := [(0, 2)] } [(1, dsc)]) 0 1 (b5 5) (b5 5) (b5 5))).2.1 _ (by decide +kernel) rfl).1.1 0)
  have := ((met2 (H (tS { mK 0x80000000 1 with sram := [(0, 2)], rsp := busy16 } [(1, dsc)]) 0 1 (b5 5) (b5 5) (b5 5))).2.1 _ (by decide +kernel) rfl).1.2 (by decide +kernel)
  have := met3 (((met2 (H (tS { mK 0x80000000 1 with sram := [(0, 2)] } [(1, dsc)]) 0 1 (b5 5) (b5 5) (b5 5))).2.1 _ (by decide +kernel) rfl).2.1 0)
  have := ((met2 (H (tS { mK 0x80000000 1 with sram := [(0, 2)], rsp := busy16 } [(1, dsc)]) 0 1 (b5 5) (b5 5) (b5 5))).2.1 _ (by decide +kernel) rfl).2.2 (by decide +kernel)
  have := (met2 ((met2 (H (tS { mK 0x80000000 1 with sram := [(0, 2)] } [(1, dsc)]) 0 0 (b5 5) (b5 5) (b5 5))).2.2.1)).1
  have := (met2 ((met2 (H (tS { mK 0x80000000 1 with sram := [(0, 2)] } [(1, dsc)]) 0 0 (b5 5) (b5 5) (b5 5))).2.2.1)).2
  have := met2 ((met2 (H (tS { mK 0x80000000 1 with sram := [(0, 2)] } [(1, dsc)]) 0 0 (b5 5) (b5 6) (b5 5))).2.2.2)
  exact True.intro

/-- Each clause of CoreExecutesRiscV has a state and operands that meet its hypotheses together. -/
theorem witness_CoreExecutesRiscV (H : Obligations.CoreExecutesRiscV) : True := by
  have := (met2 ((H (wCas (iK 0x12345337)) 0 (by decide +kernel)).1)).1 (by decide +kernel)
  have := met2 ((met2 ((H (wCas (iK 0xFFF30313)) 0 (by decide +kernel)).1)).2.1)
  have := met3 ((met2 ((H (wCas (iK 0x00730333)) 0 (by decide +kernel)).1)).2.2.1)
  have := (met2 ((H (wCas (iK 0x0080036F)) 0 (by decide +kernel)).1)).2.2.2.1 (by decide +kernel)
  have := met2 ((met2 ((H (wCas (iK 0x00730463)) 0 (by decide +kernel)).1)).2.2.2.2.1)
  have := met2 ((met2 ((H (wCas (iK 0)) 0 (by decide +kernel)).1)).2.2.2.2.2)
  have := (H (wCas (iK 0x12345337)) 0 (by decide +kernel)).2.1 (b5 5)
  have := met4 ((H (wCas { iK 0 with req := [reqM], csr := [(0x300, 8), (0x304, 0x800), (0x305, 0x80000101), (0x7C3, 1)] }) 0 (by decide +kernel)).2.2)
  exact True.intro

end CoreW

/-! ### ProgramW -/

namespace ProgramW
def hh : CmdHdr := ⟨7, false⟩
def P (l : List (Nat × Pane)) : Dev := { wd with panes := l }
def tru : Pane := { paneDefault 0 with st := .trusted }
def pr0 : Product := { x := [1, -2, 3], ticket := 0, dest := ⟨1, 3, false⟩, cfg := none, corr := [], bypass := false }
def fr0 : Fire := { id := 3, slot := 1, ticket := 0, noData := false, path := 0, pane := 5, result := none }
def pd (p : Pane) : Dev := { P [(5, p)] with csm := [(1, { csmDefault 1 with fires := [fr0] })] }
def pX : Product := { pr0 with cfg := some 0x00000000 }
def col0 : LedgerCol := { g0 := 1, c0 := 1, c := 1, o := 0, temp := 25, at_ := 0, stale := false, calOvr := 0 }
def led0 : Ledger := { cols := List.replicate 520 col0, a0 := 2, h := 1, spread := 0, updates := 3, n := 3, acc := [(1, 1, 1), (1, 1, 1), (1, 1, 1)], arrayTemp := 25, arrayStale := false, refreshDue := false, limit := false, cause := 0 }
def old (d : Dev) : Dev := { d with sys := { d.sys with ft := 2 ^ 50 } }
def lS1 := W (pd { tru with ledger := some led0, calDue := true })
def lS2 := W (pd { tru with ledger := some { led0 with n := 1024 } })
def m0 : Model := { modelId := 7, flags := 0, hyps := 1, classes := 2, winLen := 16, casements := 1, panes := 2 ^ 5, spares := [], stormBuf := 0, latBudget := 1000, code := [(0, 0, 4)], stormProg := [], tables := [], check := [], symbols := [] }
def slS : Slot := { slotDefault 0 with st := .started, model := some m0, mode := 2 }
def wSl (d : Dev) : Dev := { d with mdl := { d.mdl with slots := [(0, slS)] } }
def tkR : Ticket := { ticketDefault 0 with st := .running, slot := 0, mode := 2 }
def wTk (d : Dev) : Dev := { wSl d with mdl := { (wSl d).mdl with tickets := [(0, tkR)] } }
def shut : Dev := { wd with pwr := PowerState.reset }
def img0 : Nat := 0x1000000
def g0 : Program := { addr := img0, tag := 0x1234, cmd := none, row := 3, iter := 2, failed := 0, failedCk := false, good := true }
def pg (g : Program) : Pane := { tru with st := .programming, program := some g }
def req5 : ProgReq := { cmd := hostCmdOf 0x20 hh, pane := 5, addr := img0 }
def unv : Pane := { tru with st := .unverified }
def testing5 : Dev := P [(4, { tru with st := .auditing }), (5, unv)]
def jc0 : JCommit := { page := 2, data := List.replicate 128 7, owner := .dev (.progCount 5), saved := none, savedLost := false }

/-- A row of zero bytes holds zero targets. -/
theorem rowTargets_zero : rowTargets (List.replicate 1040 0) = List.replicate 520 (0, 0) := by
  have h : ∀ i, uAt (List.replicate 1040 0) i 1 = 0 := by
    intro i; simp only [uAt, List.drop_replicate, List.take_replicate]
    rcases Nat.le_total (1040 - i) 0 with h | h
    · simp [Nat.le_zero.mp h, leNat]
    · rcases (by omega : min 1 (1040 - i) = 0 ∨ min 1 (1040 - i) = 1) with e | e <;> simp [e, leNat]
  simp only [rowTargets, h, Nat.mul_zero]
  refine List.eq_replicate_iff.mpr ⟨by rw [List.length_map, List.length_range], fun b hb => ?_⟩
  obtain ⟨_, _, rfl⟩ := List.mem_map.mp hb
  rfl
/-- A pane of cells at 0 is within the targets of a row of zeros. -/
theorem row_within : (List.zip (Tab.getList (fun _ => ((0, 0) : Nat × Nat)) ((W (P [(5, pg g0)])).dev.pane 5).cells (520 * g0.row) 520)
    (rowTargets ((W (P [(5, pg g0)])).dev.sillBytes (g0.addr + 0x20 + g0.row * 1040) 1040))).all
      (fun e => within e.1.1 e.2.1 && within e.1.2 e.2.2) = true := by
  have h : (W (P [(5, pg g0)])).dev.sillBytes (g0.addr + 0x20 + g0.row * 1040) 1040 = List.replicate 1040 0 := by decide +kernel
  rw [h, rowTargets_zero]
  decide +kernel

/-- Each clause of ProductsRunOnTheirPane has a state and operands that meet its hypotheses together. -/
theorem witness_ProductsRunOnTheirPane (H : Obligations.ProductsRunOnTheirPane) : True := by
  have := met2 ((met3 (H (W (pd { tru with queue := [pr0] })) 5 _ _)).1 rfl)
  have := met2 ((met3 (H (W (pd { tru with st := .suspect, queue := [pr0] })) 5 _ _)).2.1 rfl)
  have := met2 ((met3 (H (W (pd { tru with running := [pX] })) 5 _ _)).2.2 rfl)
  exact True.intro

/-- Each clause of LedgerEventsAndCorrection has a state and operands that meet its hypotheses together. -/
theorem witness_LedgerEventsAndCorrection (H : Obligations.LedgerEventsAndCorrection) : True := by
  have ⟨due, _, _, _, idle, _, cols⟩ := (met3 (H.1 lS1 5 _)) rfl
  have := (met2 due).1 (by decide +kernel)
  have := idle true (.inl (by decide +kernel))
  have := (cols 5 _ rfl).2 (by decide +kernel)
  have ⟨_, same, _, _, _, tick, _⟩ := (met3 (H.1 (W (pd { tru with ledger := some led0 })) 5 _)) rfl
  have := same (by decide +kernel)
  have := tick true (by decide +kernel) (by decide +kernel)
  have := met3 (((met3 (H.1 lS2 5 _)) rfl).2.2.2.1 true)
  have := (((met3 (H.1 (W (old (pd { tru with ledger := some led0 }))) 5 _)) rfl).2.2.2.2.2.2 5 _ rfl).1 (by decide +kernel)
  have := (H.2 true none 100).2.1 (by decide +kernel) (.inl rfl)
  have := met2 (((H.2 false (some (5, 100)) 100).2.2 5 100 (by decide +kernel) rfl rfl).2.2)
  exact True.intro

/-- Each clause of ProgramsFollowTheirStages has a state and operands that meet its hypotheses together. -/
theorem witness_ProgramsFollowTheirStages (H : Obligations.ProgramsFollowTheirStages) : True := by
  have := met5 ((met3 (H (W { P [(5, unv)] with pctl := { PaneCtl.reset with progQueue := [req5] } }) hh 5 0 0x1000000 5 g0)).1)
  have := this.1 _ rfl
  have := met5 ((met3 (H (W (P [(5, unv)])) hh 5 0 0x1000000 5 g0)).1)
  have := this.2 (by decide +kernel) (by decide +kernel) (by decide +kernel) (by decide +kernel)
  have := met3 ((met3 (H (W { P [(5, unv)] with pctl := { PaneCtl.reset with progQueue := [req5] } }) hh 5 5 0x1000000 5 g0)).2.1 _ rfl)
  have := met5 ((met3 (H (W (P [(5, pg g0)])) hh 5 5 0x1000000 5 _)).2.2.1 rfl)
  have := this.1 row_within
  have := met5 ((met3 (H (W { P [(5, pg g0)] with sill := { wd.sill with mem := [(img0 + 0x20 + 3 * 1040, 100)], written := [((0x20 + 3 * 1040) / 128, true)] } }) hh 5 5 0x1000000 5 _)).2.2.1 rfl)
  have := this.2 (by decide +kernel) (by decide +kernel)
  have := met3 ((met3 (H (W (P [(5, pg { g0 with row := 520 })])) hh 5 5 0x1000000 5 _)).2.2.2.1 rfl)
  have := met2 ((met3 (H (W (P [(5, pg { g0 with row := 520, failedCk := true })])) hh 5 5 0x1000000 5 _)).2.2.2.2.1 rfl)
  have := (met3 (H (W (P [(5, pg { g0 with good := false })])) hh 5 5 0x1000000 5 _)).2.2.2.2.2.1 rfl (by decide +kernel)
  have := met2 ((met3 (H (W (P [(5, unv)])) hh 5 5 0x1000000 5 g0)).2.2.2.2.2.2 6)
  have := met2 ((met3 (H (W (P [(5, unv)])) hh 5 5 0x1000000 5 g0)).2.2.2.2.2.2 9)
  exact True.intro

/-- Each clause of ProgramBeginsAfterItsCount has a state and operands that meet its hypotheses together. -/
theorem witness_ProgramBeginsAfterItsCount (H : Obligations.ProgramBeginsAfterItsCount) : True := by
  have ⟨_, _, begins, _, _⟩ := met2 ((met4 ((met3 (H (W { P [(5, unv)] with jamb := { wd.jamb with commit := some jc0, marker := .valid 2 }, pctl := { PaneCtl.reset with committing := [req5] } }) 5 _ _)) rfl)) rfl)
  have := begins (by decide +kernel)
  have ⟨_, _, _, waits, _⟩ := met2 ((met4 ((met3 (H (W { testing5 with jamb := { wd.jamb with commit := some jc0, marker := .valid 2 }, pctl := { PaneCtl.reset with committing := [req5] } }) 5 _ _)) rfl)) rfl)
  have := waits (by decide +kernel)
  exact True.intro

/-- Each clause of PaneReportsAndGrafts has a state and operands that meet its hypotheses together. -/
theorem witness_PaneReportsAndGrafts (H : Obligations.PaneReportsAndGrafts) : True := by
  have := met3 ((H.1 (W (P [(5, tru)])) hh 5 5 1 1).1)
  have := (H.1 (W (P [(5, tru)])) hh 5 0 1 1).2.1 (by decide +kernel) (.inl rfl)
  have := (met5 ((H.1 (W (P [(5, { tru with ledger := some led0 })])) hh 5 5 1 1).2.2.1)).1 _ (by decide +kernel) rfl
  have := met2 ((met5 ((H.1 (W (P [(5, tru)])) hh 5 5 1 1).2.2.1)).2.1)
  have := (met5 ((H.1 (W (P [(5, tru)])) hh 9 5 1 1).2.2.1)).2.2 (by decide +kernel)
  have ⟨_, _, _, bad, counts, release, _⟩ := H.1 (W (P [(5, tru)])) hh 5 5 1 0
  have := bad (by decide +kernel) (.inr (.inl rfl))
  have := counts 5 (by decide +kernel) (by decide +kernel) (by decide +kernel)
  have := release 5 (by decide +kernel) (by decide +kernel)
  have := (H.1 (W (wTk (P [(5, tru)]))) hh 5 5 1 1).2.2.2.2.2.2 5 (by decide +kernel)
  have := met2 ((met3 (H.2 (W (wSl (P [(5, tru), (9, tru)]))) hh 5 9)).1 _ 5 (by decide +kernel) rfl)
  have := met2 ((met3 (H.2 (W (P [(5, tru)])) hh 5 5)).2.1)
  have := (met3 (H.2 (W (wSl shut)) hh 5 5)).2.2 (by decide +kernel)
  exact True.intro

end ProgramW

/-! ### AuditW -/

namespace AuditW
def hh : CmdHdr := ⟨7, false⟩
def P (l : List (Nat × Pane)) : Dev := { wd with panes := l }
def tru : Pane := { paneDefault 0 with st := .trusted }
def unv : Pane := { tru with st := .unverified }
def recBody : List Byte := [0x41, 0x4E, 1, 5, 2, 0, 0, 0, 4, 2, 10, 1, 1, 0, 1, 0, 1, 0, 0, 0, 0, 0, 0, 0] ++ List.replicate 224 0x80 ++ [0, 0, 0, 0]
def rec5 : List Byte := recBody ++ leBytes 4 (crc32 recBody)
def recBad : List Byte := List.replicate 256 0
def ar5 : AuditReq := { pane := 5, record := rec5, cmdNo := none }
def st5 (n : Nat) : Pane := { tru with st := .selftest, selftest := some { cmd := hostCmdOf 0x22 hh, step := n } }

/-- Each clause of AuditsAndSelfTests has a state and operands that meet its hypotheses together. -/
theorem witness_AuditsAndSelfTests (H : Obligations.AuditsAndSelfTests) : True := by
  have := met3 ((met2 ((met4 (H (W (P [(5, unv)])) hh 5 rec5 5)).1)).1)
  have := (met2 ((met4 (H (W (P [(5, unv)])) hh 5 recBad 5)).1)).2 (by decide +kernel)
  have := (met3 ((met4 (H (W (P [(5, { unv with record := some rec5 })])) hh 5 rec5 5)).2.1)).1 _ rfl
  have := (met3 ((met4 (H (W (P [(5, unv)])) hh 5 rec5 5)).2.1)).2 (by decide +kernel)
  have := (met4 ((met4 (H (W { P [(5, unv)] with pctl := { PaneCtl.reset with audits := [ar5] } }) hh 5 rec5 5)).2.2.1 1 _)) rfl (by decide +kernel)
  have := met2 ((met4 (H (W { P [(5, unv)] with pctl := { PaneCtl.reset with auditing := [ar5] } }) hh 5 rec5 5)).2.2.2.1 _ _ rfl rfl)
  have := met3 ((met4 (H (W (P [(5, tru)])) hh 5 rec5 5)).2.2.2.2.1)
  have := (met2 ((met4 (H (W (P [(5, st5 3)])) hh 5 rec5 5)).2.2.2.2.2.1 _ rfl)).1 (by decide +kernel)
  have := (met2 ((met4 (H (W (P [(5, st5 63)])) hh 5 rec5 5)).2.2.2.2.2.1 _ rfl)).2 (by decide +kernel)
  have := met5 ((met4 (H (W (P [(5, unv)])) hh 5 rec5 5)).2.2.2.2.2.2.1)
  have := met3 ((met4 (H (W (P [(5, { unv with st := .retired })])) hh 5 rec5 5)).2.2.2.2.2.2.2)
  exact True.intro

end AuditW

/-! ### ModelW -/

namespace ModelW
def hh : CmdHdr := ⟨7, false⟩
def P (l : List (Nat × Pane)) : Dev := { wd with panes := l }
def tru : Pane := { paneDefault 0 with st := .trusted }
def m0 : Model := { modelId := 7, flags := 0, hyps := 1, classes := 2, winLen := 16, casements := 1, panes := 2 ^ 5, spares := [], stormBuf := 0, latBudget := 1000, code := [(0, 0, 4)], stormProg := [], tables := [], check := [], symbols := [] }
def mkSl (t : SlotSt) (md : Nat) : Slot := { slotDefault 0 with st := t, model := some m0, mode := md }
def wS (d : Dev) (k : Slot) : Dev := { d with mdl := { d.mdl with slots := [(0, k)] } }
def wTt (d : Dev) (t : Ticket) : Dev := { d with mdl := { d.mdl with tickets := [(0, t)] } }
def tkR : Ticket := { ticketDefault 0 with st := .running, slot := 0, mode := 2, step := 4 }
def ckSec : List Byte := [0x43, 0x4B, 1, 0, 0, 0, 50, 0, 0, 0, 0, 0, 0, 0, 0, 0]
def ckBad : List Byte := List.replicate 16 1
def m1 : Model := { m0 with flags := 3 }
def rec0 (st : Byte) : List Byte := [0, 0, st] ++ List.replicate 29 0
def dr0 : DoneRec := { slot := 0, step := 0, bytes := rec0 stTimeout, verdict := false, reason := none, ticket := some 0, dest := 1 }
def wDone (d : Dev) : Dev := { d with mdl := { d.mdl with done := [dr0] } }
def vi0 : VerdictIn := { status := stOk, hyp := 0, valid := true, class1 := 1, class2 := 0, score1 := 100, score2 := 50, anomaly := 3 }
def full : Dev := { wd with mdl := { wd.mdl with slots := [(0, mkSl .started 1)], tickets := (List.range 128).map (fun i => (i, tkR)) } }

/-- Each clause of ModelsLoadStartAndStop has a state and operands that meet its hypotheses together. -/
theorem witness_ModelsLoadStartAndStop (H : Obligations.ModelsLoadStartAndStop) : True := by
  have := met3 ((met4 ((H w0 hh 0 0 0 0 1 0 [1] _ m0 (by decide +kernel)).1)).1 (.inl ⟨ (by decide +kernel), ⟨ (by decide +kernel), rfl⟩⟩))
  have := met3 ((met4 ((H (W (wS wd { slotDefault 0 with st := .loading, recv := [1, 2] })) hh 0 0 0 0 1 9 [1] [1] m0 (by decide +kernel)).1)).2.1)
  have := (met4 ((H (W (wS wd (mkSl .started 2))) hh 0 0 0 0 1 0 [1] [1] m0 (by decide +kernel)).1)).2.2 (by decide +kernel)
  have := ((met4 ((H (W (wS (P [(5, tru)]) { mkSl .loaded 0 with model := some m1 })) hh 0 0 0 0 1 0 ckSec [1] _ (by decide +kernel)).2.1)) rfl).1 (by decide +kernel)
  have := ((met4 ((H (W (wS (P [(5, tru)]) { mkSl .loaded 0 with model := some m1 })) hh 0 0 0 0 1 0 ckBad [1] _ (by decide +kernel)).2.1)) rfl).2 (by decide +kernel)
  have := (met2 ((H w0 hh 0 0 0 0 1 0 [1] [1] m0 (by decide +kernel)).2.2.1)).1 _ rfl
  have := (met2 ((H (W (wS (P [(5, tru)]) { mkSl .loaded 0 with model := some m1 })) hh 0 0 0 0 0 0 [1] [1] _ (by decide +kernel)).2.2.1)).2 (by decide +kernel) rfl
  have := met2 ((met2 ((H (W (wTt (wS wd (mkSl .started 2)) tkR)) hh 0 0 0 0 1 0 [1] [1] m0 (by decide +kernel)).2.2.2.1)).1)
  have := met4 ((met2 ((H (W (wS wd (mkSl .started 2))) hh 0 0 0 0 1 0 [1] [1] m0 (by decide +kernel)).2.2.2.1)).2.1)
  have := (met2 ((H (W (wS (P [(5, tru)]) { mkSl .loaded 0 with model := some m1 })) hh 0 0 0 0 1 0 [1] [1] m0 (by decide +kernel)).2.2.2.1)).2.2.1 (by decide +kernel)
  have := (met2 ((H w0 hh 0 0 0 0 1 0 [1] [1] m0 (by decide +kernel)).2.2.2.1)).2.2.2 (by decide +kernel)
  have := ((H (W (wS (P [(5, tru)]) { mkSl .loaded 0 with model := some m1 })) hh 0 0 0 0 1 0 [1] [1] _ (by decide +kernel)).2.2.2.2 (by decide +kernel)).1 (by decide +kernel) rfl
  have := ((H w0 hh 0 0 0 0 1 0 [1] [1] m0 (by decide +kernel)).2.2.2.2 (by decide +kernel)).2.1 (by decide +kernel)
  have := ((H (W (wS wd (mkSl .started 2))) hh 0 0 0 0 1 0 [1] [1] m0 (by decide +kernel)).2.2.2.2 (by decide +kernel)).2.2 (by decide +kernel)
  exact True.intro

/-- Each clause of TicketsBecomeRecords has a state and operands that meet its hypotheses together. -/
theorem witness_TicketsBecomeRecords (H : Obligations.TicketsBecomeRecords) : True := by
  have := (met4 ((met3 (met4 (met5 (H (W (wS wd (mkSl .started 3))) hh 0 0 0 0 0 0x1000000 _ 0 vi0)).1)) rfl)).1 (by decide +kernel)
  have := met4 ((met4 ((met3 (met4 (met5 (H (W (wS wd (mkSl .started 1))) hh 0 0 0 0 0 0x1000000 _ 0 vi0)).1)) rfl)).2.1)
  have := met2 (met4 ((met3 (met4 (met5 (H (W full) hh 0 0 0 0 0 0x1000000 _ 0 vi0)).1)) rfl)).2.2
  have ⟨ended, _⟩ := (met5 (H (W full) hh 0 0 0 0 0 0x1000000 m0 0 vi0)).2.1 (by decide +kernel)
  have := (met2 ended).1 (by decide +kernel)
  have := (met2 ended).2 (by decide +kernel)
  have ⟨_, notLive, freeOrDone, _, none_⟩ := (met5 (H w0 hh 0 0 0 0 0 0x1000000 m0 0 vi0)).2.1 (by decide +kernel)
  have := notLive (by decide +kernel)
  have := freeOrDone (by decide +kernel)
  have := none_ rfl
  have ⟨_, _, _, record, _⟩ := (met5 (H (W (wDone (wTt (wS wd (mkSl .started 2)) { tkR with st := .done }))) hh 0 0 0 0 0 0x1000000 m0 0 vi0)).2.1 (by decide +kernel)
  have := met5 (met5 (record _ (by decide +kernel) rfl))
  have := (met5 (H (W full) hh 0 0 0 0 0 0x1000000 m0 0 vi0)).2.2.1 0 0x3FFF (by decide +kernel) (.inl (by decide +kernel))
  have := (met5 (H w0 hh 0 0 0 0 0 0x1000000 m0 0 vi0)).2.2.2.1 0 0 (by decide +kernel)
  have := met4 (met5 (H w0 hh 0 0 0 0 1 0x1000000 m0 0 vi0)).2.2.2.2.1
  have := (met5 (H w0 hh 0 0 0 0 _ 0x1000000 m0 0 vi0)).2.2.2.2.2.1 (by decide +kernel) (.inl rfl)
  have := (met5 (H w0 hh 0 0 0 0 0 0x1000000 m0 0 vi0)).2.2.2.2.2.2
  exact True.intro

end ModelW

/-! ### SillStormW -/

namespace SillStormW
def hh : CmdHdr := ⟨7, false⟩
def m0 : Model := { modelId := 7, flags := 0, hyps := 1, classes := 2, winLen := 16, casements := 1, panes := 2 ^ 5, spares := [], stormBuf := 65536, latBudget := 1000, code := [(0, 0, 4)], stormProg := [], tables := [1], check := [], symbols := [] }
def si (f : SillState → SillState) : Dev := { wd with sill := f wd.sill }
def shut : Dev := { wd with pwr := PowerState.reset }
def dsc : Desc := { table := 1, flags := 1, entrySize := 32, entries := 4, base := 0x1001000, assetBits := 2, speedBits := 0, loadBits := 0, tempBits := 0 }
def ls (w : Nat) : Dev := si (fun s => { s with descs := [(1, dsc)], leases := [(1, w)] })
def dbody : List Byte := [1, 1, 32, 0, 4, 0, 0, 0, 0, 0x10, 0, 1, 2, 0, 0, 0] ++ List.replicate 12 0
def dgood : List Byte := dbody ++ leBytes 4 (crc32 dbody)
def dbad : List Byte := List.replicate 32 1
def inUse : Dev := { wd with mdl := { wd.mdl with slots := [(0, { slotDefault 0 with st := .started, model := some m0 })] } }
def mg (src dst typ : Nat) (p : List Byte) : Msg := { src := src, dst := dst, typ := typ, len := 0, tag := 0x21, ticket := 0, status := 0, notify := false, payload := p, trail := [⟨dst, 5, 0⟩] }
def nt (d : Dev) (m : Msg) : State := W { d with mul := { d.mul with net := [m] } }
def rdP (a : Nat) (n : Nat) : List Byte := leBytes 4 a ++ leBytes 1 n ++ List.replicate 27 0
def wrP (a : Nat) : List Byte := leBytes 4 a ++ List.replicate 28 7
def lkP : List Byte := [2, 0, 0, 0] ++ leBytes 4 1 ++ List.replicate 24 0 ++ [1] ++ List.replicate 31 0
def leP : List Byte := [1, 0] ++ List.replicate 30 0
def lk0 : Lookup := { msg := mg 3 34 tySillLookup lkP, desc := { dsc with flags := 0 } }
def lsn : Dev := si (fun s => { s with descs := [(1, dsc)] })
def clr (d : Dev) : State := W { d with sill := { d.sill with clearing := true } }
def fr0 : Dev := si (fun s => { s with fronts := true })
def scr : Dev := { (si (fun s => { s with written := [(0, true)] })) with regs := [(0x90004, 1)] }
def scrF : State := W { scr with sill := { scr.sill with flips := [(0x1000008, 1)] } }
def sreq (f : Nat) : StormReq := { casement := 3, fire := f, pane := 13, slot := 0, cfg := 0, x := [1, 2] }
def st (f : StormState → StormState) (d : Dev) : Dev := { d with storm := f d.storm }
def mFwd : Msg := { mg 3 33 tyPaneFwd ([13] ++ List.replicate 1055 0) with tag := 256 + 7, len := 15 }
def prog1 (n : Nat) : List Byte := [0, 0, 0, 0] ++ leBytes 2 n ++ leBytes 2 0 ++ List.replicate 8 0 ++ List.replicate (16 * n) 0
def m2 (n : Nat) : Model := { m0 with stormProg := prog1 n, flags := 4 }
def sl1 (n : Nat) : Slot := { slotDefault 0 with st := .started, mode := 1, model := some (m2 n) }
def tI : Ticket := { ticketDefault 0 with st := .issued, slot := 0, mode := 1, step := 4, window := List.replicate 16 3 }
def stre (n : Nat) : Dev := { wd with mdl := { wd.mdl with slots := [(0, sl1 n)], tickets := [(2, tI)] } }
def idle (d : Dev) : Dev := { d with mdl := { d.mdl with tickets := [] } }
def reg0 : Region := { ticket := 2, buf := [], status := 0, out := none, ovr := false }
def run1 (n k : Nat) : Dev := st (fun s => { s with run := some { slot := 0, op := k, busy := false, regions := [reg0] } }) { stre n with mdl := { (stre n).mdl with tickets := [(2, { tI with st := .running })] } }
def smp (z : SampleSt) : Sample := { slot := 0, lane := 0, ticket := 2, step := 4, path := 5, n := 0, dwell := 1, st := z, fire := 1, pane := 5, cfg := 0, x := [], codes := [] }
def lane2 : Lane := { slot := 0, lane := 0, item := 1, taken := 0, reserved := false, dwell := 2, again := none }
def smpD : Dev := st (fun s => { s with samples := [smp .staged], lanes := [lane2] }) { idle (stre 1) with regs := [(0x80004, 1)] }
def psh : Dev := st (fun s => { s with samples := [smp .staged], pass := some (.shadow 0 0 1) }) (stre 1)
def psub : Dev := st (fun s => { s with pass := some (.subst [sreq 7, sreq 8]) }) (idle (stre 1))
def src1 (z : SrcSt) : Dev := { wd with chk := { wd.chk with src := [{ node := 1, stackId := 2, slot := 3, seq := 4, st := z, at_ := 0 }] } }

/-- Each clause of HostReachesSill has a state and operands that meet its hypotheses together. -/
theorem witness_HostReachesSill (H : Obligations.HostReachesSill) : True := by
  have ⟨stored, _⟩ := met3 (H w0 hh 0x1000001 0x1000001 3 [1, 2]).1
  have := met3 (met3 stored)
  have ⟨_, held, _⟩ := met3 (H (clr lsn) hh 0x1000001 0x1000001 3 [1, 2]).1
  have := met5 held
  have := (met3 (H w0 hh 0 0x1000001 3 [1, 2]).1).2.2.1 (by simp [inWindow])
  have := met2 (met3 (H (W shut) hh 0x1000001 0x1000001 3 [1, 2]).1).2.2.2.1
  have := (met5 ((met3 (H (W (ls 3)) hh 0x1001000 0x1000001 3 [1, 2]).1).2.2.2.2 dsc _)) rfl (by decide +kernel)
  have := met3 (met3 ((H w0 hh 0x1000001 0x1000001 3 [1, 2]).2.1 (by decide +kernel)).1)
  have := met5 ((H (clr wd) hh 0x1000001 0x1000001 3 [1, 2]).2.1 (by decide +kernel)).2.1
  have := ((H w0 hh 0x1000001 0x1000001 _ [1, 2]).2.1 (by decide +kernel)).2.2 (.inl rfl)
  have := met4 (met4 (H w0 hh 0x1001000 0x80 3 [1, 2]).2.2.1)
  have := met2 (met3 (H w0 hh 0x1000001 0x1000001 3 dgood).2.2.2).1
  have := met2 (met3 (H (W inUse) hh 0x1000001 0x1000001 3 dgood).2.2.2).2.1
  have := (met3 (H w0 hh 0x1000001 0x1000001 3 dbad).2.2.2).2.2 (by decide +kernel)
  exact True.intro

/-- Each clause of CasementsReachSill has a state and operands that meet its hypotheses together. -/
theorem witness_CasementsReachSill (H : Obligations.CasementsReachSill) : True := by
  have ⟨read, _⟩ := (met3 ((met3 (H (nt wd (mg 3 34 tySillRd (rdP 0x1001000 4))) 3 _ _)) (.inl rfl))).1 rfl
  have := read (by decide +kernel)
  have ⟨_, refused⟩ := (met3 ((met3 (H (nt wd (mg 3 34 tySillRd (rdP 0 4))) 3 _ _)) (.inl rfl))).1 rfl
  have := refused (show inWindow 0 4 = false by simp [inWindow])
  have := met3 ((met3 ((met3 (H (nt (ls 3) (mg 3 34 tySillWr (wrP 0x1001000))) 3 _ _)) (.inl rfl))).2.1 rfl).1
  have := ((met3 ((met3 (H (nt (ls 4) (mg 3 34 tySillWr (wrP 0x1001000))) 3 _ _)) (.inl rfl))).2.1 rfl).2 _ (by decide +kernel) rfl
  have := (met3 ((met3 (H (nt lsn (mg 3 34 tySillLookup lkP)) 3 _ _)) (.inl rfl))).2.2.1 rfl _ _ rfl rfl
  have ⟨granted, lower, _⟩ := (met3 ((met3 (H (nt lsn (mg 3 34 tySillLease leP)) 3 _ _)) (.inl rfl))).2.2.2.1 rfl _ rfl (by decide +kernel)
  have := granted (by decide +kernel) (by decide +kernel) (some 9) (fun r h => by cases h; decide)
  have := met3 (lower 2)
  have := ((met3 ((met3 (H (nt (ls 4) (mg 3 34 tySillLease leP)) 3 _ _)) (.inl rfl))).2.2.2.1 rfl _ rfl (by decide +kernel)).2.2 _ none rfl (by decide +kernel)
  have := (met3 ((met3 (H (W (si (fun s => { s with lookups0 := [lk0], mem := [(0x1001020, 5)], written := [(32, true)] }))) 3 _ _)) (.inl rfl))).2.2.2.2.1 _ _ _ rfl rfl (by decide +kernel) rfl
  have := ((met3 ((met3 (H (W (ls 3)) 3 _ (mg 3 34 tySillRd (rdP 0x1001000 4)))) (.inl rfl))).2.2.2.2.2.1 1 _ rfl).1 (by decide +kernel)
  have := ((met3 ((met3 (H (W (ls 32)) 3 _ (mg 3 34 tySillRd (rdP 0x1001000 4)))) (.inl rfl))).2.2.2.2.2.1 1 _ rfl).2 (by decide +kernel)
  have := (met3 ((met3 (H w0 3 _ (mg 3 34 tySillRd (rdP 0x1001000 4)))) (.inl rfl))).2.2.2.2.2.2.1
  have := met3 ((met3 ((met3 (H w0 3 _ (mg 3 34 tySillRd (rdP 0x1001000 4)))) (.inl rfl))).2.2.2.2.2.2.2.1 (clr wd))
  have := met5 ((met3 ((met3 (H (W fr0) 3 _ (mg 3 34 tySillRd (rdP 0x1001000 4)))) (.inl rfl))).2.2.2.2.2.2.2.2.1 1)
  have := (met5 ((met3 ((met3 (H (W scr) 3 _ (mg 3 34 tySillRd (rdP 0x1001000 4)))) (.inl rfl))).2.2.2.2.2.2.2.2.2 0x1000008 0)) scrF (by decide +kernel)
  exact True.intro

/-- Each clause of StormRunsItsWork has a state and operands that meet its hypotheses together. -/
theorem witness_StormRunsItsWork (H : Obligations.StormRunsItsWork) : True := by
  have := (met3 ((met2 ((met3 (H (nt wd mFwd) 0)).1 3 _)) rfl)) 
  have := (met3 ((met3 (H (W psub) 0)).2.1 _ (by decide +kernel) rfl))
  have := met5 ((met2 ((met3 (H (W (stre 2)) 0)).2.2.1 _)) rfl)
  have ⟨next_, _⟩ := (met3 (H (W (run1 2 0)) 0)).2.2.2.1 _ _ (by decide +kernel) rfl rfl (by decide +kernel) (by decide +kernel)
  have := next_ (by decide +kernel)
  have ⟨_, last⟩ := (met3 (H (W (run1 1 0)) 0)).2.2.2.1 _ _ (by decide +kernel) rfl rfl (by decide +kernel) (by decide +kernel)
  have := last (by decide +kernel)
  have := met2 ((met4 (met3 ((met3 (H (W smpD) 0)).2.2.2.2.1 0 _))) rfl)
  have := (met3 (H (nt wd mFwd) 0)).2.2.2.2.2.1 0 (by decide +kernel) rfl
  have := ((met3 (H (W psh) _)).2.2.2.2.2.2.1 _ _ (by decide +kernel) rfl) (by decide +kernel)
  have := (met3 (H (nt wd mFwd) 0)).2.2.2.2.2.2.2.1 true (.inl rfl)
  have := (met3 (H (W smpD) 0)).2.2.2.2.2.2.2.2.1 _ 4 5 0 rfl (by decide +kernel)
  have ⟨fault, _, _⟩ := (met3 (H (nt wd mFwd) 0)).2.2.2.2.2.2.2.2.2
  have := met2 fault
  have ⟨_, _, source⟩ := (met3 (H (W (src1 .provisional)) 0)).2.2.2.2.2.2.2.2.2
  have := (source _ rfl (by decide +kernel)).1 (by decide +kernel)
  have ⟨_, _, source⟩ := (met3 (H (W (src1 .firm)) 0)).2.2.2.2.2.2.2.2.2
  have ⟨_, expiry⟩ := (source _ rfl (by decide +kernel)).2 (by decide +kernel)
  have := expiry (by decide +kernel)
  exact True.intro

end SillStormW

/-! ### FrontW -/

namespace FrontW
def hh : CmdHdr := ⟨7, false⟩
def kx (f : Chan → Chan) : Dev := { wd with front := { wd.front with chans := [(3, f (chanDefault 3))] } }
def tq (d : Dev) (l : List TedsReq) : Dev := { d with front := { d.front with tedsQueue := l } }
def code5 : Dev := (kx (fun k => { k with st := .active, tedsPresent := true, memory := List.replicate 64 5, lifeValid := true })).setFld (aExc 3) 0 12 77
def xT : Dev := let d := kx (fun k => { k with st := .teds, saved := some 77 }); { d with front := { d.front with teds := some { tedsNone 3 with reads := [hostCmdOf 0x52 hh] }, tedsMode := true } }
def cods : List Half := List.replicate 16 100
def win1 (n : Nat) : Window := { xs := List.replicate n 7, ovr := false, uncal := false, gap := none }
def mSl : Slot := { slotDefault 0 with st := .started, mode := 3, mask := 8, dest := 1 }
def mSl2 : Slot := { mSl with model := some { modelId := 7, flags := 0, hyps := 1, classes := 2, winLen := 256, casements := 1, panes := 2 ^ 5, spares := [], stormBuf := 65536, latBudget := 1000, code := [(0, 0, 4)], stormProg := [], tables := [1], check := [], symbols := [] } }
def lis2 (d : Dev) : Dev := { d with mdl := { d.mdl with slots := [(0, mSl2)] } }
def act (f : Chan → Chan) : Dev := kx (fun k => f { k with st := .active })
def len4 (d : Dev) : Dev := d.setFld (aAcq 3 0) 16 7 4
def calD (p : Nat) (off sum : Int) (n : Nat) : Dev := let d := kx (fun k => { k with cal := some { phase := p, off := off, count := n, sum := sum } }); { d with front := { d.front with cals := [{ cmd := hostCmdOf 0x58 hh, left := [3] }] } }
def due : Dev := { code5 with front := { code5.front with chans := [(3, { chanDefault 3 with tedsPresent := true, blockN := 8192, blockHit := true, shocks := 3599, writeDue := true })] } }
def sv (f : SurveyState → SurveyState) : Dev := { wd with svy := f wd.svy }
def ctl (v : Nat) (d : Dev) : Dev := d.setFld aSvyCtrl 0 2 v
def refs (d : Dev) : Dev := (d.setFld 0x40010 0 24 0x10000).setFld 0x40014 0 24 0x900000
def conv0 (w : ConvFor) : Conv := { what := w, ch := 5, period := 1, uncal := false, start := 3, taint := false, no := 1 }
def xU : Dev := refs (sv (fun v => { v with conv := some (conv0 .urgent), serving := some { ch := 5, cmds := [hostCmdOf 0x56 hh] } }))

/-- Each clause of ProbesComeAndGo has a state and operands that meet its hypotheses together. -/
theorem witness_ProbesComeAndGo (H : Obligations.ProbesComeAndGo) : True := by
  have at_ := fun (s : State) (a : s.dev.clocked = true) => H s hh 3 3 3 100 100 100 100 8 8 8 cods (List.replicate 8 1) (List.replicate 8 1) (List.replicate 8 1) _ rfl (by decide +kernel) a
  have := ((met2 (at_ (W (kx (fun k => { k with st := .teds, saved := some 5 }))))).1 100).1 (by decide +kernel)
  have := met2 (((met2 (at_ w0)).1 0).2.1)
  have := met3 (((met2 (at_ w0)).1 100).2.2.1)
  have := met2 (((met2 (at_ (W code5))).1 100).2.2.2)
  have := ((met2 (at_ w0)).2.1) (by decide +kernel) (by decide +kernel) (by decide +kernel) (fun c hc => by rw [List.eq_of_mem_replicate hc]; decide)
  have := ((met2 (at_ (W code5))).2.2.1 (by decide +kernel)).1
  have := ((met2 (at_ (W code5))).2.2.1 (by decide +kernel)).2
  have := (met2 (at_ (W (kx (fun k => { k with st := .opened }))))).2.2.2.1 (by decide +kernel)
  have := ((met2 (at_ (W ((kx (fun k => { k with st := .debounce })).setReg aSup 0)))).2.2.2.2.1 (by decide +kernel)).1 (by decide +kernel)
  have := met3 (((met2 (at_ (W (kx (fun k => { k with st := .debounce }))))).2.2.2.2.1 (by decide +kernel)).2)
  have := (met2 (at_ (W (kx (fun k => { k with st := .settling }))))).2.2.2.2.2.1 (by decide +kernel)
  have := (met2 (at_ w0)).2.2.2.2.2.2.1 (by decide +kernel)
  have := (met2 (at_ (W (tq code5 [tedsNone 3])))).2.2.2.2.2.2.2.1 _ _ (by decide +kernel) rfl (by decide +kernel) (by decide +kernel)
  have := (met2 (at_ w0)).2.2.2.2.2.2.2.2.1 (by decide +kernel)
  have := met3 (((met3 ((met2 (at_ (W ((xT.setReg aSup 0).taken 0x52 [] hh)))).2.2.2.2.2.2.2.2.2.1 _ _ _ rfl)) rfl (by decide +kernel)).1)
  have := ((met3 ((met2 (at_ (W (xT.taken 0x52 [] hh)))).2.2.2.2.2.2.2.2.2.1 _ _ _ rfl)) rfl (by decide +kernel)).2
  have := met2 (((met2 (at_ w0)).2.2.2.2.2.2.2.2.2.2.1 (by decide +kernel)).1)
  have := ((met2 (at_ (W (kx (fun k => { k with tedsExcl := true, lifeValid := true }))))).2.2.2.2.2.2.2.2.2.2.1 (by decide +kernel)).2 (by decide +kernel)
  have := met2 ((met3 ((met2 (at_ w0)).2.2.2.2.2.2.2.2.2.2.2.1)).1)
  have := (met3 ((met2 (at_ (W (kx (fun k => { k with tedsExcl := true, lifeValid := true }))))).2.2.2.2.2.2.2.2.2.2.2.1)).2 (by decide +kernel)
  have := met2 ((((met2 (at_ (W code5))).2.2.2.2.2.2.2.2.2.2.2.2.1 (by decide +kernel)).1 (by decide +kernel)).1)
  have := (((met2 (at_ (W (kx (fun k => { k with tedsExcl := true, lifeValid := true }))))).2.2.2.2.2.2.2.2.2.2.2.2.1 (by decide +kernel)).1 (by decide +kernel)).2 (by decide +kernel)
  have := ((met2 (at_ w0)).2.2.2.2.2.2.2.2.2.2.2.2.1 (by decide +kernel)).2.1
  have := (met4 (((met3 (H (W code5) hh 3 3 3 100 100 100 _ 8 8 8 cods (List.replicate 8 1) (List.replicate 8 1) (List.replicate 8 1) _ rfl)).2.2.2.2.2.2.2.2.2.2.2.2.1 (by decide +kernel)).2.2.1)) rfl
  have := ((met3 (H w0 hh 3 3 3 100 100 100 100 8 0xFFF 8 cods (List.replicate 8 1) (List.replicate 8 1) (List.replicate 8 1) _ rfl)).2.2.2.2.2.2.2.2.2.2.2.2.1 (by decide +kernel)).2.2.2 (by decide +kernel)
  have := met4 ((met2 (at_ w0)).2.2.2.2.2.2.2.2.2.2.2.2.2)
  exact True.intro

/-- Each clause of SamplesFillWindows has a state and operands that meet its hypotheses together. -/
theorem witness_SamplesFillWindows (H : Obligations.SamplesFillWindows) : True := by
  have at_ := fun (s : State) (a : s.dev.clocked = true) => H s hh 8 0x00200003 1 1 3 1000 (by decide +kernel) a
  have := met3 (met2 (at_ (W (len4 (act (fun k => { k with wins := [win1 5], hopLeft := 2 })))))).1
  have := (met3 ((met2 (at_ (W (len4 (calD 1 0 0 64))))).2.1 _ true rfl)) 
  have := met2 ((met2 (at_ (W (lis2 (len4 (act (fun k => { k with wins := [win1 5, win1 256] }))))))).2.2.1 (win1 256))
  have := (met2 (at_ (W (len4 (act (fun k => { k with wins := [win1 5], hopLeft := 2 })))))).2.2.2.1 (by decide +kernel)
  have := met3 (met2 (at_ w0)).2.2.2.2.1
  have := met2 (met2 (at_ (W (lis2 (len4 (act (fun k => { k with wins := [win1 5, win1 256] }))))))).2.2.2.2.2.1
  have := ((met2 (at_ (W (calD 1 0 0 4159)))).2.2.2.2.2.2.1 _ rfl (.inl (by decide +kernel))).1 1 (.inl (by decide +kernel))
  have := (((met2 (at_ (W (calD 1 0 0 4160)))).2.2.2.2.2.2.1 _ rfl (.inl (by decide +kernel))).2 (by decide +kernel)).1 (by decide +kernel)
  have := met2 (((met2 (at_ (W (calD 2 100 20000000000 4160)))).2.2.2.2.2.2.1 _ rfl (.inr (by decide +kernel))).2 (by decide +kernel)).2
  have := met3 ((met2 ((met2 (at_ (W ((calD 3 100 0 64).taken 0x58 [] hh)))).2.2.2.2.2.2.2.1 _ _ _ rfl)) rfl)
  have := met4 (met2 (at_ w0)).2.2.2.2.2.2.2.2.1
  have := (met2 (at_ w0)).2.2.2.2.2.2.2.2.2.1 0x00200003
  have := met2 (met2 (at_ (W code5))).2.2.2.2.2.2.2.2.2.2.1
  have := (met2 (at_ w0)).2.2.2.2.2.2.2.2.2.2.2.1 (by decide +kernel)
  have := met2 (met2 (at_ (W due))).2.2.2.2.2.2.2.2.2.2.2.2.1
  have := met2 (met2 (at_ (W (len4 (act (fun k => { k with wins := [win1 5], hopLeft := 2 })))))).2.2.2.2.2.2.2.2.2.2.2.2.2.1
  have := met4 (met2 (at_ (W due))).2.2.2.2.2.2.2.2.2.2.2.2.2.2
  exact True.intro

/-- Each clause of SurveyConverts has a state and operands that meet its hypotheses together. -/
theorem witness_SurveyConverts (H : Obligations.SurveyConverts) : True := by
  have at_ := fun (s : State) (a : s.dev.clocked = true) => H s hh 0 0 0 0 [5, 6] 4000 a
  have := met4 ((met2 (at_ w0)).1 (by decide +kernel) rfl)
  have := met2 ((met2 (at_ w0)).2.1 (by decide +kernel)).1
  have := ((met2 (H w0 hh 0 0 0 48 [5, 6] 4000)).2.1 (by decide +kernel)).2 (by decide +kernel)
  have := ((met2 (at_ w0)).2.2.1 (by decide +kernel)).1 (by decide +kernel)
  have := ((met2 (at_ (W (sv (fun v => { v with cal := some (hostCmdOf 0x57 hh, 0, 0, 0, false) }))))).2.2.1 (by decide +kernel)).2 (by decide +kernel)
  have := met3 (met2 (at_ (W (ctl 2 wd)))).2.2.2.1
  have := (met2 (at_ w0)).2.2.2.2.1 (by decide +kernel)
  have := (met2 (at_ w0)).2.2.2.2.2.1 4000 (by decide +kernel)
  have := (met2 (at_ (W (ctl 2 wd)))).2.2.2.2.2.2.1 4000 (by decide +kernel) (.inl (by decide +kernel)) (by decide +kernel)
  have := (met2 (at_ w0)).2.2.2.2.2.2.2.1 4000
  have := (met2 (at_ w0)).2.2.2.2.2.2.2.2.1 true
  have := (met2 (at_ w0)).2.2.2.2.2.2.2.2.2.1 0x800000
  have := (met2 (at_ w0)).2.2.2.2.2.2.2.2.2.2.1 (by decide +kernel)
  have := (met3 (met3 ((met2 (at_ (W (refs (ctl 2 (sv (fun v => { v with conv := some (conv0 .single), single := true }))))))).2.2.2.2.2.2.2.2.2.2.2.1 _ rfl))).1 (by decide +kernel)
  have := met4 ((met3 (met3 ((met2 (at_ (W (xU.taken 0x56 [5] hh)))).2.2.2.2.2.2.2.2.2.2.2.1 _ rfl))).2 _ _ (by decide +kernel) rfl)
  have := (met2 (at_ (W (sv (fun v => { v with latched := some 0x20000005, predelay := true }))))).2.2.2.2.2.2.2.2.2.2.2.2 _ rfl (by decide +kernel)
  exact True.intro

end FrontW

/-! ### NetW -/

namespace NetW
def mg (src dst typ : Nat) (p : List Byte) : Msg := { src := src, dst := dst, typ := typ, len := 0, tag := 0x21, ticket := 0, status := 0, notify := false, payload := p, trail := [⟨dst, 5, 0⟩] }
def nt (d : Dev) (m : Msg) : State := W { d with mul := { d.mul with net := [m] } }
def kc (f : Casement → Casement) : Dev := { wd with csm := [(5, f (csmDefault 5))] }
def p32 : List Byte := List.replicate 32 3
def fen (d : Dev) : Dev := d.setFld 0xA0000 5 1 1
def busyK (f : RspSlot → RspSlot) : Dev := kc (fun k => { k with rsp := [(1, f { gen := 2, busy := true, reply := none })] })
def fwdSlot (r : RspSlot) : RspSlot := { r with fire := some 7 }
def ra (a : Nat) (v : Nat) : List Byte := leBytes 4 a ++ leBytes 4 v ++ List.replicate 24 0
def run5 : Dev := kc (fun k => { k with core := .running })
def fenc5 (b : Bool) : Dev := fen (kc (fun k => { k with core := .fenced, drained := b, x := [(1, 2)], sram := [(5, 7), (0x34F10, 9)], req := [{ slot := 0, src := 3, len := 0, typ := 1, tag := 2, ticket := 0 }] }))
def seen (l : List (Nat × Bool)) (d : Dev) : Dev := { d with mul := { d.mul with faults := l } }
def wdt (d : Dev) : Dev := d.setFld (aCsm 5 0xC) 0 16 100

/-- Each clause of MessagesReachTheirPartner has a state and operands that meet its hypotheses together. -/
theorem witness_MessagesReachTheirPartner (H : Obligations.MessagesReachTheirPartner) : True := by
  have := ((met4 (H (nt wd (mg 3 5 tyData p32)) 3 5 _)).1 (by decide +kernel)).1 rfl _ rfl
  have := ((met4 (H (nt wd (mg 3 5 tyReqUser p32)) 3 5 _)).1 (by decide +kernel)).2.1 rfl _ rfl
  have := ((met4 (H (nt wd (mg 3 5 tyControl p32)) 3 5 _)).1 (by decide +kernel)).2.2.1 _ rfl rfl
  have := met2 ((met3 ((met2 (((met4 (H (nt (busyK id) (mg 3 5 tyRsp p32)) 3 5 _)).1 (by decide +kernel)).2.2.2.1 rfl)).1)).1)
  have := (met3 ((met2 (((met4 (H (nt (busyK fwdSlot) (mg 3 5 tyRsp p32)) 3 5 _)).1 (by decide +kernel)).2.2.2.1 rfl)).1)).2 7 (by decide +kernel)
  have := (met2 (((met4 (H (nt (busyK (fun r => { r with gen := 3 })) (mg 3 5 tyRsp p32)) 3 5 _)).1 (by decide +kernel)).2.2.2.1 rfl)).2 (by decide +kernel)
  have := ((met4 (H (nt wd (mg 3 5 tyCredit p32)) 3 5 _)).1 (by decide +kernel)).2.2.2.2 rfl (by decide +kernel)
  have := ((met4 (H (nt (fen wd) (mg 3 5 tyData p32)) 3 5 _)).2.1 (by decide +kernel)).1 rfl (by decide +kernel)
  have := ((met4 (H (nt (fen wd) (mg 3 5 tyReqUser p32)) 3 5 _)).2.1 (by decide +kernel)).2 rfl
  have := met2 ((met4 (H (nt wd (mg 5 32 tyRegRd (ra 0x10018 0))) 3 5 (mg 3 5 tyData p32))).2.2.1 _ rfl)
  have := met2 ((met4 (H (nt wd (mg 5 32 tyRegWr (ra 0x10014 1))) 3 5 (mg 3 5 tyData p32))).2.2.2.1 _ rfl)
  have := (met4 (H (nt wd (mg 3 5 tyData p32)) 3 3 (mg 3 5 tyData p32))).2.2.2.2 (by decide +kernel)
  exact True.intro

/-- Each clause of CasementFaultsAndRestarts has a state and operands that meet its hypotheses together. -/
theorem witness_CasementFaultsAndRestarts (H : Obligations.CasementFaultsAndRestarts) : True := by
  have ⟨shut, _⟩ := met2 (H (W { wd with pwr := PowerState.reset }) 5)
  have := shut (by decide +kernel)
  have ⟨faulty, _⟩ := (met2 (H (W (wdt run5)) 5)).2 (by decide +kernel)
  have ⟨cause, _, watchdog⟩ := faulty (by decide +kernel)
  have := met2 (cause 1)
  have := met4 watchdog
  have ⟨_, host, _, drain, restart, _⟩ := (met2 (H (W (seen [(5, false)] (fenc5 true))) 5)).2 (by decide +kernel)
  have := host (by decide +kernel)
  have := drain (by decide +kernel)
  have := met3 restart
  have ⟨_, _, waits, _⟩ := (met2 (H (W (seen [(3, false), (5, false)] (fenc5 true))) 5)).2 (by decide +kernel)
  have := met2 (waits 3)
  have ⟨_, _, _, _, _, failed, _⟩ := (met2 (H (W (fen (kc (fun k => { k with core := .failed })))) 5)).2 (by decide +kernel)
  have := met2 failed
  have ⟨_, _, _, _, _, _, running, halt, _, _, _, nearMiss⟩ := (met2 (H (W (wdt run5)) 5)).2 (by decide +kernel)
  have := running (by decide +kernel)
  have := met2 halt
  have := met2 nearMiss
  have ⟨_, _, _, _, _, _, _, _, start, _⟩ := (met2 (H (W run5) 1)).2 (by decide +kernel)
  have := met2 start
  have ⟨_, _, _, _, _, _, _, _, _, timeout, _⟩ := (met2 (H (W (busyK id)) 5)).2 (by decide +kernel)
  have := met4 (met3 (timeout 1))
  exact True.intro

end NetW

/-! ### JambW -/

namespace JambW
def hh : CmdHdr := ⟨7, false⟩
def jm (f : JambState → JambState) : Dev := { wd with jamb := f wd.jamb }
def d64 : List Byte := List.replicate 64 5
def jcH : JCommit := { page := 20, data := d64, owner := .host (some (hostCmdOf 0x72 hh)), saved := none, savedLost := false }
def xJ : Dev := jm (fun j => { j with commit := some jcH })
def gKey : List Byte := pointKey (0x6B17D1F2E12C4247F8BCE6E563A440F277037D812DEB33A0F4A13945D898C296, 0x4FE342E2FE1A7F9B8EE7EB4A7C0F9E162BCE33576B315ECECBB6406837BF51F5)
def dbx (f : DeadboltState → DeadboltState) (d : Dev) : Dev := { d with db := f d.db }
def kyd : Dev := { wd with lin := { wd.lin with keys := Tab.setList (fun _ => 0) [(0, 1), (0x20, 3)] 0x60 gKey } }
def gHash : List Byte := sha256 (gKey)
def xSeal : Dev := dbx (fun b => { b with burning := some (hostCmdOf 0x91 hh, List.replicate 32 1) }) wd
def blk0 : List Byte := List.replicate 64 9
def n16 : List Byte := List.replicate 16 4
def n32 : List Byte := List.replicate 32 1
def sealed (d : Dev) : Dev := dbx (fun b => { b with sealed := true, hash := n32 }) d
def chl (t : Nat) (rtc : Nat) : Dev := dbx (fun b => { b with challenge := some (2, blk0, t) }) { kyd with lin := { kyd.lin with rtc := rtc } }

/-- Each clause of JambPagesAndCommits has a state and operands that meet its hypotheses together. -/
theorem witness_JambPagesAndCommits (H : Obligations.JambPagesAndCommits) : True := by
  have := met2 (((H w0 hh 20 20 4 d64 (by decide +kernel)).1 (by decide +kernel)).1)
  have := met3 (met3 (((H w0 hh 20 0 128 d64 (by decide +kernel)).1 (by decide +kernel)).2.1 2))
  have := met2 (((H w0 hh 20 20 128 d64 (by decide +kernel)).1 (by decide +kernel)).2.2)
  have := met4 ((met3 ((H w0 hh 20 0 4 d64 (by decide +kernel)).2.1)).1)
  have := (met2 ((met3 ((H (W (jm (fun j => { j with buf := some (20, d64) }))) hh 20 0 4 d64 (by decide +kernel)).2.1)).2.1 _)) rfl
  have := (met2 ((met3 ((H (W (jm (fun j => { j with buf := some (20, d64) }))) hh 255 0 4 d64 (by decide +kernel)).2.1)).2.2.1 _ _)) rfl (by decide +kernel)
  have := (met3 ((H w0 hh 0 0 4 d64 (by decide +kernel)).2.1)).2.2.2 (by decide +kernel)
  have := ((met3 ((H (W (jm (fun j => { j with buf := some (20, d64) }))) hh 20 20 4 d64 (by decide +kernel)).2.2.1)).1 _ rfl).1 (by decide +kernel)
  have := ((met3 ((H (W (jm (fun j => { j with buf := some (20, d64) }))) hh 20 20 4 d64 (by decide +kernel)).2.2.1)).1 _ rfl).2
  have := ((met3 ((H w0 hh 20 20 4 d64 (by decide +kernel)).2.2.1)).2 (by decide +kernel)).1
  have := ((met3 ((H w0 hh 20 20 4 d64 (by decide +kernel)).2.2.1)).2 (by decide +kernel)).2 (by decide +kernel)
  have := met4 (((H w0 hh 255 20 4 d64 (by decide +kernel)).2.2.2.1 (by decide +kernel)).1)
  have := met2 (((H (W (jm (fun j => { j with lockSeen := true }))) hh 255 20 4 d64 (by decide +kernel)).2.2.2.1 (by decide +kernel)).2.1)
  have := ((H w0 hh 20 20 4 d64 (by decide +kernel)).2.2.2.1 (by decide +kernel)).2.2 (by decide +kernel)
  have ⟨done, failed⟩ := met5 ((H (W (xJ.taken 0x72 [20, 0] hh)) _ 20 20 4 d64 (by decide +kernel)).2.2.2.2.1 _ _ rfl)
  have := (H (W (jm (fun j => { j with devQueue := [.progCount 5], buf := some (20, d64) }))) hh 20 20 4 d64 (by decide +kernel)).2.2.2.2.2.1 _ _ (by decide +kernel) (by decide +kernel) rfl
  have := (H w0 hh 20 20 4 d64 (by decide +kernel)).2.2.2.2.2.2 (by decide +kernel)
  exact True.intro

/-- Each clause of KeysSealAndChallenges has a state and operands that meet its hypotheses together. -/
theorem witness_KeysSealAndChallenges (H : Obligations.KeysSealAndChallenges) : True := by
  have at_ := fun (s : State) => H s hh 0 0 gKey gKey gKey gKey 0
  have ⟨_, written, _⟩ := met2 (H w0 hh 0 0 n16 gKey gKey gKey 0).1
  have := written (by decide +kernel)
  have ⟨_, _, _, _, _, _, beyond⟩ := met2 (H w0 hh 4 0 gKey gKey gKey gKey 0).1
  have := beyond (by decide +kernel)
  have := met2 (met2 (at_ w0).2.1).1
  have := met2 (met2 (H w0 hh 0 0 d64 gKey gKey gKey 0).2.1).2.1
  have := met2 (met2 (at_ (W (sealed wd))).2.1).2.2
  have := (at_ w0).2.2.1 (by decide +kernel)
  have := met2 (met5 ((H (W kyd) hh 0 0 gKey gHash gKey gKey 0).2.2.2.1 (by decide +kernel)).1)
  have := ((at_ (W (sealed wd))).2.2.2.1 (by decide +kernel)).2 (by decide +kernel)
  have := met2 ((met3 ((H (W (xSeal.taken 0x91 n32 hh)) _ 0 0 gKey _ gKey gKey 0).2.2.2.2.1 _ _ rfl)) rfl)
  have := (at_ w0).2.2.2.2.2.1 (by decide +kernel)
  have := ((at_ w0).2.2.2.2.2.2.1 (by decide +kernel)).1 (by decide +kernel)
  have := met3 (((at_ (W (sealed wd))).2.2.2.2.2.2.1 (by decide +kernel)).2 0)
  have := (met2 (at_ w0).2.2.2.2.2.2.2.1).1 (by decide +kernel)
  have := (met2 (at_ (W { wd with lin := { wd.lin with alarm := true, latched := 4, active := 1, policy := 0xFFFF } })).2.2.2.2.2.2.2.1).2 (by decide +kernel)
  have := (met2 (H w0 hh 0 _ gKey gKey gKey gKey 0).2.2.2.2.2.2.2.2.1).1 (.inl rfl)
  have := met2 (met2 (H (W kyd) hh 0 0 gKey gKey gHash gKey 0).2.2.2.2.2.2.2.2.1).2.1
  have := met2 ((met2 (at_ (W (chl 0 5))).2.2.2.2.2.2.2.2.1).2.2.1 _ _ (by decide +kernel) rfl).1
  have := ((met2 (at_ (W (chl 0 400000))).2.2.2.2.2.2.2.2.1).2.2.1 _ _ (by decide +kernel) rfl).2 (by decide +kernel)
  have := met2 (met2 (at_ w0).2.2.2.2.2.2.2.2.1).2.2.2
  have := ((at_ (W (chl 0 400000))).2.2.2.2.2.2.2.2.2.1 _ _ _ (by decide +kernel) rfl).1 (by decide +kernel)
  have := ((at_ (W (chl 0 5))).2.2.2.2.2.2.2.2.2.1 _ _ _ (by decide +kernel) rfl).2 (by decide +kernel)
  have := (at_ w0).2.2.2.2.2.2.2.2.2.2 (by decide +kernel)
  exact True.intro

end JambW

/-! ### DebugW -/

namespace DebugW
def hh : CmdHdr := ⟨7, false⟩
def h2 : CmdHdr := ⟨9, false⟩
def db (f : DebugState → DebugState) (d : Dev) : Dev := { d with dbg := f d.dbg }
def bolted (d : Dev) : Dev := db (fun b => { b with bolted := true, cause := 1, lineLow := true }) d
def io (d : Dev) : Dev := d.setReg 0xC0000 1
def m0 : Model := { modelId := 7, flags := 0, hyps := 1, classes := 2, winLen := 16, casements := 1, panes := 2 ^ 5, spares := [], stormBuf := 0, latBudget := 1000, code := [(0, 0, 4)], stormProg := [], tables := [], check := [], symbols := [0x54, 0x53, 1, 1, 0, 0, 0, 0, 8, 0, 1, 0, 2, 0, 0, 0, 16, 0, 0, 0] ++ List.replicate 20 0 }
def slo : Dev := { wd with mdl := { wd.mdl with slots := [(0, { slotDefault 0 with st := .started, model := some m0 })] } }
def dmp : Dump := { cmd := hostCmdOf 0x83 h2, slot := 0, symbol := 8, step := 0, kind := 1, casement := 0, place := 2, occurrence := 0, length := 16, seen := 0 }
def armed : Dev := db (fun b => { b with dumps := [dmp] }) slo
def dscT : Desc := { table := 1, flags := 1, entrySize := 32, entries := 4, base := 0x1F00000, assetBits := 2, speedBits := 0, loadBits := 0, tempBits := 0 }
def trc (d : Dev) : Dev := d.setReg 0xC0010 0x01000001

/-- 0x20 and 0x41 name counters (R499). -/
theorem counters_ok : ∀ i ∈ ([0x20, 0x41] : List Half), isCounter i.toNat = true :=
  List.forall_mem_cons.mpr ⟨by decide +kernel, List.forall_mem_cons.mpr ⟨by decide +kernel, by simp⟩⟩

/-- Each clause of BoltsLatchesAndTrace has a state and operands that meet its hypotheses together. -/
theorem witness_BoltsLatchesAndTrace (H : Obligations.BoltsLatchesAndTrace) : True := by
  have at_ := fun (s : State) => H s hh hh 0 0 0 0 0 0 8 8 0 0 0 0 [0x20, 0x41]
  have ⟨bolts, pin, line, unbolt, quiet, _, ended, _⟩ := at_ (W (trc (wd.setReg 0xC0000 0x14)))
  have ⟨host, _⟩ := bolts (by decide +kernel)
  have := host (by decide +kernel)
  have := pin 1 (by decide +kernel)
  have := line (by decide +kernel)
  have := unbolt (by decide +kernel)
  have := quiet (by decide +kernel)
  have := met2 ended
  have ⟨_, trig, lineLow⟩ := (at_ (W (wd.setReg 0xC0000 0xB))).1 (by decide +kernel)
  have := met3 (trig 0)
  have := met2 lineLow
  have := (at_ (W (io (bolted (db (fun b => { b with ownCause := true }) wd))))).2.2.2.2.2.1 (by decide +kernel)
  have := met3 (at_ (W (bolted wd))).2.2.2.2.2.2.2.1
  have ⟨_, _, _, _, _, _, _, _, latch, dump, _, counters, trace, sample, mark, _, _, idle⟩ := at_ (W (trc wd))
  have := (latch (by decide +kernel)).1 (by decide +kernel)
  have := ((H w0 hh hh 33 0 0 0 0 0 8 8 0 0 0 0 [0x20, 0x41]).2.2.2.2.2.2.2.2.1 (by decide +kernel)).2 (.inl (by decide +kernel))
  have := (met2 dump).2.1 (by decide +kernel)
  have := (met2 dump).2.2 (by decide +kernel)
  have := met2 ((met2 (at_ (W slo)).2.2.2.2.2.2.2.2.2.1).1 _ (by decide +kernel) rfl)
  have := met4 ((met2 ((H (W (armed.taken 0x83 [] h2)) hh _ 0 0 0 0 0 0 8 8 0 0 0 0 [0x20, 0x41]).2.2.2.2.2.2.2.2.2.2.1 _ _ _ rfl)) rfl)
  have := (met4 counters) counters_ok
  have := (met3 trace).1 (by decide +kernel)
  have := met2 (met3 (H (W { wd with sill := { wd.sill with descs := [(1, dscT)] } }) hh hh 0 0 0 0 0 0 8 8 0 0 0 1 [0x20, 0x41]).2.2.2.2.2.2.2.2.2.2.2.2.1).2
  have := met2 sample
  have := (met3 (met3 (mark _))).1 0 rfl (by decide +kernel)
  have ⟨_, _, _, _, _, _, _, _, _, _, _, _, _, _, marks, _⟩ := at_ (W (trc (wd.setReg 0xC0000 0x14)))
  have := met2 ((met3 (met3 (marks 1))).2 1)
  have := (at_ w0).2.2.2.2.2.2.2.2.2.2.2.2.2.2.2.1 0 (by decide +kernel)
  have := met2 idle
  have := met3 (met3 ((met2 ((at_ (W (trc (db (fun b => { b with fifo := [List.replicate 16 3] }) wd)))).2.2.2.2.2.2.2.2.2.2.2.2.2.2.2.2.1 _ _)) rfl))
  exact True.intro

end DebugW

/-! ### JtagW -/

namespace JtagW
def db (f : DebugState → DebugState) (d : Dev) : Dev := { d with dbg := f d.dbg }
def jg (f : JtagState → JtagState) (d : Dev) : Dev := db (fun b => { b with jtag := f b.jtag }) d
def sealedD : Dev := { wd with db := { wd.db with sealed := true } }
def halt5 : Dev := jg (fun j => { j with halted := 32, dmcontrol := 1 }) { wd with csm := [(5, { csmDefault 5 with x := [(3, 0x1234)], sram := [(16, 7)] })] }

/-- Each clause of JtagPort has a state and operands that meet its hypotheses together. -/
theorem witness_JtagPort (H : Obligations.JtagPort) : True := by
  have ⟨_, _, _, _, closed, _⟩ := met2 (H (W sealedD) 5 5 5 5 true 0x80000010 0x80000010)
  have := (met2 closed) (.scanState, 0x20) (by simp)
  have ⟨_, _, _, _, _, opened⟩ := met2 (H w0 5 5 5 5 true 0x80000010 0x80000010)
  have ⟨_, _, _, halt, _, _, running, free, _⟩ := opened (by decide +kernel)
  have := met2 halt
  have := met2 running
  have := (free (by decide +kernel)).2 (by decide +kernel)
  have ⟨_, _, _, _, _, opened⟩ := met2 (H (W halt5) 5 5 5 5 true 0x80000010 0x80000010)
  have ⟨_, _, dmi, _, resume, access, _⟩ := opened (by decide +kernel)
  have := dmi.2.2 (by decide +kernel)
  have := met2 resume
  have := met3 (met2 access).2.2
  have ⟨_, _, _, _, _, opened⟩ := met2 (H (W (db (fun b => { b with bolted := true }) wd)) 5 5 5 5 true 0x80000010 0x80000010)
  have ⟨_, _, _, _, _, _, _, _, scan, _⟩ := opened (by decide +kernel)
  have := met2 scan
  exact True.intro

end JtagW

/-! ### StackW -/

namespace StackW
def hh : CmdHdr := ⟨7, false⟩
def pk : List Byte := commandPacket 0 9 []
def upPort (partner : Nat) : StkPort := { stkPortDefault 0 with st := 2, partner := partner, credits := [16,16,16] }
def ks (p : StkPort) (f : StackState → StackState) : Dev := { wd with stk := f { StackState.reset with ports := [(0, p)] } }
def fh (src dst seq : Nat) : StkHdr := { port := 0, src := src, dst := dst, seq := seq, auth := false, good := true, ack := 0, counter := 0, onGiveUpTick := false }
def trn : StkPort := { stkPortDefault 0 with st := 1, train := some (1, 0, 5), partner := 1, best := some (100, 3) }
def fwd0 : Forward := { cmd := hostCmdOf 0x60 hh, target := 1, tag := 9, op := 0 }
def xFw : Dev := ks (upPort 1) (fun k => { k with forwards := [fwd0] })
def rpk : List Byte := replyPacket 0 9 stOk [1, 2, 3]
def rec1 : List Byte := List.replicate 32 0
def res1 : List Byte := List.replicate 16 0
def stby : Dev := ks (upPort 1) (fun k => { k with role := 1, masterId := 1 })
def enab (d : Dev) : Dev := d.setFld 0xB0004 0 3 7
def trnP : StkPort := { stkPortDefault 0 with st := 1, train := some (2, 0, 5), partner := 2 }
def fr6 : StkFrame := { typ := 6, src := 0, dst := 1, vc := 1, auth := false, seq := 3, counter := 0, payload := [1] }
def alone : Dev := ks { upPort 1 with replay := [fr6] } id
def inDoorstep : Dev := { wd with sys := { wd.sys with main := .doorstep }, rst := { wd.rst with straps := 2 } }
def via1 : Dev := ks (upPort 1) (fun k => { k with formed := true })

/-- The receive buffers hold no frame where no queue and no dispatch does (R403). -/
theorem roomy (d : Dev) (p : Nat) (hq : ∀ o, o < 3 → (d.port o).queue = [] := by decide +kernel)
    (hd : d.mul.dispatch = [] := by decide +kernel) (v : Nat) : d.rxHeld p v < 16 := by
  have : List.range 3 = [0, 1, 2] := rfl
  simp [Dev.rxHeld, this, hq, hd]

/-- Each clause of UnsequencedFramesArrive has a state and operands that meet its hypotheses together. -/
theorem witness_UnsequencedFramesArrive (H : Obligations.UnsequencedFramesArrive) : True := by
  have ⟨heartbeat, _⟩ := met3 (met3 (H (W (ks (upPort 1) (fun k => { k with role := 1, masterId := 1 }))) (fh 1 0 0)))
  have := met2 (heartbeat [5, 6] (by decide +kernel)).1
  have ⟨heartbeat, credit, _⟩ := met3 (met3 (H (W (ks (upPort 1) id)) (fh 1 0 0)))
  have := (heartbeat [5, 6] (by decide +kernel)).2 (by decide +kernel)
  have := (met2 (credit 1 1 1 _ _ _)) rfl
  have ⟨_, _, sync, train, idle⟩ := met3 (met3 (H (W (ks trn id)) (fh 1 0 0)))
  have ⟨_, further, _⟩ := (met2 (sync 50 50 50 50 _)) rfl
  have := further (by decide +kernel)
  have ⟨same, _⟩ := train 1 0 1 (by decide +kernel)
  have := (met2 same).1 (by decide +kernel)
  have ⟨_, higher, _⟩ := train 1 1 1 (by decide +kernel)
  have := (met3 higher).1 (by decide +kernel)
  have ⟨_, _, own⟩ := train 0 1 1 (by decide +kernel)
  have := met2 own
  have := idle (by decide +kernel) [5, 6]
  have ⟨_, _, sync, _⟩ := met3 (met3 (H (W (ks { trn with rounds := 15 } id)) (fh 1 0 0)))
  have ⟨_, _, last⟩ := (met2 (sync 50 50 50 50 _)) rfl
  have := last (by decide +kernel)
  have ⟨_, _, _, train, _⟩ := met3 (met3 (H (W (ks { trn with train := none } id)) (fh 1 0 0)))
  have := (met2 (train 1 0 1 (by decide +kernel)).1).2 (by decide +kernel)
  have ⟨_, _, _, train, _⟩ := met3 (met3 (H (W (ks trn (fun k => { k with role := 2 }))) (fh 1 0 0)))
  have := (met3 (train 1 1 1 (by decide +kernel)).2.1).2 (by decide +kernel)
  exact True.intro

/-- Each clause of SequencedFramesArrive has a state and operands that meet its hypotheses together. -/
theorem witness_SequencedFramesArrive (H : Obligations.SequencedFramesArrive) : True := by
  have ⟨later, _⟩ := (met4 (met5 (H (W (ks (upPort 1) id)) (fh 1 0 5)))) (roomy _ _)
  have := later (by decide +kernel) pk
  have ⟨_, now_⟩ := (met4 (met5 (H (W (ks (upPort 1) id)) (fh 1 0 0)))) (roomy _ _)
  have ⟨data, cmd, _, note, _, resolve, _, _, reset, takeover⟩ := now_ (by decide +kernel)
  have := (met3 (data 0 false pk)).1 (by decide +kernel)
  have := met2 (note pk)
  have ⟨_, now_⟩ := (met4 (met5 (H (W { ks (upPort 1) id with hl := { wd.hl with notes := [{ typ := 1, seq := 0, data := [] }] } }) (fh 1 0 0)))) (roomy _ _)
  have := met3 (met4 ((now_ (by decide +kernel)).2.2.2.2.1 rec1))
  have := met4 (resolve res1)
  have := met4 (reset 0)
  have := met2 (takeover 1 1)
  have ⟨_, _, taken, _⟩ := cmd pk _ (parseCommand_commandPacket 0 9 [] (by decide)) rfl
  have := met2 taken
  have ⟨_, now_⟩ := (met4 (met5 (H (W { ks (upPort 1) id with mul := { wd.mul with credits := [(64 * 37 + 3, 2)] } }) (fh 1 0 0)))) (roomy _ _)
  have := met2 (met3 ((now_ (by decide +kernel)).1 0 false ([0, 3] ++ List.replicate 30 0))).2
  have ⟨_, now_⟩ := (met4 (met5 (H (W { ks (upPort 1) id with sys := { wd.sys with patch := { wd.sys.patch with verifying := some (hostCmdOf 0x06 hh) } } }) (fh 1 0 0)))) (roomy _ _)
  have ⟨_, _, _, held⟩ := (now_ (by decide +kernel)).2.1 pk _ (parseCommand_commandPacket 0 9 [] (by decide)) rfl
  have := held (by decide +kernel)
  have ⟨_, now_⟩ := (met4 (met5 (H (W (xFw.taken 0x60 [1] hh)) (fh 1 0 0)))) (roomy _ _)
  have := met4 ((met2 ((now_ (by decide +kernel)).2.2.1 rpk _ _ _ _ rfl)) rfl)
  have ⟨_, now_⟩ := (met4 (met5 (H (W stby) (fh 1 0 0)))) (roomy _ _)
  have ⟨_, _, _, _, _, _, epoch, commit, _⟩ := now_ (by decide +kernel)
  have := epoch pk (by decide +kernel)
  have := commit 1 1 1 (by decide +kernel)
  exact True.intro

/-- Each clause of StackPortsAndRoles has a state and operands that meet its hypotheses together. -/
theorem witness_StackPortsAndRoles (H : Obligations.StackPortsAndRoles) : True := by
  have ⟨up, _⟩ := met2 (H (W (enab (ks { trnP with synced := true } id))) 0)
  have := met3 (met4 (met4 up))
  have ⟨_, noUp, noTrain, _, _, noDown, _, _, _, toggle, _⟩ := met2 (H (W (enab (ks trnP id))) 0)
  have := noUp (by decide +kernel)
  have := met5 noTrain
  have := noDown (by decide +kernel)
  have := met2 toggle
  have ⟨_, _, _, replay, down, _, heartbeat, _⟩ := met2 (H (W alone) 0)
  have := met3 (replay _ _ rfl (by decide +kernel)).2
  have := met2 down
  have := met2 heartbeat
  have ⟨_, _, _, _, _, _, _, close_, _⟩ := met2 (H (W via1) 0)
  have := (met3 (met3 close_)) _ _ _ rfl (by decide +kernel)
  have ⟨_, _, _, _, _, _, _, _, follower, _, _, noStandby, _⟩ := met2 (H (W (ks trnP (fun k => { k with role := 2 }))) 0)
  have := follower (by decide +kernel)
  have := noStandby (by decide +kernel) false 0
  have ⟨_, _, _, _, _, _, _, _, _, _, standby, _⟩ := met2 (H (W (ks (upPort 1) (fun k => { k with role := 1 }))) 0)
  have := met4 (standby (by decide +kernel) 0).2
  have ⟨_, _, _, _, _, _, _, _, _, _, _, _, reset⟩ := met2 (H (W inDoorstep) 0)
  have := met3 (met3 (reset (fh 1 0 0) 0))
  exact True.intro

/-- Each clause of StackConfigCommands has a state and operands that meet its hypotheses together. -/
theorem witness_StackConfigCommands (H : Obligations.StackConfigCommands) : True := by
  have := met2 ((H w0 hh (by decide +kernel)).1)
  have := met2 ((H (W (ks (stkPortDefault 0) (fun k => { k with formed := true }))) hh (by decide +kernel)).2.1)
  have := (H w0 hh (by decide +kernel)).2.2.1 4 0 (.inl (by decide +kernel))
  have := (met2 ((met3 ((H (W (ks (upPort 1) id)) hh (by decide +kernel)).2.2.2.1 1 _)) rfl)).1 pk _ (parseCommand_commandPacket 0 9 [] (by decide)) (by decide +kernel)
  have := met2 ((met2 ((met3 ((H (W (ks (upPort 1) id)) hh (by decide +kernel)).2.2.2.1 1 _)) rfl)).2 0)
  have := met3 ((H w0 hh (by decide +kernel)).2.2.2.2.1 0)
  have := (H w0 hh (by decide +kernel)).2.2.2.2.2.1 16 (by decide +kernel)
  have := (H w0 hh (by decide +kernel)).2.2.2.2.2.2
  exact True.intro

end StackW

/-! ### NeighbourW -/

namespace NeighbourW
def hh : CmdHdr := ⟨7, false⟩
def sPort (f : SitePort → SitePort) : SitePort := f { siteDefault 0 with phyUp := true, hello := true, link := true }
def fb (p : SitePort) (f : FabricState → FabricState) : Dev := { wd with fab := f { FabricState.reset with ports := [(0, p)], addr := 7, origin := 1 } }
def en (d : Dev) : Dev := d.setFld 0xB0100 0 2 3
def sf (src dst : Nat) : SiteHdr := { port := 0, auth := false, good := true, ackReq := false, alarm := false, dst := dst, src := src, hops := 5, seq := 3, counter := 0 }
def frm : SiteFrame := { typ := 0xA, auth := false, ackReq := true, alarm := false, dst := 9, src := 7, hops := 4, seq := 12, counter := 0, payload := [1] }
def aw (c : Option Cmd) : SiteAwait := { frame := frm, cmd := c }
def adj9 : Adj := { uid := 5, addr := 9, nbrA := 7, nbrB := 0, seq := 3, flags := 0 }
def xA : Dev := en (fb (sPort id) id)
def offR (n : Nat) : SiteOff := { best := some (1000, 3), rounds := n, done := none, rate := 0, t1 := 9 }

/-- A node with address 7 whose neighbour on port 0 has the unique ID `u` and the same address. -/
def sN (u : Nat) : State := W (en (fb (sPort (fun p => { p with nbr := some ⟨u, 7⟩ })) id))
/-- The same with operator-given addresses (origin 2). -/
def sO (u : Nat) : State := W (en (fb (sPort (fun p => { p with nbr := some ⟨u, 2⟩ })) (fun f => { f with addr := 2, origin := 2 })))

/-- The clauses of NeighbourFramesAct that compare with the device's own unique ID, for a device whose ID is neither the
least nor the greatest. -/
theorem witness_NeighbourFramesAct_uid (H : Obligations.NeighbourFramesAct) (h0 : 0 < Config.uid.toNat)
    (h1 : Config.uid.toNat < 2 ^ 96 - 1) : True := by
  have := (((met5 (met5 (H (sN 0) (sf 9 7)))).1 0 7 1 false 9 (by decide +kernel) (by decide +kernel)).2.2 (by decide +kernel) (by decide +kernel) (by omega)).1 (by decide +kernel) (by decide +kernel) (by omega) (by decide +kernel) (by decide +kernel)
  have := (((met5 (met5 (H (sN (2 ^ 96 - 1)) (sf 9 7)))).1 (2 ^ 96 - 1) 7 1 false 9 (by decide +kernel) (by decide +kernel)).2.2 (by decide +kernel) (by decide +kernel) (by omega)).2.1 (by decide +kernel) (by decide +kernel) (by omega)
  have := (((met5 (met5 (H (sO 0) (sf 9 7)))).1 0 2 2 false 9 (by decide +kernel) (by decide +kernel)).2.2 (by decide +kernel) (by decide +kernel) (by omega)).2.2 (by decide +kernel) rfl (by decide +kernel)
  have adj := fun (u : Nat) (hu : u < 2 ^ 96) => (met5 (met5 (H (W xA) (sf 9 7)))).2.1 u 9 9 7 9 0 hu
    (by omega) (by omega) (by omega) (by omega) (by omega)
  have := (adj Config.uid.toNat Config.uid.isLt).1 rfl
  have := met3 ((adj 0 (by omega)).2.2 (by omega))
  exact True.intro

/-- Each clause of NeighbourFramesAct has a state and operands that meet its hypotheses together. -/
theorem witness_NeighbourFramesAct (H : Obligations.NeighbourFramesAct) : True := by
  have := met2 ((met2 ((met5 (met5 (H (W xA) (sf 9 7)))).1 9 9 9 false 9)).2.1)
  have := (met5 (met5 (H (W xA) (sf 9 7)))).2.2.2.1 (by decide +kernel) 9
  have := (met5 (met5 (H (W xA) (sf 9 7)))).2.2.2.2.1 50
  have := (met5 (met5 (H (W xA) (sf 9 7)))).2.2.2.2.2.2 50 50 50 (by decide +kernel)
  have := met2 ((met2 ((met5 (met5 (H (W (en (fb (sPort (fun p => { p with nbr := some ⟨9, 9⟩ })) id))) (sf 9 7)))).1 9 9 9 false 9)).1)
  have := (((met5 (met5 (H (W (en (fb (sPort (fun p => { p with awaits := [aw none] })) id))) (sf 9 7)))).2.2.1 _ rfl).1 (by decide +kernel)).1
  have := (((met5 (met5 (H (W (en (fb (sPort (fun p => { p with awaits := [aw none] })) id))) (sf 9 7)))).2.2.1 _ rfl).1 (by decide +kernel)).2
  have := met4 (((met5 (met5 (H (W ((en (fb (sPort (fun p => { p with awaits := [aw (some (hostCmdOf 0x64 hh))] })) id)).taken 0x64 [] hh)) (sf 9 7)))).2.2.1 _ rfl).2 _ _ _ rfl)
  have := ((met2 ((met5 (met5 (H (W (en (fb (sPort (fun p => { p with nbr := some ⟨5, 9⟩, off := offR 3 })) id))) (sf 9 7)))).2.2.2.2.2.1 9 50 50 _)) rfl).1 (by decide +kernel)
  have := met2 (((met2 ((met5 (met5 (H (W (en (fb (sPort (fun p => { p with nbr := some ⟨5, 9⟩, off := offR 7 })) id))) (sf 9 7)))).2.2.2.2.2.1 9 50 50 _)) rfl).2)
  have := (met3 (met3 ((met5 (met5 (H (W (en (fb (sPort id) (fun f => { f with db := [{ adj9 with uid := 9, seq := 30 }] })))) (sf 9 7)))).2.1 9 9 9 9 9 0))).2.1 _ rfl (by decide +kernel)
  exact True.intro

end NeighbourW

/-! ### FabricW -/

namespace FabricW
def hh : CmdHdr := ⟨7, false⟩
def sPort (f : SitePort → SitePort) : SitePort := f { siteDefault 0 with phyUp := true, hello := true, link := true }
def fb (p : SitePort) (f : FabricState → FabricState) : Dev := { wd with fab := f { FabricState.reset with ports := [(0, p)], addr := 7, origin := 1 } }
def en (d : Dev) : Dev := d.setFld 0xB0100 0 2 3
def sf (src dst : Nat) : SiteHdr := { port := 0, auth := false, good := true, ackReq := false, alarm := false, dst := dst, src := src, hops := 5, seq := 3, counter := 0 }
def frm : SiteFrame := { typ := 0xA, auth := false, ackReq := true, alarm := false, dst := 9, src := 7, hops := 4, seq := 12, counter := 0, payload := [1] }
def aw (c : Option Cmd) : SiteAwait := { frame := frm, cmd := c }
def adj9 : Adj := { uid := 5, addr := 9, nbrA := 7, nbrB := 0, seq := 3, flags := 0 }
def xA : Dev := en (fb (sPort id) id)
def sl1 : Slot := { slotDefault 0 with st := .started, mode := 3, model := some { modelId := 7, flags := 0, hyps := 1, classes := 2, winLen := 256, casements := 1, panes := 2 ^ 5, spares := [], stormBuf := 65536, latBudget := 1000, code := [(0, 0, 4)], stormProg := [], tables := [1], check := [0x43, 0x4B, 1, 1, 0, 1, 50, 0, 0, 0, 0, 0, 0, 0, 0, 0] ++ [5, 1, 0xFF, 0, 4, 0, 0, 0] ++ [9, 0, 1, 2, 0, 0, 0, 0], symbols := [] } }
def nam : Dev := { xA with mdl := { xA.mdl with slots := [(0, sl1)] } }
def recV : List Byte := [2, 0, stOk] ++ List.replicate 29 0
def srcE : Source := { node := 9, stackId := 1, slot := 2, seq := 4, st := .provisional, at_ := 0 }
def resB : List Byte := [2, 0, 4, 0, 0, 0, 0, 0, 0, 0, 1, 0, 0, 0, 0, 0]
def dsc : Desc := { table := 1, flags := 0, entrySize := 32, entries := 4, base := 0x1001000, assetBits := 2, speedBits := 0, loadBits := 0, tempBits := 0 }
def tbl : Dev := { (xA.setReg 0xB010C 2) with sill := { xA.sill with descs := [(1, dsc)] } }
def tbB : List Byte := [1, 0, 0, 0, 4, 0, 0, 0, 7, 8, 9]
def usr : Dev := { xA with fab := { xA.fab with users := List.replicate 16 (9, [1]) } }
def failS : Dev := en (fb (sPort (fun p => { p with awaits := [aw (some (hostCmdOf 0x64 hh))] })) id)
def ackedS : Dev := en (fb (sPort id) (fun f => { f with tableCmds := [(hostCmdOf 0x63 hh, 1)], acked := [(hostCmdOf 0x63 hh, 12)] }))
def rt : Dev := en (fb (sPort (fun p => { p with nbr := some ⟨5, 12⟩ })) (fun f => { f with routes := [{ adj9 with addr := 12, uid := 5 }] }))
def fwd : Dev := en (fb (sPort (fun p => { p with queue := [{ frm with ackReq := false }] })) id)
def nb : Dev := en (fb (sPort (fun p => { p with nbr := some ⟨5, 9⟩ })) (fun f => { f with routes := [adj9], db := [adj9] }))
def trF : SiteFrame := { frm with src := 12 }
def aw2 : Dev := en (fb (sPort (fun p => { p with nbr := some ⟨5, 12⟩, awaits := [{ frame := trF, cmd := none }] })) (fun f => { f with routes := [{ adj9 with addr := 12 }] }))
def cfl : Dev := { rt with fab := { rt.fab with conflicts := [12] } }
def shutD : Dev := { wd with pwr := { wd.pwr with dom := [(4, .opened)] } }
def fet : Dev := { xA with fab := { xA.fab with users := [(9, [1, 2])], userDropped := 3 } }
def tim : Dev := { wd with stk := { StackState.reset with offs := [(1, -50)] } }
def far : Dev := { rt with fab := { rt.fab with routes := [{ adj9 with addr := 12, nbrB := 20 }, { adj9 with uid := 6, addr := 20, nbrA := 12 }] } }
def tim2 : Dev := { rt with fab := { rt.fab with ports := [(0, sPort (fun p => { p with nbr := some ⟨5, 12⟩, off := { best := none, rounds := 8, done := some (7, 100), rate := 0, t1 := 0 } }))] } }
def tim3 : Dev := { far with fab := { far.fab with ports := tim2.fab.ports } }

/-- Each clause of RoutedFramesAct has a state and operands that meet its hypotheses together. -/
theorem witness_RoutedFramesAct (H : Obligations.RoutedFramesAct) : True := by
  have ⟨conflict, _⟩ := met4 (met5 (H (W { nam with fab := { nam.fab with conflicts := [7], origin := 1 } }) (sf 9 7)))
  have := (met2 conflict) recV
  have ⟨_, own, _⟩ := met4 (met5 (H (W nam) (sf 9 7)))
  have ⟨record, resolve, _, alarm, _, user, _⟩ := met2 own
  have := met5 (record recV 1)
  have := resolve recV (by decide +kernel)
  have := alarm recV
  have := (user recV).1 (by decide +kernel)
  have ⟨_, own, _⟩ := met4 (met5 (H (W { xA with chk := { xA.chk with src := [srcE] } }) (sf 9 7)))
  have := met2 (met5 ((met2 own).2.2.1 resB _ (by decide +kernel) rfl))
  have ⟨_, own, _⟩ := met4 (met5 (H (W tbl) (sf 9 7)))
  have := met3 (met4 ((met2 own).2.2.2.2.1 tbB _ rfl).1)
  have ⟨_, own, _⟩ := met4 (met5 (H (W { xA with sill := { xA.sill with descs := [(1, dsc)] } }) (sf 9 7)))
  have := ((met2 own).2.2.2.2.1 tbB _ rfl).2 (by decide +kernel)
  have ⟨_, own, _⟩ := met4 (met5 (H (W usr) (sf 9 7)))
  have := ((met2 own).2.2.2.2.2.1 recV).2 (by decide +kernel)
  have ⟨_, own, _⟩ := met4 (met5 (H (W (failS.taken 0x64 [] hh)) (sf 9 7)))
  have := met5 ((met2 own).2.2.2.2.2.2.1 _ _ _ _ rfl (by decide +kernel) rfl)
  have ⟨_, own, _⟩ := met4 (met5 (H (W (ackedS.taken 0x63 [] hh)) (sf 9 7)))
  have := (met2 ((met2 ((met2 own).2.2.2.2.2.2.2 12 1 _ _ _)) rfl)) rfl rfl
  have ⟨_, _, route, _⟩ := met4 (met5 (H (W rt) (sf 9 12)))
  have := ((met2 (route recV _)) rfl (by decide +kernel)).1 (by decide +kernel)
  have ⟨_, _, route, _⟩ := met4 (met5 (H (W rt) ({ sf 9 12 with hops := 1 })))
  have := ((met2 (route recV _)) rfl (by decide +kernel)).2 (by decide +kernel)
  have ⟨_, _, _, broadcast, _⟩ := met4 (met5 (H (W nam) ({ sf 9 0xFFFF with hops := 1 })))
  have := met2 (broadcast recV)
  have ⟨_, _, _, _, leave⟩ := met4 (met5 (H (W fwd) (sf 9 7)))
  have := leave 0 _ _ (by decide +kernel) rfl (by decide +kernel)
  exact True.intro

/-- Each clause of FabricTimersAct has a state and operands that meet its hypotheses together. -/
theorem witness_FabricTimersAct (H : Obligations.FabricTimersAct) : True := by
  have ⟨hello, _, _, _, refresh, _, _, _, _, _, release, interrupt⟩ := met2 (met4 (H (W xA) 0))
  have := met2 hello
  have := refresh (by decide +kernel)
  have := (release true).1 (by decide +kernel)
  have := met2 (interrupt true).1
  have ⟨_, noHello, _, noNbr, _, noRefresh, _, _, idle, _, release, interrupt⟩ := met2 (met4 (H w0 0))
  have := noHello (by decide +kernel)
  have := noNbr (by decide +kernel)
  have := met2 noRefresh
  have := idle (by decide +kernel) 0
  have := (release true).2 (by decide +kernel)
  have := (interrupt true).2 (by decide +kernel)
  have ⟨_, _, lost, _, _, _, expiry, _, _, remeasure, _⟩ := met2 (met4 (H (W nb) 0))
  have := lost _ rfl
  have := met2 (expiry adj9)
  have := met2 remeasure
  have ⟨_, _, _, _, _, _, _, awaits, _⟩ := met2 (met4 (H (W (failS.taken 0x64 [] hh)) 0))
  have := met5 ((awaits _ rfl).2.1 _ _ _ rfl)
  have ⟨_, _, _, _, _, _, _, awaits, _⟩ := met2 (met4 (H (W aw2) 0))
  have := (met5 (awaits _ rfl).2.2) _ rfl
  exact True.intro

/-- Each clause of FabricCommands has a state and operands that meet its hypotheses together. -/
theorem witness_FabricCommands (H : Obligations.FabricCommands) : True := by
  have := ((H w0 hh).1 (by decide +kernel) 4).1 (by decide +kernel)
  have := met2 (((H (W shutD) hh).1 (by decide +kernel) 0).2.1)
  have := met2 (((H w0 hh).1 (by decide +kernel) 0).2.2)
  have := ((met2 ((H w0 hh).2.1)) 4).1 (by decide +kernel)
  have := met2 (((met2 ((H w0 hh).2.1)) 0).2)
  have := (met3 ((met2 ((H w0 hh).2.2.1)) 0 12 0 (List.replicate 4089 1))).1 (by decide +kernel)
  have := met2 ((met3 ((met2 ((H w0 hh).2.2.1)) 0 12 0 [1])).2.1)
  have := met3 ((met3 ((met2 ((H (W cfl) hh).2.2.1)) 0 12 0 [1])).2.2.1)
  have := (met3 ((met3 ((met2 ((H (W rt) hh).2.2.1)) 0 12 0 [1])).2.2.2 _)) rfl
  have := (met4 ((met2 ((H (W shutD) hh).2.2.2.1)) 12 [0, 0])).1 (by decide +kernel)
  have := ((met2 ((met4 ((met2 ((H (W rt) hh).2.2.2.1)) 12 [0, 0])).2 _)) rfl).1
  have := ((met2 ((met4 ((met2 ((H (W rt) hh).2.2.2.1)) 12 [0, 0])).2 _)) rfl).2
  have := ((H w0 hh).2.2.2.2.1 (by decide +kernel)).1 (by decide +kernel)
  have := ((H (W fet) hh).2.2.2.2.1 (by decide +kernel)).2 _ _ _ rfl (by decide +kernel)
  have := ((H w0 hh).2.2.2.2.2 (by decide +kernel) 12 1000).1 (.inl (by decide +kernel))
  have := met3 (((H w0 hh).2.2.2.2.2 (by decide +kernel) 1 1000).2.1)
  have := (met2 (((H (W tim) hh).2.2.2.2.2 (by decide +kernel) 1 1000).2.2.1 _)) rfl
  have := ((H (W rt) hh).2.2.2.2.2 (by decide +kernel) 7 1000).2.2.2.1 (by decide +kernel)
  have := ((H (W tim2) hh).2.2.2.2.2 (by decide +kernel) 12 1000).2.2.2.2.1 _ _ _ (by decide +kernel) rfl rfl (by decide +kernel)
  have := ((H (W tim3) hh).2.2.2.2.2 (by decide +kernel) 20 1000).2.2.2.2.2 _ _ _ (by decide +kernel) rfl rfl (by decide +kernel)
  exact True.intro

end FabricW

/-! ### MachineW -/

namespace MachineW
def hh : CmdHdr := ⟨7, false⟩
def c0 : Cmd := hostCmdOf 0x91 hh
def burnD : Dev := { wd with db := { wd.db with burning := some (c0, List.replicate 32 1) } }
def optD : Dev := { wd with rst := { wd.rst with optionLoad := true } }
def slo (op : Byte) : CmdSlot := { op := op, tag := 7, flags := 0, deadline := none, params := [], phase := .queued }
def inSl (op : Byte) (m : MainState) : Dev := { wd with hl := { wd.hl with slots := [slo op] }, sys := { wd.sys with main := m }, rst := { wd.rst with starting := m == .waking } }
def tickD : State := W { wd with lin := { wd.lin with clkOk := false } }
def nbrD : Dev := { wd with fab := { FabricState.reset with ports := [(0, { siteDefault 0 with nbr := some ⟨5, 9⟩ })] } }
def ful : State := { W wd with fuses := { seal0 := true, seal1 := true, seal2 := false, hash := [1, 2] } }
def fulQ : State := { ful with pending := [.resqClrHigh], fuses := { ful.fuses with seal2 := true } }
def ful3 : State := { ful with fuses := fulQ.fuses }

/-- Each clause of IdentityCommandsAnswer has a state that meets its hypotheses. -/
theorem witness_IdentityCommandsAnswer (H : Obligations.IdentityCommandsAnswer) : True := by
  have := (H w0 hh).1 (by decide +kernel)
  have := (H w0 hh).2.1 (by decide +kernel)
  have := met2 ((H w0 hh).2.2)
  exact True.intro

/-- The clause of ResetLeavesTheSpecsValues about registers holds at RST_CAUSE's neighbour. -/
theorem witness_ResetLeavesTheSpecsValues (H : Obligations.ResetLeavesTheSpecsValues) : True := by
  have := H.2.2.2.2.2.2.2.2.2.2.2.2.2.1 0x10104 (by decide)
  exact True.intro

/-- Each clause of StepRunsTheFrontCommand has a state and operands that meet its hypotheses together. -/
theorem witness_StepRunsTheFrontCommand (H : Obligations.StepRunsTheFrontCommand) : True := by
  have := H.1 (Instr.resqClrHigh) w0 []
  have ⟨runs, _⟩ := H.2 w0 (by decide +kernel)
  have := met2 runs
  have ⟨_, inReset, _⟩ := H.2 (W { tickD.dev with rst := { wd.rst with asserted := some .core } }) (by decide +kernel)
  have := met3 inReset
  have ⟨_, _, stopped⟩ := H.2 (W { tickD.dev with rst := { wd.rst with pllLock := false } }) (by decide +kernel)
  have := met2 stopped
  exact True.intro

/-- Each clause of EveryCommandCompletes has a state and operands that meet its hypotheses together. -/
theorem witness_EveryCommandCompletes (H : Obligations.EveryCommandCompletes) : True := by
  have := H.1 (Instr.resqClrHigh) w0
  have := H.2 w0
  exact True.intro

/-- Each clause of FusesAreNeverCleared has a state and operands that meet its hypotheses together. -/
theorem witness_FusesAreNeverCleared (H : Obligations.FusesAreNeverCleared) : True := by
  have := (H.1 fulQ ful3 (by decide +kernel) rfl).1
  have := (H.1 fulQ ful3 (by decide +kernel) rfl).2.1
  have := (H.1 fulQ ful3 (by decide +kernel) rfl).2.2.1 (by decide +kernel)
  have := (H.1 fulQ ful3 (by decide +kernel) rfl).2.2.2.1 (by decide +kernel)
  have := (H.1 fulQ ful3 (by decide +kernel) rfl).2.2.2.2.1 (by decide +kernel)
  have := (H.1 fulQ ful3 (by decide +kernel) rfl).2.2.2.2.2 (by decide +kernel)
  have := H.2.1 ful.fuses
  have := H.2.2.1 (W optD) 0 0 (by decide +kernel) (by decide +kernel)
  have := H.2.2.2.1 (W burnD) _ _ rfl
  have := met2 (H.2.2.2.2 w0 hh)
  exact True.intro

/-- Each clause of HelloWinsTheLossTick has a state and operands that meet its hypotheses together. -/
theorem witness_HelloWinsTheLossTick (H : Obligations.HelloWinsTheLossTick) : True := by
  have := H (W nbrD) 0 _ (by decide +kernel) (by decide +kernel) rfl
  exact True.intro

/-- Each clause of LegalityMatrix has a state and operands that meet its hypotheses together. -/
theorem witness_LegalityMatrix (H : Obligations.LegalityMatrix) : True := by
  have := (met2 (met5 (met5 (met5 (H (W (inSl 0x00 .ajar)) (slo 0x00) [0x00, 0x01, 0x02, 0x03, 0x07, 0x70, 0x93, 0x94] [1, 1, 1, 1, 1] 2 1 .ajar))))).1 rfl
  have := (met2 (met5 (met5 (met5 (H (W (inSl 0x30 .dozing)) (slo 0x30) [0x20, 0x21, 0x22, 0x23, 0x24, 0x26, 0x30, 0x31, 0x32, 0x33, 0x34, 0x36, 0x40, 0x41, 0x42, 0x43, 0x60, 0x61, 0x62, 0x63, 0x64, 0x65, 0x83, 0x90, 0x91] [2, 0, 1, 1, 0] 4 0 .dozing))))).2.1 rfl
  have := (met2 (met5 (met5 (met5 (H (W (inSl 0x10 .waking)) (slo 0x10) [0x08, 0x10, 0x11, 0x13, 0x14, 0x25, 0x35, 0x50, 0x51, 0x52, 0x53, 0x54, 0x55, 0x56, 0x57, 0x58, 0x59, 0x71, 0x72, 0x73, 0x80, 0x81, 0x82, 0x84, 0x85, 0x92] [2, 0, 1, 1, 1] 0 2 .waking))))).2.2 rfl
  exact True.intro

end MachineW

end Sys2Proof.Tests
end

section
/-! PROOFS. How a command is judged by the legality matrix of 14_device_states.md (R387 to R389), and what the judgement leaves
behind. -/
namespace Sys2Proof.Machine

/-! ### Fields beside a written field -/

/-- A field of a number depends on the bits up to its own top only. -/
theorem fld_mod_two_pow (v : Nat) {lo n k : Nat} (h : lo + n ≤ k) : fld (v % 2 ^ k) lo n = fld v lo n := by
  simp only [fld, ← Nat.mod_mul_right_div_self, ← Nat.pow_add, Nat.mod_mod_of_dvd _ (Nat.pow_dvd_pow 2 h)]

/-- Writing a field keeps the bits below it. -/
theorem wset_mod_two_pow (w : Word) {lo : Nat} (n v : Nat) (h : lo ≤ 32) :
    (wset w lo n v).toNat % 2 ^ lo = w.toNat % 2 ^ lo := by
  have hle : 2 ^ lo * wfld w lo n ≤ w.toNat := by rw [Nat.mul_comm]; exact wfld_le w lo n
  simp only [wset, BitVec.toNat_ofNat]
  rw [Nat.mod_mod_of_dvd _ (Nat.pow_dvd_pow 2 h), Nat.add_mul_mod_self_right, Nat.mul_comm, Nat.sub_mul_mod hle]

/-- A field below the one that is written reads as before. -/
theorem fldAt_setFld_below (d : Dev) (a : Nat) {lo n lo' : Nat} (n' v : Nat) (h : lo + n ≤ lo') (h' : lo' ≤ 32) :
    (d.setFld a lo' n' v).fldAt a lo n = d.fldAt a lo n := by
  simp only [Dev.fldAt, Dev.setFld, reg_setReg_same, wfld]
  rw [← fld_mod_two_pow _ h, wset_mod_two_pow _ _ _ h', fld_mod_two_pow _ h]

theorem satInc_lt (n v : Nat) : satInc n v < 2 ^ n := by
  have := Nat.two_pow_pos n
  unfold satInc
  split <;> omega

/-- A counter that is incremented reads as its old value incremented. -/
theorem fldAt_satFld (d : Dev) (a lo n : Nat) (h : lo + n ≤ 32) : (d.satFld a lo n).fldAt a lo n = satInc n (d.fldAt a lo n) := by
  rw [Dev.satFld, fldAt_setFld d a lo n _ h, Nat.mod_eq_of_lt (satInc_lt n _)]

/-! ### The legality matrix (R387) -/

/-- An entry of the matrix as the statement writes it. -/
def Legal.code : Legal → Nat
  | .n => 0 | .y => 1 | .o => 2

theorem Legal.code_injective : Function.Injective Legal.code := by
  intro a b
  cases a <;> cases b <;> decide

/-- The columns of the matrix. -/
def matrixColumns : List MainState := [.waking, .doorstep, .ajar, .opened, .dozing]

/-- The rows of the matrix: opcodes, and their entry in each column. -/
def matrixRows : List (List Nat × List Nat) := [
  ([0x00, 0x01, 0x02, 0x03, 0x07, 0x70, 0x93, 0x94], [1, 1, 1, 1, 1]),
  ([0x04], [1, 0, 0, 0, 0]),
  ([0x05], [0, 1, 0, 0, 0]),
  ([0x06], [1, 0, 1, 1, 1]),
  ([0x08, 0x10, 0x11, 0x13, 0x14, 0x25, 0x35, 0x50, 0x51, 0x52, 0x53, 0x54, 0x55, 0x56, 0x57, 0x58, 0x59,
    0x71, 0x72, 0x73, 0x80, 0x81, 0x82, 0x84, 0x85, 0x92], [2, 0, 1, 1, 1]),
  ([0x12], [2, 0, 1, 0, 0]),
  ([0x20, 0x21, 0x22, 0x23, 0x24, 0x26, 0x30, 0x31, 0x32, 0x33, 0x34, 0x36, 0x40, 0x41, 0x42, 0x43,
    0x60, 0x61, 0x62, 0x63, 0x64, 0x65, 0x83, 0x90, 0x91], [2, 0, 1, 1, 0])]

/-- Every opcode of a row is assigned, and the model judges it by the row's entries. -/
theorem legal_of_matrixRow : ∀ r ∈ matrixRows, ∀ op ∈ r.1,
    assigned op = true ∧ matrixColumns.map (fun m => (legal op m).code) = r.2 := by decide

/-- The entry of a row in a column is the model's entry for that opcode and state. -/
theorem legal_code_of_entry {ops entries : List Nat} {op k e : Nat} {m : MainState} (hrow : (ops, entries) ∈ matrixRows)
    (hop : op ∈ ops) (hm : matrixColumns[k]? = some m) (he : entries[k]? = some e) :
    assigned op = true ∧ (legal op m).code = e := by
  obtain ⟨hassigned, hentries⟩ : assigned op = true ∧ matrixColumns.map (fun m => (legal op m).code) = entries :=
    legal_of_matrixRow _ hrow op hop
  exact ⟨hassigned, by simpa [← hentries, hm] using he⟩

/-! ### Judging a command (R388) -/

/-- The SPI link of a master serves every opcode (R405, R414). -/
theorem spiServes_of_master (d : Dev) (op : Nat) (hrole : d.stk.role = 0) (hformer : d.stk.former = false)
    (hsel : d.stackId = 0 ∨ bitOf d.rst.straps 0 = false) : spiServes d op = true := by
  obtain h | h := hsel <;> simp [spiServes, h, hrole, hformer]

/-- Outside ALARM and unsealed, the deadbolt denies no opcode (R456, R475, R505). -/
theorem deadboltDenies_of_calm (d : Dev) (op : Nat) (halarm : d.lin.alarm = false) (hsealed : d.db.sealed = false) :
    deadboltDenies d op = none := by
  simp [deadboltDenies, Dev.inAlarm, halarm, hsealed, firstFail]

/-- At N a command is refused by the main state (R387, R388). -/
theorem judge_of_illegal (d : Dev) (c : Cmd) (f : Cmd → Dev → Dev) (hassigned : assigned c.op.toNat = true)
    (hlegal : legal c.op.toNat d.sys.main = .n) : d.judge c f = d.stateRefused c := by
  simp [Dev.judge, hassigned, hlegal]

section
variable (d : Dev) (c : Cmd) (f : Cmd → Dev → Dev) (hassigned : assigned c.op.toNat = true) (hbolted : d.dbg.bolted = false)
  (hserves : spiServes d c.op.toNat = true)
include hassigned hbolted hserves

/-- At Y a command has its own effect, where the deadbolt lets it through. -/
theorem judge_of_legal (hlegal : legal c.op.toNat d.sys.main = .y) (hdeny : deadboltDenies d c.op.toNat = none) :
    d.judge c f = f c d := by
  simp [Dev.judge, hassigned, hlegal, hbolted, hserves, hdeny]

/-- At O a command has its own effect once AJAR is entered (R380). -/
theorem judge_of_opening (hlegal : legal c.op.toNat d.sys.main = .o) (hdeny : deadboltDenies d.enterAjar c.op.toNat = none) :
    d.judge c f = f c d.enterAjar := by
  simp [Dev.judge, hassigned, hlegal, hbolted, hserves, hdeny]

end

/-! ### Entering AJAR (R380, R384) -/

/-- A trace event touches the debug block only. -/
theorem trace_dbg_only (d : Dev) (src kind : Nat) (data : List Byte) :
    d.trace src kind data = { d with dbg := (d.trace src kind data).dbg } := by
  unfold Dev.trace
  split
  · rfl
  · split
    · rfl
    · split
      · rfl
      · split
        · rfl
        · rfl

/-- A change of main state that is reported touches the debug block and the note of the change. -/
theorem stateChanged_frame (d : Dev) : ∃ g b, d.stateChanged = { d with dbg := g, sys := { d.sys with stateNote := b } } := by
  unfold Dev.stateChanged
  rw [trace_dbg_only]
  dsimp only
  split
  · exact ⟨_, true, rfl⟩
  · exact ⟨_, d.sys.stateNote, rfl⟩

/-- The main state is the one set; nothing but the debug block and the system's own record changes. -/
theorem setMain_frame (d : Dev) (m : MainState) : ∃ g y, d.setMain m = { d with dbg := g, sys := y } ∧ y.main = m := by
  unfold Dev.setMain
  split
  next hsame => exact ⟨d.dbg, d.sys, rfl, eq_of_beq hsame⟩
  next =>
    dsimp only
    split
    · rw [trace_dbg_only]
      exact ⟨_, _, rfl, rfl⟩
    · obtain ⟨g, b, h⟩ := stateChanged_frame { d with sys := { d.sys with main := m, since := d.nowWord } }
      exact ⟨g, _, h, rfl⟩

/-- Entering AJAR ends the start with success, and leaves the host link, the deadbolt and the alarm latch alone (R363, R380). -/
theorem enterAjar_effect (d : Dev) : d.enterAjar.sys.main = .ajar ∧ d.enterAjar.rst.starting = false ∧ d.enterAjar.lin.failCount = 0
    ∧ d.enterAjar.hl = d.hl ∧ d.enterAjar.db = d.db ∧ d.enterAjar.lin.alarm = d.lin.alarm := by
  obtain ⟨g, y, h, hmain⟩ := setMain_frame
    { d with rst := { d.rst with starting := false }, lin := { d.lin with failCount := 0 } } .ajar
  simp [Dev.enterAjar, h, hmain]

/-! ### The one queued command (R389, R524) -/

/-- Of one queued command, that one is taken next. -/
theorem pickSlot_singleton (waking : Bool) (sl : CmdSlot) : pickSlot waking [sl] = some sl := by
  unfold pickSlot
  split
  next found hfound => simpa using List.mem_of_find?_eq_some hfound
  next =>
    split
    next found hfound => simpa using List.mem_of_find?_eq_some hfound
    next => rfl

section
variable {d : Dev} {sl : CmdSlot} (hslots : d.hl.slots = [sl])
include hslots

/-- The one command that holds a slot becomes taken. -/
theorem markTaken_singleton : d.markTaken sl = d.withHl { d.hl with slots := [{ sl with phase := .taken }] } := by
  simp [Dev.markTaken, Dev.withHl, hslots]

/-- The one queued command is taken and judged. -/
theorem takeCommand_singleton (hqueued : sl.phase = .queued) (htakes : d.takes sl.op = true) : d.takeCommand false =
    (d.withHl { d.hl with slots := [{ sl with phase := .taken }] }).judge (sl.cmd none) (runOpcode sl.flags sl.params) := by
  have hpick : pickSlot (d.sys.main == .waking) d.hl.queuedSlots = some sl := by
    simp [HostLink.queuedSlots, hslots, hqueued, pickSlot_singleton]
  simp [Dev.takeCommand, hpick, htakes, Dev.nearDeadline, markTaken_singleton hslots]

end

/-! ### STATE_REFUSED (R388)

What a device with another register file holds is said for any register file, so that no proof evaluates the one that holds the
counted refusal. -/

/-- The device with another register file: everything else stays. -/
def Dev.withRegs (d : Dev) (t : Tab Word) : Dev := { d with regs := t }

theorem satFld_setFld_eq_withRegs (d : Dev) (a lo n lo' n' v : Nat) :
    (d.satFld a lo n).setFld a lo' n' v = d.withRegs ((d.satFld a lo n).setFld a lo' n' v).regs := rfl

/-- The state word holds nothing of the register file (R378). -/
theorem stateWord_withRegs (d : Dev) (t : Tab Word) : (d.withRegs t).stateWord = d.stateWord := rfl

/-- A reply of STATE_REFUSED is flagged (R528). -/
theorem replyFlagged_stateRefused (notify : Bool) : replyFlagged notify stStateRefused = true := by
  cases notify <;> rfl

/-- The register file once DEV_REFUSED has counted a refusal of an opcode. -/
def Dev.refusalRegs (d : Dev) (op : Byte) : Tab Word := ((d.satFld 0x108 0 16).setFld 0x108 16 8 op.toNat).regs

theorem refusal_counted (d : Dev) (op : Byte) :
    (d.satFld 0x108 0 16).setFld 0x108 16 8 op.toNat = d.withRegs (d.refusalRegs op) := satFld_setFld_eq_withRegs ..

theorem refusalRegs_count (d : Dev) (op : Byte) :
    (d.withRegs (d.refusalRegs op)).fldAt 0x108 0 16 = satInc 16 (d.fldAt 0x108 0 16) := by
  rw [← refusal_counted, fldAt_setFld_below _ _ _ _ (by decide) (by decide), fldAt_satFld _ _ _ _ (by decide)]

theorem refusalRegs_op (d : Dev) (op : Byte) : (d.withRegs (d.refusalRegs op)).fldAt 0x108 16 8 = op.toNat := by
  rw [← refusal_counted, fldAt_setFld _ _ _ _ _ (by decide), Nat.mod_eq_of_lt op.isLt]

/-- A refusal by the main state is a reply with the state word, after its count. -/
theorem stateRefused_eq (d : Dev) (c : Cmd) :
    d.stateRefused c = (d.withRegs (d.refusalRegs c.op)).reply c stStateRefused (leBytes 4 d.stateWord) := by
  unfold Dev.stateRefused
  dsimp only
  rw [refusal_counted, stateWord_withRegs]

/-- STATE_REFUSED to the command of the one taken slot enters the empty stream and frees the slot (R519, R526, R528). -/
theorem reply_stateRefused_of_taken (d : Dev) (t : Tab Word) (sl : CmdSlot) (data : List Byte)
    (hslots : d.hl.slots = [{ sl with phase := .taken }]) (hreplies : d.hl.linkReplies = []) (hstream : d.hl.stream = [])
    (hdata : data.length ≤ 16376) : (d.withRegs t).reply (sl.cmd none) stStateRefused data =
      { d with
        regs := t
        hl := { d.hl with slots := [] }.push
          { bytes := replyPacket sl.op sl.tag stStateRefused data, flagged := true, verdict := false } } := by
  have hanswered := reply_taken (d.withRegs t) sl.op ⟨sl.tag, bitOf sl.flags.toNat 1⟩ stStateRefused data _ hslots rfl rfl
    hreplies hstream hdata
  rw [Dev.answered, replyFlagged_stateRefused] at hanswered
  exact hanswered

/-- Settles O59: the row's entry is the model's entry `legal`, and the one queued command is judged by it (R387, R388). -/
theorem legalityMatrix : Obligations.LegalityMatrix := by
  intro s sl ops entries k e m hrow hm he hop hmain hclocked hslots hqueued hreplies hstream htakes hrole hformer hsel hbolted
    halarm hsealed x
  obtain ⟨hassigned, hcode⟩ := legal_code_of_entry hrow hop hm he
  have hexec : exec (.commandTaken false) s = .next (s.withDev (x.judge (sl.cmd none) (runOpcode sl.flags sl.params))) :=
    (onDev_clocked s _ hclocked).trans (by rw [takeCommand_singleton hslots hqueued htakes])
  have hserves : spiServes x sl.op.toNat = true := spiServes_of_master x _ hrole hformer hsel
  rw [hexec]
  have hdecide : ∀ entry : Legal, e = entry.code → legal (sl.cmd none).op.toNat x.sys.main = entry := by
    rintro entry rfl
    subst hmain
    exact Legal.code_injective hcode
  refine ⟨fun hy => ?_, fun hn => ?_, fun ho => ?_⟩
  · have hcalm := deadboltDenies_of_calm x (sl.cmd none).op.toNat halarm hsealed
    rw [judge_of_legal x (sl.cmd none) _ hassigned hbolted hserves (hdecide .y hy) hcalm]
  · rw [judge_of_illegal x (sl.cmd none) _ hassigned (hdecide .n hn), stateRefused_eq,
      reply_stateRefused_of_taken x _ sl _ rfl hreplies hstream (by simp [leBytes_length])]
    exact ⟨_, rfl, rfl, refusalRegs_count x sl.op, refusalRegs_op x sl.op⟩
  · obtain ⟨hajar, hstarted, hcleared, hhl, hdb, hlatch⟩ := enterAjar_effect x
    have hcalm := deadboltDenies_of_calm x.enterAjar (sl.cmd none).op.toNat (hlatch.trans halarm) (by rw [hdb]; exact hsealed)
    rw [judge_of_opening x (sl.cmd none) _ hassigned hbolted hserves (hdecide .o ho) hcalm]
    exact ⟨x.enterAjar, rfl, hajar, hstarted, hcleared, congrArg HostLink.slots hhl⟩

end Sys2Proof.Machine
end

section
/-! PROOFS. A neighbour of a site port on the tick of its loss (15_stacks_and_fabric.md, R418 and R422). -/
namespace Sys2Proof.Machine

/-- Counting in a register's field changes the register file only. -/
theorem satFld_regs_only (d : Dev) (a lo n : Nat) : d.satFld a lo n = { d with regs := (d.satFld a lo n).regs } := rfl

/-- Counting in a register's field leaves the site ports as they were. -/
@[simp] theorem Dev.site_satFld (d : Dev) (p a lo n : Nat) : (d.satFld a lo n).site p = d.site p := rfl

/-- Counting in a register's field leaves every other register as it was. -/
theorem reg_satFld_other (d : Dev) {a b : Nat} (lo n : Nat) (h : b ≠ a) : (d.satFld a lo n).reg b = d.reg b :=
  reg_setFld_other d lo n _ h

/-- A HELLO on the tick of the loss counts the near miss in LINK_NEARMISS.FABRIC, and the loss does nothing else (R422). -/
theorem neighbourLost_of_hello {d : Dev} {p : Nat} {n : Nbr} (hfound : (d.site p).nbr = some n) :
    d.neighbourLost p true = d.satFld 0xB0110 16 16 := by
  simp [Dev.neighbourLost, hfound]

/-- Settles O60: the loss is then only the count of the near miss, which touches that one field of the register file. -/
theorem helloWinsTheLossTick : Obligations.HelloWinsTheLossTick := by
  intro s p n _ hclocked hfound
  have hexec : exec (.neighbourLost p true) s = .next (s.withDev (s.dev.satFld 0xB0110 16 16)) :=
    (onDev_clocked s _ hclocked).trans (by rw [neighbourLost_of_hello hfound])
  have hcounted := fldAt_satFld s.dev 0xB0110 16 16 (by decide)
  have hstack : (s.dev.satFld 0xB0110 16 16).fldAt 0xB0110 0 16 = s.dev.fldAt 0xB0110 0 16 :=
    fldAt_setFld_below s.dev 0xB0110 16 _ (by decide) (by decide)
  exact ⟨_, hexec, satFld_regs_only .., by rwa [Dev.site_satFld], hcounted, hstack, fun _ => reg_satFld_other s.dev 16 16⟩

end Sys2Proof.Machine
end

section
/-! PROOFS. The fuses of the deadbolt (17_deadbolt.md R455, R457, R481): nothing clears them, and what the device holds of them is
what was last read. -/
namespace Sys2Proof.Machine

/-! ### What a burn can do to the fuses (R455, R457) -/

/-- The fuses `g` are the fuses `f` with perhaps more burned: nothing of `f` is cleared, and the hash keeps to its 256 bits. -/
structure Fuses.BurnedFrom (f g : Fuses) : Prop where
  length_le : f.hash.length ≤ 32 → g.hash.length ≤ 32
  hash_prefix : f.hash <+: g.hash
  seal0 : f.seal0 = true → g.seal0 = true
  seal1 : f.seal1 = true → g.seal1 = true
  seal2 : f.seal2 = true → g.seal2 = true

theorem Fuses.BurnedFrom.refl (f : Fuses) : f.BurnedFrom f := ⟨id, List.prefix_rfl, id, id, id⟩

theorem Fuses.BurnedFrom.trans {f g h : Fuses} (fg : f.BurnedFrom g) (gh : g.BurnedFrom h) : f.BurnedFrom h :=
  ⟨gh.length_le ∘ fg.length_le, fg.hash_prefix.trans gh.hash_prefix, gh.seal0 ∘ fg.seal0, gh.seal1 ∘ fg.seal1, gh.seal2 ∘ fg.seal2⟩

/-- A burn, however far it comes, burns only what is not burned yet. -/
theorem Fuses.burnedFrom_burn (f : Fuses) (h : List Byte) (k : Nat) : f.BurnedFrom (f.burn h k) where
  length_le hle := by
    simp only [Fuses.burn, List.length_append, List.length_drop, List.length_take]
    omega
  hash_prefix := List.prefix_append ..
  seal0 h0 := by simp [Fuses.burn, h0]
  seal1 h1 := by simp [Fuses.burn, h1]
  seal2 h2 := by simp [Fuses.burn, h2]

/-- The device is sealed when two of the three bits are blown (R455). -/
theorem Fuses.isSealed_iff (f : Fuses) : f.isSealed = true ↔ (f.seal0 = true ∧ f.seal1 = true) ∨ (f.seal0 = true ∧ f.seal2 = true)
    ∨ (f.seal1 = true ∧ f.seal2 = true) := by
  have hvotes : ∀ a b c : Bool, decide (b2n a + b2n b + b2n c ≥ 2) = true ↔
      (a = true ∧ b = true) ∨ (a = true ∧ c = true) ∨ (b = true ∧ c = true) := by decide
  exact hvotes f.seal0 f.seal1 f.seal2

theorem Fuses.BurnedFrom.isSealed {f g : Fuses} (fg : f.BurnedFrom g) : f.isSealed = true → g.isSealed = true := by
  simp only [Fuses.isSealed_iff]
  exact Or.imp (And.imp fg.seal0 fg.seal1) (Or.imp (And.imp fg.seal0 fg.seal2) (And.imp fg.seal1 fg.seal2))

/-! ### What a step can do to the fuses -/

/-- A read of the fuses burns them on where a reset had cut a burn (R481). -/
theorem fusesRead_burnedFrom (s : State) : s.fuses.BurnedFrom (fusesRead s).fuses := by
  unfold fusesRead
  split
  · exact .refl _
  · exact Fuses.burnedFrom_burn ..

theorem sealDone_burnedFrom (s : State) : s.fuses.BurnedFrom (sealDone s).fuses := by
  unfold sealDone
  split
  · exact .refl _
  · exact (fusesRead_burnedFrom s).trans (Fuses.burnedFrom_burn ..)

theorem optionLoadComplete_burnedFrom (straps time : Nat) (s : State) :
    s.fuses.BurnedFrom (optionLoadComplete straps time s).fuses := by
  unfold optionLoadComplete
  split
  · exact .refl _
  · exact fusesRead_burnedFrom s

/-- A command changes the fuses by burning them or not at all. -/
theorem exec_burnedFrom {i : Instr} {s t : State} (h : exec i s = .next t) : s.fuses.BurnedFrom t.fuses := by
  by_cases hseal : i = .sealBurnComplete
  · subst hseal
    obtain rfl : sealDone s = t := Host.Outcome.next.inj h
    exact sealDone_burnedFrom s
  · by_cases hload : ∃ a b, i = .optionLoadComplete a b
    · obtain ⟨a, b, rfl⟩ := hload
      obtain rfl : optionLoadComplete a b s = t := Host.Outcome.next.inj h
      exact optionLoadComplete_burnedFrom ..
    · obtain ⟨d, hd⟩ := exec_dev i s hseal fun a b hab => hload ⟨a, b, hab⟩
      obtain rfl : { s with dev := d } = t := Host.Outcome.next.inj (hd.symm.trans h)
      exact .refl _

/-- A step, of a command or of a tick, changes the fuses by burning them or not at all. -/
theorem step_burnedFrom {s t : State} (h : step s = .next t) : s.fuses.BurnedFrom t.fuses := by
  unfold step at h
  split at h
  next =>
    obtain rfl : tick s = t := Host.Outcome.next.inj h
    exact .refl _
  next c rest _ => exact exec_burnedFrom (s := { s with pending := rest }) h

/-! ### What leaves the deadbolt's part alone: traces, changes of main state, frames and replies -/

/-- A fold whose every step keeps a part keeps that part. -/
theorem foldl_keeps {α β γ : Type} (part : α → γ) (f : α → β → α) (h : ∀ a b, part (f a b) = part a) (l : List β) (a : α) :
    part (l.foldl f a) = part a := by
  induction l generalizing a with
  | nil => rfl
  | cons b l ih => rw [List.foldl_cons, ih, h]

@[simp] theorem trace_db (d : Dev) (src kind : Nat) (data : List Byte) : (d.trace src kind data).db = d.db := by
  rw [trace_dbg_only]

@[simp] theorem setMain_db (d : Dev) (m : MainState) : (d.setMain m).db = d.db := by
  obtain ⟨_, _, h, _⟩ := setMain_frame d m
  rw [h]

@[simp] theorem stkPut_db (d : Dev) (p : Nat) (f : StkFrame) : (d.stkPut p f).db = d.db :=
  (apply_ite Dev.db _ _ _).trans (ite_self d.db)

@[simp] theorem creditBack_db (d : Dev) (p vc : Nat) : (d.creditBack p vc).db = d.db := by
  unfold Dev.creditBack Dev.stkNow
  split
  · split <;> simp
  · rfl

@[simp] theorem stkTransmit_db (d : Dev) (p : Nat) (f : StkFrame) : (d.stkTransmit p f).db = d.db := by
  unfold Dev.stkTransmit
  dsimp only
  split <;> simp

@[simp] theorem stkDrain_db (n : Nat) (d : Dev) (p : Nat) : (Dev.stkDrain n d p).db = d.db := by
  induction n generalizing d with
  | zero => rfl
  | succ n ih =>
    rw [Dev.stkDrain]
    dsimp only
    split
    · rfl
    · split
      · rfl
      · simp [ih]

@[simp] theorem stkSend_db (d : Dev) (dst typ vc : Nat) (payload : List Byte) : (d.stkSend dst typ vc payload).2.db = d.db := by
  unfold Dev.stkSend
  split
  · rfl
  · unfold Dev.stkOut
    dsimp only
    split
    · rfl
    · simp [Dev.stkQueue]

/-- A reply, on the host link or to the master, leaves the deadbolt alone. -/
@[simp] theorem reply_db (d : Dev) (c : Cmd) (st : Byte) (data : List Byte) : (d.reply c st data).db = d.db := by
  unfold Dev.reply
  split
  · simp
  · split
    · dsimp only
      split <;> rfl
    · rfl

/-! ### What the device holds of the fuses

A reset clears most of the deadbolt's part, but not what was read of the fuses (R353, R455). -/

/-- SEALED and the key hash as they were last read. -/
def Dev.fuseImage (d : Dev) : Bool × List Byte := (d.db.sealed, d.db.hash)

/-- SEALED and the key hash that a read of the fuses gives. -/
def Fuses.image (f : Fuses) : Bool × List Byte := (f.isSealed, f.hash)

theorem readFuses_fuseImage (d : Dev) (f : Fuses) : (d.readFuses f).fuseImage = f.image := rfl

/-- What keeps the deadbolt's part keeps what was read of the fuses. -/
theorem fuseImage_congr {d e : Dev} (h : d.db = e.db) : d.fuseImage = e.fuseImage := by
  rw [Dev.fuseImage, h, Dev.fuseImage]

/-! ### Resets (R353) -/

theorem cutCommit_db (d : Dev) : d.cutCommit.db = d.db := by
  unfold Dev.cutCommit
  split
  · rfl
  · dsimp only [Dev.draw]
    repeat' split
    all_goals rfl

theorem clearSys_db (d : Dev) : d.clearSys.db = d.db := cutCommit_db _

theorem clearPor_db (d : Dev) : d.clearPor.db = d.db := by
  unfold Dev.clearPor
  dsimp only
  split <;> rfl

theorem spareAll_db (d : Dev) : d.sparePower.spareFront.spareDoor.spareJamb.db = d.db := rfl

theorem clearPanes_db (d : Dev) : d.clearPanes.db = d.db := by
  unfold Dev.clearPanes
  rw [foldl_keeps Dev.db]
  intros
  rfl

@[simp] theorem grant_db (d : Dev) (r s : Nat) : (d.grant r s).db = d.db := by
  unfold Dev.grant Dev.netSend
  dsimp only
  split
  · split <;> rfl
  · rfl

theorem grantsFor_db (d : Dev) (c : Nat) : (d.grantsFor c).db = d.db := by
  unfold Dev.grantsFor
  rw [foldl_keeps Dev.db, foldl_keeps Dev.db]
  · exact fun _ _ => grant_db ..
  · intro d r
    split <;> simp

theorem spareDebug_db (d : Dev) : d.spareDebug.db = d.db := rfl

theorem clearCore_fuseImage (d : Dev) : d.clearCore.fuseImage = d.fuseImage := by
  unfold Dev.clearCore
  rw [foldl_keeps Dev.fuseImage]
  · dsimp only [Dev.fuseImage]
    rw [spareDebug_db, clearPanes_db]
    rfl
  · intro d c
    split
    · exact fuseImage_congr (grantsFor_db d c)
    · rfl

theorem clear_fuseImage (d : Dev) (l : RstLevel) : (d.clear l).fuseImage = d.fuseImage := by
  have hcore : d.sparePower.spareFront.spareDoor.spareJamb.clearCore.fuseImage = d.fuseImage :=
    (clearCore_fuseImage _).trans (fuseImage_congr (spareAll_db d))
  have hsys : d.clearSys.clearCore.fuseImage = d.fuseImage := (clearCore_fuseImage _).trans (fuseImage_congr (clearSys_db d))
  have hpor : d.clearSys.clearCore.clearPor.fuseImage = d.fuseImage := (fuseImage_congr (clearPor_db _)).trans hsys
  cases l with
  | core => exact hcore
  | sys => exact hsys
  | por => exact hpor
  | lintelPor => exact hpor

theorem markSeen_db (d : Dev) : d.markSeen.db = d.db := by
  unfold Dev.markSeen
  rw [foldl_keeps Dev.db]
  intros
  rfl

/-- No reset request, of whatever level, changes what was read of the fuses (R353, R455). -/
theorem requestReset_fuseImage (d : Dev) (cause : Nat) (level : RstLevel) :
    (d.requestReset cause level).fuseImage = d.fuseImage := by
  unfold Dev.requestReset
  exact (fuseImage_congr (markSeen_db _)).trans (clear_fuseImage d _)

theorem startFail_fuseImage (d : Dev) (reason : Nat) : (d.startFail reason).fuseImage = d.fuseImage := by
  unfold Dev.startFail Dev.request
  dsimp only
  split
  · rfl
  · split
    · rfl
    · exact requestReset_fuseImage ..

/-! ### Option load (R360) -/

theorem hingeStart_db (d : Dev) : d.hingeStart.db = d.db := by
  unfold Dev.hingeStart
  dsimp only
  split
  · simp [Dev.enterDoorstep]
  · rfl

theorem openStart_db (d : Dev) (n : Nat) : (d.openStart n).db = d.db := by
  unfold Dev.openStart Dev.shut
  rw [trace_db]
  dsimp only [Dev.setDom]
  split <;> split <;> rfl

/-- Option load keeps what was read of the fuses before its steps: its own reads leave the deadbolt alone, and the start that
follows them, whether it fails, or goes on, with DOOR opening or not, changes nothing of what was read (R360, R366). -/
theorem optionLoaded_fuseImage (d : Dev) (straps time : Nat) : (d.optionLoaded straps time).fuseImage = d.fuseImage := by
  unfold Dev.optionLoaded
  dsimp only
  generalize hread : (if (Dev.setReg _ _ _).db.sealed = true then Dev.setFld _ 0xC0000 0 1 0 else _) = e
  have hdb : e.db = d.db := by rw [← hread, apply_ite Dev.db, Dev.setFld_db, ite_self, Dev.setReg_db]
  rw [← fuseImage_congr hdb]
  split
  · exact startFail_fuseImage ..
  · split
    · exact fuseImage_congr ((openStart_db ..).trans (hingeStart_db _))
    · exact fuseImage_congr (hingeStart_db _)

/-- After a read, what the device holds is what the fuses are, those burned by the read included (R455, R481). -/
theorem fusesRead_fuseImage (s : State) : (fusesRead s).dev.fuseImage = (fusesRead s).fuses.image := by
  unfold fusesRead
  split <;> rfl

theorem optionLoadComplete_fuseImage {s : State} (straps time : Nat) (hload : s.dev.rst.optionLoad = true)
    (hclocked : s.dev.clocked = true) :
    (optionLoadComplete straps time s).dev.fuseImage = (optionLoadComplete straps time s).fuses.image := by
  simp only [optionLoadComplete, hload, hclocked, Bool.not_true, Bool.or_self, Bool.false_eq_true, if_false]
  exact (optionLoaded_fuseImage ..).trans (fusesRead_fuseImage s)

theorem sealDone_fuseImage {s : State} {c : Cmd} {h : List Byte} (hburning : s.dev.db.burning = some (c, h)) :
    (sealDone s).dev.fuseImage = (sealDone s).fuses.image := by
  simp only [sealDone, hburning]
  exact (fuseImage_congr (reply_db ..)).trans (readFuses_fuseImage ..)

/-! ### DB_STATUS -/

theorem regView_dbStatus (d : Dev) : d.regView 0xD0000 = wordOf d.dbStatus := rfl

/-- A command that takes its slot changes nothing that DB_STATUS shows. -/
theorem dbStatus_taken (d : Dev) (op : Byte) (ps : List Byte) (h : CmdHdr) : (d.taken op ps h).dbStatus = d.dbStatus := rfl

/-- The lowest bit of DB_STATUS is SEALED. -/
theorem dbStatus_sealed (d : Dev) : (wordOf d.dbStatus).getLsbD 0 = d.db.sealed := by
  have hle : b2n d.db.sealed ≤ 1 := by cases d.db.sealed <;> decide
  have hlow : d.dbStatus % 2 = b2n d.db.sealed := by
    unfold Dev.dbStatus
    omega
  rw [wordOf, BitVec.getLsbD_ofNat, Nat.testBit_zero, hlow]
  cases d.db.sealed <;> rfl

/-- READ_REG of the one word DB_STATUS answers that word and does nothing else (R556). -/
theorem cmdReadReg_dbStatus (d : Dev) (c : Cmd) (hopen : d.regOpen 0xD0000 = true) :
    cmdReadReg 0xD0000 1 c d = d.reply c stOk (wordBytes (wordOf d.dbStatus)) := by
  have hmapped : regMapped 0xD0000 = true := by decide
  simp [cmdReadReg, hmapped, hopen, Dev.readWords, Dev.busRead, regView_dbStatus]

/-- A served READ_REG of DB_STATUS is answered with that word, and the device is otherwise as it was. -/
theorem exec_readReg_dbStatus (s : State) (h : CmdHdr) (hserves : s.dev.serves 0x07 = true)
    (hopen : s.dev.regOpen 0xD0000 = true) : exec (.readReg h 0xD0000 1) s =
      .next (s.withDev (s.dev.answered 0x07 h stOk (wordBytes (wordOf s.dev.dbStatus)))) := by
  obtain ⟨hreplies, hstream⟩ := serves_free s.dev 0x07 hserves
  have hexec : exec (.readReg h 0xD0000 1) s =
      .next (s.withDev (Dev.hostCmd 0x07 (wordBytes 0xD0000 ++ leBytes 2 1 ++ [0, 0]) h (cmdReadReg 0xD0000 1) s.dev)) :=
    onDev_clocked s _ (serves_clocked s.dev 0x07 hserves)
  rw [hexec, hostCmd_serves _ _ _ _ _ hserves, cmdReadReg_dbStatus (s.dev.taken _ _ h) _ hopen, dbStatus_taken,
    reply_of_taken s.dev _ _ h stOk _ hreplies hstream (by simp [wordBytes, leBytes_length])]

/-- Settles O57: a step burns fuses or leaves them alone, and SEALED with the key hash is the image of the fuses after each of the
two reads, which DB_STATUS shows (R455). -/
theorem fusesAreNeverCleared : Obligations.FusesAreNeverCleared := by
  refine ⟨fun s t hle hstep => ?_, Fuses.isSealed_iff, fun s a b hclocked hload => ?_, fun s c h hburning => ?_,
    fun s h hserves hopen => ?_⟩
  · have burned := step_burnedFrom hstep
    exact ⟨burned.length_le hle, burned.hash_prefix, burned.seal0, burned.seal1, burned.seal2, burned.isSealed⟩
  · exact ⟨_, rfl, Prod.mk.inj (optionLoadComplete_fuseImage _ _ hload hclocked)⟩
  · exact ⟨_, rfl, Prod.mk.inj (sealDone_fuseImage hburning)⟩
  · exact ⟨_, exec_readReg_dbStatus s h hserves hopen, dbStatus_sealed s.dev⟩

end Sys2Proof.Machine
end
